-- ==== Sys2Proof/Word.lean ====
section
/-! DEFINITION. The plain number and byte types the whole model uses. -/

namespace Sys2Proof

/-- One byte on a bus, in a frame or in the flash. -/
abbrev Byte := BitVec 8

/-- A byte string in the order in which it is sent, received or stored. -/
abbrev Bytes := List Byte

/-- The levels on BP_IO3 to BP_IO0 at one clock of the Boot Port; bit n is BP_IO(n) (R43). -/
abbrev Clock := BitVec 4

/-- A 32-bit number: a version, a tag, a rollback floor, a word of SHA-256. -/
abbrev Word32 := BitVec 32

/-- A logical address, as the SoC sends it (00_scope.md, Address spaces). -/
abbrev LogicalAddress := BitVec 24

end Sys2Proof
end

