-- ==== Sys2Proof/Syntax.lean ====
section
/-! DEFINITION. The commands of the part: one constructor for each row of spec/opcode_table.json.

Operands. `clocks` holds the levels of the clocks the sender makes in the receive phases of a read, after the command byte
and up to the data phase. A taken command has them in two parts, one after the other: `phases` for the phases of the
command (R25), `extra` for what the sender clocks beyond them up to the rise of the select. The part sees one run of clocks
and makes bytes of it by its lane mode (R25, R43). `dataClocks` counts the clocks of a data-out phase up to the next event.
`reply` is the flash's own answer should the transaction suspend a running command (R59). `proof` and `body` are the owner
proof, if any, and the body of a request frame (R204). IGNORED_TRANSACTION carries a raw transaction: every clock of it, the
command byte's among them (log 30). -/

namespace Sys2Proof

/-- R203: the two status bytes the controller reads after a suspend: the busy one and the suspended one. -/
structure StatusPair where
  busy : Byte
  suspended : Byte
deriving DecidableEq, Repr

/-- R59, R203: the status pairs with which a fitted flash answers a suspend, read in order until one decides. -/
abbrev SuspendReply := List StatusPair

/-- A transaction from its first clock to the rise of its select, with the flash's answer to a suspend (log 30). -/
structure RawTransaction where
  clocks : List Clock
  reply : SuspendReply
deriving DecidableEq, Repr

/-- A command or event of the part, one row of the opcode table each. -/
inductive Instr where
  /-- POWER_ON (R66). -/
  | powerOn
  /-- PIN_RESET (R66). -/
  | pinReset
  /-- RST_N_RELEASE (R106). -/
  | rstNRelease
  /-- RESTART_RESET (R67). -/
  | restartReset
  /-- FLASH_RESET_RECOVERY_END (R65). -/
  | flashResetRecoveryEnd
  /-- DOWNSTREAM_ID_CAPTURE (R65). -/
  | downstreamIdCapture (manufacturer deviceType : Byte)
  /-- READ (R29). -/
  | read (clocks : List Clock) (dataClocks : Nat) (reply : SuspendReply)
  /-- FAST_READ (R29). -/
  | fastRead (clocks : List Clock) (dataClocks : Nat) (reply : SuspendReply)
  /-- QUAD_OUTPUT_READ (R29). -/
  | quadOutputRead (clocks : List Clock) (dataClocks : Nat) (reply : SuspendReply)
  /-- READ_TRANSACTION_END (R60). -/
  | readTransactionEnd (dataClocks : Nat) (reply : SuspendReply)
  /-- READ_STATUS (R39). -/
  | readStatus (dataClocks : Nat)
  /-- READ_ID (R41). -/
  | readId (dataClocks : Nat)
  /-- WRITE_ENABLE (R37). -/
  | writeEnable (phases extra : List Clock)
  /-- WRITE_DISABLE (R37). -/
  | writeDisable (phases extra : List Clock)
  /-- PAGE_PROGRAM (R33). -/
  | pageProgram (phases extra : List Clock)
  /-- SECTOR_ERASE (R33). -/
  | sectorErase (phases extra : List Clock)
  /-- BLOCK_ERASE (R33). -/
  | blockErase (phases extra : List Clock)
  /-- CHIP_ERASE (R19). -/
  | chipErase (opcode : Byte) (phases extra : List Clock)
  /-- WRITE_VERDICT (R34). -/
  | writeVerdict
  /-- OPERATION_COMPLETION (R57). -/
  | operationCompletion
  /-- OPERATION_TIMEOUT (R58). -/
  | operationTimeout
  /-- MANAGEMENT_POST (R186). -/
  | managementPost (phases extra : List Clock)
  /-- MANAGEMENT_FETCH (R192). -/
  | managementFetch (dataClocks : Nat)
  /-- FETCH_COUNT_REPORT (R193). -/
  | fetchCountReport (dataClocks : Nat)
  /-- RESET_ENABLE (R46). -/
  | resetEnable (phases extra : List Clock)
  /-- RESET (R46). -/
  | reset (phases extra : List Clock)
  /-- ENTER_QUAD_ALL (R44). -/
  | enterQuadAll (phases extra : List Clock)
  /-- EXIT_QUAD_ALL (R44). -/
  | exitQuadAll (phases extra : List Clock)
  /-- IGNORED_TRANSACTION (R26). -/
  | ignoredTransaction (raw : RawTransaction)
  /-- CHUNK_DELIVERY (R62). -/
  | chunkDelivery
  /-- CHUNK_END (R72). -/
  | chunkEnd
  /-- SIGNATURE_COMPLETION (R81). -/
  | signatureCompletion
  /-- STORE_WRITE_END (R148). -/
  | storeWriteEnd
  /-- SECRET_RESPONSE_EXPIRY (R182). -/
  | secretResponseExpiry
  /-- GET_INFO (R198). -/
  | getInfo (proof : Option Bytes) (body : Bytes)
  /-- GET_STATUS (R197). -/
  | getStatus (proof : Option Bytes) (body : Bytes)
  /-- CLEAR_EVENTS (R195). -/
  | clearEvents (proof : Option Bytes) (body : Bytes)
  /-- SET_ALERT_MASK (R196). -/
  | setAlertMask (proof : Option Bytes) (body : Bytes)
  /-- RESTART (R200). -/
  | restart (proof : Option Bytes) (body : Bytes)
  /-- READ_MAP (R199). -/
  | readMap (proof : Option Bytes) (body : Bytes)
  /-- RESTRICT_REGION (R20). -/
  | restrictRegion (proof : Option Bytes) (body : Bytes)
  /-- LOAD_SLOT_MAP (R5). -/
  | loadSlotMap (proof : Option Bytes) (body : Bytes)
  /-- GENERATE_IDENTITY (R138). -/
  | generateIdentity (proof : Option Bytes) (body : Bytes)
  /-- LOAD_ENDORSEMENT (R140). -/
  | loadEndorsement (proof : Option Bytes) (body : Bytes)
  /-- LOAD_UPDATE_KEY (R151). -/
  | loadUpdateKey (proof : Option Bytes) (body : Bytes)
  /-- FINISH_PROVISIONING (R152). -/
  | finishProvisioning (proof : Option Bytes) (body : Bytes)
  /-- GET_IDENTITY (R141). -/
  | getIdentity (proof : Option Bytes) (body : Bytes)
  /-- QUOTE (R143). -/
  | quote (proof : Option Bytes) (body : Bytes)
  /-- READ_LANE (R136). -/
  | readLane (proof : Option Bytes) (body : Bytes)
  /-- EXTEND_LANE (R134). -/
  | extendLane (proof : Option Bytes) (body : Bytes)
  /-- OPEN_STAGING (R109). -/
  | openStaging (proof : Option Bytes) (body : Bytes)
  /-- VERIFY_STAGED (R110). -/
  | verifyStaged (proof : Option Bytes) (body : Bytes)
  /-- COMMIT_STAGED (R119). -/
  | commitStaged (proof : Option Bytes) (body : Bytes)
  /-- CONFIRM_ACTIVE (R123). -/
  | confirmActive (proof : Option Bytes) (body : Bytes)
  /-- ABANDON_STAGING (R116). -/
  | abandonStaging (proof : Option Bytes) (body : Bytes)
  /-- GET_SLOT_STATUS (R126). -/
  | getSlotStatus (proof : Option Bytes) (body : Bytes)
  /-- TAKE_OWNERSHIP (R156). -/
  | takeOwnership (proof : Option Bytes) (body : Bytes)
  /-- CHANGE_OWNER_TOKEN (R160). -/
  | changeOwnerToken (proof : Option Bytes) (body : Bytes)
  /-- RELEASE_OWNERSHIP (R161). -/
  | releaseOwnership (proof : Option Bytes) (body : Bytes)
  /-- ADD_UPDATE_KEY (R163). -/
  | addUpdateKey (proof : Option Bytes) (body : Bytes)
  /-- REVOKE_UPDATE_KEY (R164). -/
  | revokeUpdateKey (proof : Option Bytes) (body : Bytes)
  /-- STORE_CREDENTIAL (R172). -/
  | storeCredential (proof : Option Bytes) (body : Bytes)
  /-- RELEASE_CREDENTIAL (R173). -/
  | releaseCredential (proof : Option Bytes) (body : Bytes)
  /-- DERIVE (R175). -/
  | derive (proof : Option Bytes) (body : Bytes)
  /-- ERASE_CREDENTIAL (R176). -/
  | eraseCredential (proof : Option Bytes) (body : Bytes)
  /-- LIST_CREDENTIALS (R177). -/
  | listCredentials (proof : Option Bytes) (body : Bytes)
deriving DecidableEq, Repr

end Sys2Proof
end

