-- ==== Sys2Proof/Decode.lean ====
section
/-! DEFINITION. Reading a command from a word. spec/opcode_table.json gives bits for none of its rows, so no word
spells a command (log 21). Commands reach the part through its queue. -/

namespace Sys2Proof

/-- No row of the opcode table has bits, so no word spells a command (98_reader.md counts 0 rows with fixed bits). -/
def decodeTableWord (_nbits _w : Nat) : Option Instr := none

end Sys2Proof
end

