-- ==== Sys2Proof/Machine/Bytes.lean ====
section
/-! DEFINITION. Byte order and byte strings (R201): multi-byte numbers in frames are little-endian, digests enter the
Signature Unit with their first byte most significant (R77). -/

namespace Sys2Proof.Machine

/-- R201: `n` bytes of a number, least significant byte first. -/
def leBytes : Nat → Nat → Bytes
  | 0, _ => []
  | n + 1, v => BitVec.ofNat 8 v :: leBytes n (v / 256)

/-- R201: the number whose bytes are given, least significant byte first. -/
def leNat : Bytes → Nat
  | [] => 0
  | b :: rest => b.toNat + 256 * leNat rest

/-- R77, 00_scope.md Byte order: the number whose bytes are given, most significant byte first. -/
def beNat (bytes : Bytes) : Nat := leNat bytes.reverse

/-- 00_scope.md Byte order: `n` bytes of a number, most significant byte first. -/
def beBytes (n v : Nat) : Bytes := (leBytes n v).reverse

/-- The `len` bytes from position `off`. -/
def slice (bytes : Bytes) (off len : Nat) : Bytes := (bytes.drop off).take len

/-- The byte at a position; 0 beyond the end. -/
def byteAt (bytes : Bytes) (i : Nat) : Byte := bytes.getD i 0

/-- R201: the little-endian number of `len` bytes at position `off`. -/
def leAt (bytes : Bytes) (off len : Nat) : Nat := leNat (slice bytes off len)

/-- R202: a yes or no byte. -/
def flagByte (b : Bool) : Byte := if b then 1 else 0

/-- `n` zero bytes. -/
def zeroBytes (n : Nat) : Bytes := List.replicate n 0

/-- The bytes `off` to `off + len - 1` overwritten with zero. -/
def zeroRange (bytes : Bytes) (off len : Nat) : Bytes :=
  bytes.take off ++ zeroBytes (slice bytes off len).length ++ bytes.drop (off + len)

end Sys2Proof.Machine
end

