-- ==== Sys2Proof/Machine/State.lean ====
section
/-! DEFINITION. Every kept item of the part as plain data, block by block, and its value after reset. -/

namespace Sys2Proof.Machine

/-! ### Names used across blocks -/

/-- The two image slots (00_scope.md, Names). -/
inductive Slot where | a | b
deriving DecidableEq, Repr

/-- R146: the life stage of the part. -/
inductive Lifecycle where | blank | provisioned | owned
deriving DecidableEq, Repr

/-! ### Boot Port (R24) -/

/-- R24: the Boot Port's line usage. -/
inductive LaneMode where | single | quadAll
deriving DecidableEq, Repr

/-- R43: the lines that carry a phase of a transaction. -/
inductive Lines where | io0 | io1 | io0to3
deriving DecidableEq, Repr

/-- R22, R34: the kind of a program or erase. -/
inductive CommandKind where | program | sectorErase | blockErase | chipErase
deriving DecidableEq, Repr

/-- R22: why a program or erase was refused. -/
inductive RefusalReason where | unmapped | noRight | stagingClosed | chipErase
deriving DecidableEq, Repr

/-- R34: what the Boot Port hands the Translation Unit with a taken program or erase. -/
structure TakenCommand where
  kind : CommandKind
  address : LogicalAddress
  page : List (Option Byte)
deriving DecidableEq, Repr

/-- R24: the write record; while DECIDING it carries the command handed over (R34). -/
inductive WriteRecord where
  | none
  | deciding (command : TakenCommand)
  | inFlight
deriving DecidableEq, Repr

/-! ### Translation Unit (R1, R2, R22) -/

/-- R1: what a Region Table entry maps to. -/
inductive Target where | none | direct | active | staging
deriving DecidableEq, Repr

/-- R2: a set of rights. -/
structure Rights where
  r : Bool
  p : Bool
  e : Bool
deriving DecidableEq, Repr

/-- R1: one entry of the live Region Table; `stop` is the entry's exclusive end in sectors. -/
structure Region where
  stop : Nat
  target : Target
  granted : Rights
  live : Rights
  base : Nat
deriving DecidableEq, Repr

/-- R22: the details of the first refusal. -/
structure FirstRefusal where
  address : LogicalAddress
  kind : CommandKind
  reason : RefusalReason
deriving DecidableEq, Repr

structure TranslationUnit where
  table : List Region
  selector : Slot
  violations : Nat
  firstRefusal : Option FirstRefusal
deriving DecidableEq, Repr

/-- R12, R29, R53: the read transaction in progress, with the table and selector live at its start. `dataLines` carry its
data phase (R43), and `dataClocks` counts the clocks of it so far. -/
structure ReadTxn where
  table : List Region
  selector : Slot
  nextAddress : LogicalAddress
  streaming : Bool
  dataPhase : Bool
  holdsFlash : Bool
  dataLines : Lines
  dataClocks : Nat
deriving DecidableEq, Repr

/-- R192, R193: the FETCH transaction in progress. `fixedLength` is the frame length of the response fixed at its
start, `stillPresent` whether that response is still in the buffer, `dataClocks` the clocks of its data phase so far. -/
structure FetchTxn where
  fixedLength : Option Nat
  stillPresent : Bool
  dataClocks : Nat
deriving DecidableEq, Repr

structure BootPort where
  wel : Bool
  writeRecord : WriteRecord
  laneMode : LaneMode
  resetEnable : Bool
  idManufacturer : Byte
  idType : Byte
  pageBuffer : List (Option Byte)
  intakeCount : Nat
  intake : Bytes
  readTxn : Option ReadTxn
  fetchTxn : Option FetchTxn
  out : Bytes
  outLines : Lines
deriving DecidableEq, Repr

/-! ### Flash Port Controller (R52, R55, R61) and the flash behind it (R50) -/

/-- R55: the kind of the in-flight operation. -/
inductive OpKind where | program | sectorErase | blockErase | eraseSeries
deriving DecidableEq, Repr

/-- R55: the phase of the in-flight operation. -/
inductive OpPhase where | queued | running | suspended
deriving DecidableEq, Repr

/-- R55: the in-flight operation record; `runningTime` is in milliseconds. -/
structure FlightOp where
  kind : OpKind
  targets : List Nat
  image : Bytes
  index : Nat
  phase : OpPhase
  runningTime : Nat
deriving DecidableEq, Repr

/-- R61: who placed a chunk request or owns a scan. -/
inductive ScanOwner where | bootScan | stagedScan
deriving DecidableEq, Repr

/-- R61: a chunk request; `reading` is its state READING, otherwise it is WAITING. -/
structure ChunkRequest where
  owner : ScanOwner
  address : Nat
  length : Nat
  reading : Bool
deriving DecidableEq, Repr

/-- R52, R65, R106, R150: PREPARING in its steps, or READY. -/
inductive Prep where
  /-- PREPARING, held by RST_N low (R106). -/
  | heldByPin
  /-- PREPARING, after a reset-time store write (R150). -/
  | afterWrite
  /-- PREPARING, in the flash's reset recovery interval (R65 step 1). -/
  | recovery
  /-- PREPARING, the identification read issued (R65 step 2). -/
  | identifying
  | ready
deriving DecidableEq, Repr

/-- R203: the two data lines of the Flash Port. -/
inductive FpLine where | io0 | io1
deriving DecidableEq, Repr

/-- R203: one command on the Flash Port. -/
inductive FpCommand where
  | read (address : Nat)
  | pageProgram (address : Nat) (image : Bytes)
  | sectorErase (address : Nat)
  | blockErase (address : Nat)
  | writeEnable
  | readBusy
  | readSuspended
  | suspend
  | resume
  | resetEnable
  | reset
  | readIdentification
deriving DecidableEq, Repr

structure FlashPort where
  run : Option Nat
  op : Option FlightOp
  chunk : Option ChunkRequest
  chunkBuffer : Bytes
  prep : Prep
  sent : List FpCommand
deriving DecidableEq, Repr

/-- R50: the device behind the Flash Port, as the part relies on it. `cells` is canonical (`Flash.wf`). -/
structure Flash where
  present : Bool
  cells : List Host.Cell
deriving DecidableEq, Repr

/-! ### Digest Engine and Signature Unit (R68, R69, R77) -/

/-- R68, R77: the two places of each computing block. -/
inductive Place where | scan | channel
deriving DecidableEq, Repr

/-- R69: the work an item serves. -/
inductive DigestWork where
  | manifest | segment | bootExtend | scanFailureEvent | trialRevertEvent
  | laneExtend | ownerProof | newToken | laneBinding | derive | quoteBody
deriving DecidableEq, Repr

/-- R68: the kind of an item. -/
inductive ItemKind where | buffer | segment
deriving DecidableEq, Repr

/-- R68: an item of the Digest Engine. `chunkSlot` is the delivered chunk not yet begun, `inHand` the segment chunk
in absorption, `running` the eight words of the SHA-256 state over the chunks done. -/
structure DigestItem where
  work : DigestWork
  kind : ItemKind
  length : Nat
  input : Bytes
  chunkSlot : Option Bytes
  inHand : Bytes
  chunksDone : Nat
  running : List Word32
deriving DecidableEq, Repr

structure DigestEngine where
  scan : Option DigestItem
  channel : Option DigestItem
  scanFirst : Bool
  absorbing : Option Place
  owed : Bool
deriving DecidableEq, Repr

/-- R78 to R80: an operation of the Signature Unit with its copied inputs. -/
inductive SigOp where
  | verify (digest key signature : Bytes)
  | sign (digest : Bytes) (secret : Nat)
  | generate
deriving DecidableEq, Repr

/-- R77: an operation in a place; `running` is phase RUNNING, otherwise it is WAITING. -/
structure SigItem where
  op : SigOp
  running : Bool
deriving DecidableEq, Repr

structure SignatureUnit where
  scan : Option SigItem
  channel : Option SigItem
  scanFirst : Bool
deriving DecidableEq, Repr

/-! ### Protected Store (R147, R148) -/

/-- R4: the slot map, in 64 KiB units. -/
structure SlotMap where
  aBase : Nat
  bBase : Nat
  slotLength : Nat
  recoveryBase : Nat
  recoveryLength : Nat
deriving DecidableEq, Repr

/-- R84: the state of a slot; the attempts remaining are present in TRIAL. -/
inductive SlotState where
  | empty | valid
  | trial (attempts : Nat)
  | fallback | rejected | failed
deriving DecidableEq, Repr

/-- R84: the slot record. -/
structure SlotRecord where
  active : Slot
  stateA : SlotState
  stateB : SlotState
deriving DecidableEq, Repr

/-- R137: the endorsement with its declared length. -/
inductive Endorsement where
  | absent
  | part (declared : Nat) (bytes : Bytes)
  | complete (declared : Nat) (bytes : Bytes)
deriving DecidableEq, Repr

/-- R137: the identity key pair; the public key is x then y, little-endian. -/
structure IdentityKey where
  secret : Nat
  publicKey : Bytes
deriving DecidableEq, Repr

/-- R162: an update key slot. -/
inductive KeySlot where
  | empty
  | active (key : Bytes)
  | revoked (key : Bytes)
deriving DecidableEq, Repr

/-- R165: what a credential is. -/
inductive CredClass where | ownerPassphrase | wirelessKey | serviceToken | tlsKey
deriving DecidableEq, Repr

/-- R165: the policy a credential's use must satisfy. -/
inductive Binding where
  | none
  | lanes (mask : Byte) (reference : Bytes)
  | signer (keySlot : Nat) (minVersion : Word32)
deriving DecidableEq, Repr

/-- R165: a credential record; its length is that of `secret`. -/
structure Credential where
  handle : Nat
  cls : CredClass
  exportable : Bool
  gated : Bool
  binding : Binding
  secret : Bytes
deriving DecidableEq, Repr

/-- R147: the records of the Protected Store. -/
structure Store where
  lifecycle : Lifecycle
  identity : Option IdentityKey
  endorsement : Endorsement
  slotMap : Option SlotMap
  slotRecord : Option SlotRecord
  floor : Option Word32
  keys : List KeySlot
  verifier : Option Bytes
  failures : Nat
  credentials : List Credential
deriving DecidableEq, Repr

/-- R148: the contents of one write, all its records together. -/
inductive StoreWrite where
  | provisioning (floor : Word32)
  | lockoutLowering
  | slotMap (m : SlotMap)
  | identityKey (k : IdentityKey)
  | endorsement (e : Endorsement)
  | keySlot (index : Nat) (k : KeySlot)
  | slotRecord (r : SlotRecord)
  | floor (v : Word32)
  | takeOwnership (verifier : Bytes)
  | verifier (v : Bytes)
  | failures (n : Nat)
  | releaseOwnership
  | putCredential (c : Credential)
  | removeCredential (handle : Nat)
deriving DecidableEq, Repr

/-- R148, R150: who waits for a write. -/
inductive Requester where | slotController | channel | partReset
deriving DecidableEq, Repr

structure PendingWrite where
  requester : Requester
  contents : StoreWrite
deriving DecidableEq, Repr

/-- R148: the write in progress and the write waiting behind it. -/
structure StoreWrites where
  current : Option PendingWrite
  waiting : Option PendingWrite
deriving DecidableEq, Repr

/-! ### Image Slot Controller (R91, R97, R107) -/

/-- R87 to R90, R202: the reason of a failed check, and the tag of a TRIAL_REVERT record. -/
inductive ScanReason where
  | badMagic | badFormat | signerEmpty | signerRevoked | badSignature | versionBelowFloor
  | badRegionTable | regionAlias | badSegment | segmentMismatch | attemptsExhausted
deriving DecidableEq, Repr

/-- R91: the phase of the scan record. -/
inductive ScanPhase where | idle | manifestRead | manifestDigest | signature | segments | ended
deriving DecidableEq, Repr

/-- R91, R96: the result of a scan; `segment` is the segment index of SEGMENT_MISMATCH and 0 otherwise. -/
inductive ScanResult where
  | pass
  | failure (reason : ScanReason) (segment : Nat)
  | stale
  | abandoned
deriving DecidableEq, Repr

structure ScanRecord where
  owner : ScanOwner
  slot : Slot
  phase : ScanPhase
  manifest : Option Bytes
  signerKey : Option Bytes
  manifestDigest : Bytes
  segmentIndex : Nat
  nextChunk : Nat
  segmentDigests : List Bytes
  result : Option ScanResult
deriving DecidableEq, Repr

/-- R107: the staging state. -/
inductive StagingState where | closed | opened | verifying | verified
deriving DecidableEq, Repr

/-- R107: the last outcome with the fields present under it. -/
inductive StagingOutcome where
  | none
  | pass (version : Word32) (signer : Nat) (label : Bytes)
  | rejected (reason : ScanReason) (segment : Nat)
  | stale
  | abandoned
deriving DecidableEq, Repr

structure StagingRecord where
  state : StagingState
  outcome : StagingOutcome
  chunksDone : Nat
  chunksTotal : Nat
  preemptions : Nat
deriving DecidableEq, Repr

/-- R97: the boot outcome. -/
inductive BootOutcome where | unverified | pass | fallbackPass | recovery
deriving DecidableEq, Repr

/-- R97: the boot record. -/
structure BootRecord where
  outcome : BootOutcome
  slot : Slot
  version : Option Word32
  signer : Option Nat
deriving DecidableEq, Repr

/-- R98 to R103: the step the boot scan waits in. -/
inductive BootStage where
  /-- Before the identification capture of R65. -/
  | idle
  /-- R99, rows TRIAL 1 to 7: the write that spends an attempt. -/
  | attemptWrite
  /-- R99, row TRIAL 0 with FALLBACK: the revert write. -/
  | revertWrite
  /-- R99, row TRIAL 0 without FALLBACK: the write of X FAILED. -/
  | exhaustedWrite
  /-- R104: the event digest of the TRIAL_REVERT record. -/
  | revertDigest
  /-- R104: the fold of the TRIAL_REVERT record into lane 0. -/
  | revertFold
  /-- A scan with owner BOOT_SCAN is in hand. -/
  | scanning
  /-- R101: the event digest of the SCAN_FAILURE record. -/
  | failureDigest
  /-- R101: the fold of the SCAN_FAILURE record into lane 0. -/
  | failureFold
  /-- R101, first step: the revert write after a failed trial. -/
  | failureRevertWrite
  /-- R101, second step: the write of S FAILED. -/
  | failedWrite
  /-- R100 step 1: the write of S VALID. -/
  | passWrite
  /-- R100 step 2: the extend for this segment. -/
  | segmentFold (segment : Nat)
  /-- R103: SOC_RUN released. -/
  | released
deriving DecidableEq, Repr

structure SlotController where
  scan : ScanRecord
  staging : StagingRecord
  boot : BootRecord
  stage : BootStage
  bootX : Slot
  bootXTrial : Bool
  bootFallback : Bool
deriving DecidableEq, Repr

/-! ### Lane File (R128, R129) -/

/-- R129: the source of a log record. -/
inductive LogSource where | scanSegment | scanFailure | trialRevert | request
deriving DecidableEq, Repr

structure LogRecord where
  digest : Bytes
  source : LogSource
  tag : Word32
deriving DecidableEq, Repr

/-- R128, R130: the extend in progress. -/
structure PendingExtend where
  oldValue : Bytes
  record : LogRecord
deriving DecidableEq, Repr

structure Lane where
  value : Bytes
  log : List LogRecord
  extending : Option PendingExtend
deriving DecidableEq, Repr

/-! ### Management Channel and Credential Unit (R185, R165) -/

/-- R205: the management requests. -/
inductive Request where
  | getInfo | getStatus | clearEvents | setAlertMask | restart | readMap | restrictRegion
  | generateIdentity | loadEndorsement | loadSlotMap | loadUpdateKey | finishProvisioning
  | getIdentity | quote | readLane | extendLane
  | openStaging | verifyStaged | commitStaged | confirmActive | abandonStaging | getSlotStatus
  | takeOwnership | changeOwnerToken | releaseOwnership | addUpdateKey | revokeUpdateKey
  | storeCredential | releaseCredential | derive | eraseCredential | listCredentials
deriving DecidableEq, Repr

/-- R204: the status codes. -/
inductive Status where
  | ok | accepted | badFrame | unknownRequest | badArgument | badState
  | denied | lockedOut | notFound | noSpace | policy | logFull | keyInUse
deriving DecidableEq, Repr

/-- R185, R187: what a WORKING channel waits for. -/
inductive Job where
  /-- Accepted; the checks of R188 and R189 are being made. -/
  | taken
  /-- The end of a reset-time write (R150). -/
  | resetWrite
  /-- The restart (R200), with the floor of a FINISH_PROVISIONING (R153). -/
  | restart (provisioningFloor : Option Word32)
  /-- The digest of the owner proof (R158). -/
  | gateDigest (r : Request)
  /-- The failure count write of the gate (R158); `passed` says the proof was right. -/
  | gateWrite (r : Request) (passed : Bool)
  /-- The GENERATE operation (R138). -/
  | generate
  /-- The lane fold of EXTEND_LANE (R135). -/
  | laneFold (lane : Nat)
  /-- The digest of a new owner token (R156, R160). -/
  | tokenDigest (r : Request)
  /-- The digest of the held quote body (R144). -/
  | quoteDigest (body : Bytes)
  /-- The SIGN over the held quote body (R144). -/
  | quoteSign (body : Bytes)
  /-- The lane-binding digest (R170). -/
  | laneBinding (r : Request)
  /-- The derive digest (R175). -/
  | deriveDigest
  /-- The floor write of CONFIRM_ACTIVE (R123 step 1). -/
  | floorWrite
  /-- The request's last store write. -/
  | lastWrite (r : Request)
deriving DecidableEq, Repr

/-- R185: the channel state. -/
inductive ChannelState where
  | idle
  | working (job : Job)
deriving DecidableEq, Repr

/-- R185, R179: the response buffer with its record. -/
structure Response where
  frame : Bytes
  delivered : Bool
  secret : Bool
  boundMask : Option Byte
  readyTime : Option Nat
deriving DecidableEq, Repr

structure EventFlags where
  scanDone : Bool
  violation : Bool
  bootNotice : Bool
deriving DecidableEq, Repr

structure AlertMask where
  rsp : Bool
  scan : Bool
  viol : Bool
  boot : Bool
deriving DecidableEq, Repr

structure Channel where
  request : Bytes
  state : ChannelState
  response : Option Response
  scrubTimer : Option Nat
  flags : EventFlags
  dropped : Bool
  mask : AlertMask
deriving DecidableEq, Repr

/-- R165, R170: the Credential Unit's working copy of the record named, with the values it has read for the policy: the
boot record (R168) and the values of the lanes of the mask. `boundLaneExtended` records a notification of R132 that
named a lane of the mask. -/
structure CredWork where
  record : Credential
  bootRead : Option BootRecord
  lanesRead : Option Bytes
  boundLaneExtended : Bool
deriving DecidableEq, Repr

/-! ### The whole part -/

/-- Every kept item of the part, its pins, the flash behind it, the model's time and draw counters, and the queue of
commands that are waiting. -/
structure State where
  bp : BootPort
  tu : TranslationUnit
  fp : FlashPort
  flash : Flash
  de : DigestEngine
  su : SignatureUnit
  isc : SlotController
  lanes : List Lane
  store : Store
  writes : StoreWrites
  cred : Option CredWork
  mc : Channel
  socRun : Bool
  rstLow : Bool
  clock : Nat
  draws : Nat
  pending : List Instr
deriving DecidableEq, Repr

/-- The part never stops with a fault: every refusal of the spec is a record, a status or an ignored transaction
(R22, R189, R26). The type is empty. -/
inductive Fault : Type
deriving DecidableEq, Repr

/-- The reasons a command has no meaning. -/
inductive Refusal where
  /-- Raised by an arm of `exec` for a command that has no meaning yet. Safe: the machine stops where the part goes on. -/
  | notModelled (mnemonic : String)
deriving DecidableEq, Repr

/-! ### Values after reset -/

/-- R2: no rights. -/
def Rights.empty : Rights := ⟨false, false, false⟩

/-- R3: an entry of the held table. -/
def Region.held : Region := ⟨0, .none, .empty, .empty, 0⟩

/-- R24: the Boot Port after a part reset. -/
def BootPort.afterReset : BootPort where
  wel := false
  writeRecord := .none
  laneMode := .single
  resetEnable := false
  idManufacturer := 0xFF
  idType := 0xFF
  pageBuffer := List.replicate 256 none
  intakeCount := 0
  intake := []
  readTxn := none
  fetchTxn := none
  out := []
  outLines := .io1

/-- R3, R6, R22: the Translation Unit after a part reset, with the held table. -/
def TranslationUnit.afterReset : TranslationUnit where
  table := List.replicate 16 .held
  selector := .a
  violations := 0
  firstRefusal := none

/-- R52: the Flash Port Controller after a part reset, before its preparation begins. -/
def FlashPort.afterReset : FlashPort where
  run := none
  op := none
  chunk := none
  chunkBuffer := []
  prep := .heldByPin
  sent := []

/-- R76: the Digest Engine after a part reset. -/
def DigestEngine.afterReset : DigestEngine where
  scan := none
  channel := none
  scanFirst := false
  absorbing := none
  owed := false

/-- R83: the Signature Unit after a part reset. -/
def SignatureUnit.afterReset : SignatureUnit where
  scan := none
  channel := none
  scanFirst := false

/-- R91: the scan record after a part reset. -/
def ScanRecord.afterReset : ScanRecord where
  owner := .bootScan
  slot := .a
  phase := .idle
  manifest := none
  signerKey := none
  manifestDigest := List.replicate 32 0
  segmentIndex := 0
  nextChunk := 0
  segmentDigests := []
  result := none

/-- R107: the staging record after a part reset. -/
def StagingRecord.afterReset : StagingRecord where
  state := .closed
  outcome := .none
  chunksDone := 0
  chunksTotal := 0
  preemptions := 0

/-- R97: the boot record after a part reset. -/
def BootRecord.afterReset : BootRecord where
  outcome := .unverified
  slot := .a
  version := none
  signer := none

/-- R91, R97, R105, R107: the Image Slot Controller after a part reset. -/
def SlotController.afterReset : SlotController where
  scan := .afterReset
  staging := .afterReset
  boot := .afterReset
  stage := .idle
  bootX := .a
  bootXTrial := false
  bootFallback := false

/-- R128: a lane after a part reset. -/
def Lane.afterReset : Lane where
  value := List.replicate 32 0
  log := []
  extending := none

/-- R185: the Management Channel after a part reset. -/
def Channel.afterReset : Channel where
  request := []
  state := .idle
  response := none
  scrubTimer := none
  flags := ⟨false, false, false⟩
  dropped := false
  mask := ⟨true, true, true, true⟩

/-- R147: the Protected Store of a part as delivered. -/
def Store.delivered : Store where
  lifecycle := .blank
  identity := none
  endorsement := .absent
  slotMap := none
  slotRecord := none
  floor := none
  keys := List.replicate 4 .empty
  verifier := none
  failures := 0
  credentials := []

/-- The part as delivered, right after POWER_ON: part-reset values, SOC_RUN low, and the flash preparation begun
(R65, R106). The fitted, erased flash is the model's choice (logs 1 to 3). -/
def State.reset : State where
  bp := .afterReset
  tu := .afterReset
  fp := { FlashPort.afterReset with prep := .recovery, sent := [.resetEnable, .reset] }
  flash := { present := true, cells := [] }
  de := .afterReset
  su := .afterReset
  isc := .afterReset
  lanes := List.replicate 8 .afterReset
  store := .delivered
  writes := ⟨none, none⟩
  cred := none
  mc := .afterReset
  socRun := false
  rstLow := false
  clock := 0
  draws := 0
  pending := []

end Sys2Proof.Machine
end

