-- ==== Sys2Proof/Machine/Codes.lean ====
section
/-! DEFINITION. The codes of R202, R203, R204 and R205, in both directions where the part reads them too. -/

namespace Sys2Proof.Machine

def lifecycleCode : Lifecycle → Byte
  | .blank => 0x00 | .provisioned => 0x01 | .owned => 0x02

def slotCode : Slot → Byte
  | .a => 0x00 | .b => 0x01

def bootOutcomeCode : BootOutcome → Byte
  | .unverified => 0x00 | .pass => 0x01 | .fallbackPass => 0x02 | .recovery => 0x03

def slotStateCode : SlotState → Byte
  | .empty => 0x00 | .valid => 0x01 | .trial _ => 0x02 | .fallback => 0x03 | .rejected => 0x04 | .failed => 0x05

def stagingStateCode : StagingState → Byte
  | .closed => 0x00 | .opened => 0x01 | .verifying => 0x02 | .verified => 0x03

def stagingOutcomeCode : StagingOutcome → Byte
  | .none => 0x00 | .pass _ _ _ => 0x01 | .rejected _ _ => 0x02 | .stale => 0x03 | .abandoned => 0x04

def targetCode : Target → Byte
  | .none => 0x00 | .direct => 0x01 | .active => 0x02 | .staging => 0x03

/-- R202: the target of a code; a code above 3 never reaches an installed table (R87 check 2). -/
def targetOfCode (c : Byte) : Target :=
  if c = 0x01 then .direct else if c = 0x02 then .active else if c = 0x03 then .staging else .none

/-- R202: the rights byte, bit 0 R, bit 1 P, bit 2 E. -/
def rightsByte (x : Rights) : Byte :=
  (if x.r then 0x01 else 0x00) ||| (if x.p then 0x02 else 0x00) ||| (if x.e then 0x04 else 0x00)

/-- R202: the rights a byte names. -/
def rightsOfByte (b : Byte) : Rights := ⟨b.getLsbD 0, b.getLsbD 1, b.getLsbD 2⟩

def scanReasonCode : ScanReason → Byte
  | .badMagic => 0x01 | .badFormat => 0x02 | .signerEmpty => 0x03 | .signerRevoked => 0x04
  | .badSignature => 0x05 | .versionBelowFloor => 0x06 | .badRegionTable => 0x07 | .regionAlias => 0x08
  | .badSegment => 0x09 | .segmentMismatch => 0x0A | .attemptsExhausted => 0x0B

def refusalReasonCode : RefusalReason → Byte
  | .unmapped => 0x01 | .noRight => 0x02 | .stagingClosed => 0x03 | .chipErase => 0x04

def commandKindCode : CommandKind → Byte
  | .program => 0x01 | .sectorErase => 0x02 | .blockErase => 0x03 | .chipErase => 0x04

def logSourceCode : LogSource → Byte
  | .scanSegment => 0x01 | .scanFailure => 0x02 | .trialRevert => 0x03 | .request => 0x04

def keySlotCode : KeySlot → Byte
  | .empty => 0x00 | .active _ => 0x01 | .revoked _ => 0x02

def endorsementCode : Endorsement → Byte
  | .absent => 0x00 | .part _ _ => 0x01 | .complete _ _ => 0x02

def credClassCode : CredClass → Byte
  | .ownerPassphrase => 0x00 | .wirelessKey => 0x01 | .serviceToken => 0x02 | .tlsKey => 0x03

def credClassOfCode (c : Byte) : Option CredClass :=
  if c = 0x00 then some .ownerPassphrase else if c = 0x01 then some .wirelessKey
  else if c = 0x02 then some .serviceToken else if c = 0x03 then some .tlsKey else none

/-- R202: EXPORT 0x00, INTERNAL 0x01. -/
def credModeCode (exportable : Bool) : Byte := if exportable then 0x00 else 0x01

def bindingCode : Binding → Byte
  | .none => 0x00 | .lanes _ _ => 0x01 | .signer _ _ => 0x02

/-- R202: bit 0 SCAN_DONE, bit 1 VIOLATION, bit 2 BOOT_NOTICE. -/
def eventFlagsByte (f : EventFlags) : Byte :=
  (if f.scanDone then 0x01 else 0x00) ||| (if f.violation then 0x02 else 0x00) |||
    (if f.bootNotice then 0x04 else 0x00)

/-- R202: bit 0 RSP, bit 1 SCAN, bit 2 VIOL, bit 3 BOOT. -/
def alertMaskByte (m : AlertMask) : Byte :=
  (if m.rsp then 0x01 else 0x00) ||| (if m.scan then 0x02 else 0x00) |||
    (if m.viol then 0x04 else 0x00) ||| (if m.boot then 0x08 else 0x00)

/-- R202: the alert mask a byte names. -/
def alertMaskOfByte (b : Byte) : AlertMask := ⟨b.getLsbD 0, b.getLsbD 1, b.getLsbD 2, b.getLsbD 3⟩

def statusCode : Status → Byte
  | .ok => 0x00 | .accepted => 0x01 | .badFrame => 0x10 | .unknownRequest => 0x11 | .badArgument => 0x12
  | .badState => 0x13 | .denied => 0x14 | .lockedOut => 0x15 | .notFound => 0x16 | .noSpace => 0x17
  | .policy => 0x18 | .logFull => 0x19 | .keyInUse => 0x1A

def requestCode : Request → Byte
  | .getInfo => 0x01 | .getStatus => 0x02 | .clearEvents => 0x03 | .setAlertMask => 0x04 | .restart => 0x05
  | .readMap => 0x06 | .restrictRegion => 0x07
  | .generateIdentity => 0x10 | .loadEndorsement => 0x11 | .loadSlotMap => 0x12 | .loadUpdateKey => 0x13
  | .finishProvisioning => 0x14
  | .getIdentity => 0x20 | .quote => 0x21 | .readLane => 0x22 | .extendLane => 0x23
  | .openStaging => 0x30 | .verifyStaged => 0x31 | .commitStaged => 0x32 | .confirmActive => 0x33
  | .abandonStaging => 0x34 | .getSlotStatus => 0x35
  | .takeOwnership => 0x40 | .changeOwnerToken => 0x41 | .releaseOwnership => 0x42 | .addUpdateKey => 0x43
  | .revokeUpdateKey => 0x44
  | .storeCredential => 0x50 | .releaseCredential => 0x51 | .derive => 0x52 | .eraseCredential => 0x53
  | .listCredentials => 0x54

/-- R205: every request, in the order of its table. -/
def allRequests : List Request :=
  [.getInfo, .getStatus, .clearEvents, .setAlertMask, .restart, .readMap, .restrictRegion, .generateIdentity,
   .loadEndorsement, .loadSlotMap, .loadUpdateKey, .finishProvisioning, .getIdentity, .quote, .readLane, .extendLane,
   .openStaging, .verifyStaged, .commitStaged, .confirmActive, .abandonStaging, .getSlotStatus, .takeOwnership,
   .changeOwnerToken, .releaseOwnership, .addUpdateKey, .revokeUpdateKey, .storeCredential, .releaseCredential,
   .derive, .eraseCredential, .listCredentials]

/-- R189, R205: the request of a code; none for a code that is not in the table. -/
def requestOfCode (c : Byte) : Option Request := allRequests.find? fun r => requestCode r = c

/-- R203: the commands the Boot Port recognises; CHIP_ERASE has two opcodes. -/
inductive BusCommand where
  | read | fastRead | quadOutputRead | writeEnable | writeDisable | readStatus | pageProgram
  | managementPost | managementFetch | sectorErase | blockErase
  | chipErase (opcode : Byte)
  | readId | resetEnable | reset | enterQuadAll | exitQuadAll
deriving DecidableEq, Repr

/-- R203: the command of a command byte; none makes the transaction ignored (R26). -/
def busCommandOfByte (b : Byte) : Option BusCommand :=
  match b.toNat with
  | 0x03 => some .read
  | 0x0B => some .fastRead
  | 0x6B => some .quadOutputRead
  | 0x06 => some .writeEnable
  | 0x04 => some .writeDisable
  | 0x05 => some .readStatus
  | 0x02 => some .pageProgram
  | 0xD1 => some .managementPost
  | 0xD2 => some .managementFetch
  | 0x20 => some .sectorErase
  | 0xD8 => some .blockErase
  | 0xC7 => some (.chipErase 0xC7)
  | 0x60 => some (.chipErase 0x60)
  | 0x9F => some .readId
  | 0x66 => some .resetEnable
  | 0x99 => some .reset
  | 0x38 => some .enterQuadAll
  | 0xFF => some .exitQuadAll
  | _ => none

/-- R203: the controller sends on FP_IO0. -/
def fpSendLine : FpLine := .io0

/-- R203: the controller receives on FP_IO1. -/
def fpReceiveLine : FpLine := .io1

/-- R203: what a status pair shows after a suspend: the command suspended (`false`), the command ended (`true`), or
neither, and both bytes are read again. -/
def pairShows (p : StatusPair) : Option Bool :=
  if p.suspended.getLsbD 7 then some false else if p.busy.getLsbD 0 then none else some true

/-- R203: what an absent flash returns to both status reads. -/
def absentPair : StatusPair := ⟨0xFF, 0xFF⟩

/-- R59, R203: whether the pairs read after a suspend show the command ended; the first pair that decides counts. -/
def suspendFindsEnded : SuspendReply → Bool
  | [] => false
  | p :: rest => (pairShows p).getD (suspendFindsEnded rest)

/-- R59, R203: the status reads made after a suspend: both bytes, again and again until a pair decides. -/
def suspendReads : SuspendReply → List FpCommand
  | [] => []
  | p :: rest => [.readBusy, .readSuspended] ++ if (pairShows p).isSome then [] else suspendReads rest

/-- R203: the bytes the controller clocks out for a command, with four-byte addresses, most significant byte first. -/
def fpCommandBytes : FpCommand → Bytes
  | .read a => 0x13 :: beBytes 4 a
  | .pageProgram a image => 0x12 :: (beBytes 4 a ++ image)
  | .sectorErase a => 0x21 :: beBytes 4 a
  | .blockErase a => 0xDC :: beBytes 4 a
  | .writeEnable => [0x06]
  | .readBusy => [0x05]
  | .readSuspended => [0x35]
  | .suspend => [0x75]
  | .resume => [0x7A]
  | .resetEnable => [0x66]
  | .reset => [0x99]
  | .readIdentification => [0x9F]

/-- R203: the line on which the flash answers a command with data, if it does. -/
def fpAnswerLine : FpCommand → Option FpLine
  | .read _ | .readBusy | .readSuspended | .readIdentification => some fpReceiveLine
  | _ => none

end Sys2Proof.Machine
end

