-- ==== Sys2Proof/Machine/Translation.lean ====
section
/-! DEFINITION. The Translation Unit (chapter 1): the fixed tables, lookup and translation, the decision on one unit
and on a command, narrowing, and the violation record. -/

namespace Sys2Proof.Machine

/-! ### Slots and the slot map -/

/-- R6: the other slot. -/
def Slot.other : Slot → Slot
  | .a => .b
  | .b => .a

/-- R4: the physical address at which a slot begins. -/
def SlotMap.slotStart (m : SlotMap) : Slot → Nat
  | .a => m.aBase * 65536
  | .b => m.bBase * 65536

/-- R4: the length of a slot in bytes. -/
def SlotMap.slotBytes (m : SlotMap) : Nat := m.slotLength * 65536

/-- R4: the physical address at which the recovery area begins. -/
def SlotMap.recoveryStart (m : SlotMap) : Nat := m.recoveryBase * 65536

/-- R4: the length of the recovery area in bytes. -/
def SlotMap.recoveryBytes (m : SlotMap) : Nat := m.recoveryLength * 65536

/-- R5, checks 2 to 5, and R4's ranges. -/
def SlotMap.valid (m : SlotMap) : Bool :=
  decide (m.aBase ≤ 511) && decide (m.bBase ≤ 511) && decide (1 ≤ m.slotLength) && decide (m.slotLength ≤ 255) &&
  decide (m.recoveryBase ≤ 511) && decide (1 ≤ m.recoveryLength) && decide (m.recoveryLength ≤ 16) &&
  decide (m.aBase + m.slotLength ≤ 512) && decide (m.bBase + m.slotLength ≤ 512) &&
  decide (m.recoveryBase + m.recoveryLength ≤ 512) &&
  (decide (m.aBase + m.slotLength ≤ m.bBase) || decide (m.bBase + m.slotLength ≤ m.aBase)) &&
  (decide (m.aBase + m.slotLength ≤ m.recoveryBase) || decide (m.recoveryBase + m.recoveryLength ≤ m.aBase)) &&
  (decide (m.bBase + m.slotLength ≤ m.recoveryBase) || decide (m.recoveryBase + m.recoveryLength ≤ m.bBase)) &&
  decide (m.recoveryLength + m.slotLength ≤ 256)

/-! ### The fixed tables -/

/-- R3: the held table. -/
def heldTable : List Region := List.replicate 16 .held

def rightsAll : Rights := ⟨true, true, true⟩
def rightsReadOnly : Rights := ⟨true, false, false⟩

/-- An entry whose live rights equal its granted rights, as an installation leaves it (R3). -/
def installedRegion (stop : Nat) (target : Target) (rights : Rights) (base : Nat) : Region :=
  ⟨stop, target, rights, rights, base⟩

/-- R7: the identity table. -/
def identityTable : List Region :=
  installedRegion 4096 .direct rightsAll 0 :: List.replicate 15 (installedRegion 4096 .none .empty 0)

/-- R8: the recovery table of a slot map. -/
def recoveryTable (m : SlotMap) : List Region :=
  let rl := m.recoveryLength * 16
  let top := rl + m.slotLength * 16
  installedRegion rl .direct rightsReadOnly (m.recoveryBase * 16) ::
    installedRegion top .staging rightsAll 0 ::
    List.replicate 14 (installedRegion top .none .empty 0)

/-! ### Lookup and translation (R9, R10) -/

/-- What lookup finds: the entry's index and content, and the logical address at which it starts. -/
structure Found where
  index : Nat
  region : Region
  start : Nat
deriving DecidableEq, Repr

/-- R9: the least entry whose end lies above the address; `i` and `start` belong to the head of the list. -/
def lookupFrom (i start : Nat) (a : Nat) : List Region → Option Found
  | [] => none
  | e :: rest => if a < e.stop * 4096 then some ⟨i, e, start⟩ else lookupFrom (i + 1) (e.stop * 4096) a rest

/-- R9: the entry of a logical address. -/
def lookup (table : List Region) (a : LogicalAddress) : Option Found := lookupFrom 0 0 a.toNat table

/-- The size of the physical address space: 32 MiB (00_scope.md, Address spaces). -/
def physicalSize : Nat := 0x2000000

/-- R10: the physical address of a byte at offset `o` of an entry, or none where the byte is unmapped. -/
def physicalOf (m : Option SlotMap) (selector : Slot) (e : Region) (o : Nat) : Option Nat :=
  match e.target with
  | .none => none
  | .direct => if physicalSize ≤ e.base * 4096 + o then none else some (e.base * 4096 + o)
  | .active => inSlot m selector e o
  | .staging => inSlot m selector.other e o
where
  inSlot (m : Option SlotMap) (s : Slot) (e : Region) (o : Nat) : Option Nat :=
    match m with
    | none => none
    | some m => if m.slotBytes ≤ e.base * 4096 + o then none else some (m.slotStart s + e.base * 4096 + o)

/-- R9, R10: the entry and the physical address of a logical address, or none where it is unmapped. -/
def translate (table : List Region) (selector : Slot) (m : Option SlotMap) (a : LogicalAddress) :
    Option (Found × Nat) :=
  (lookup table a).bind fun f => (physicalOf m selector f.region (a.toNat - f.start)).map fun p => (f, p)

/-- R12: the live rights of entry `i` as they stand now. -/
def liveRights (table : List Region) (i : Nat) : Rights := (table.getD i .held).live

/-- R10, R12: a readable byte's entry and physical address, with the geometry of the transaction's own table and
the live rights as they stand. -/
def readable (txn : ReadTxn) (live : List Region) (m : Option SlotMap) : Option (Nat × Nat) :=
  (translate txn.table txn.selector m txn.nextAddress).bind fun fp =>
    if (liveRights live fp.1.index).r then some (fp.1.index, fp.2) else none

/-! ### The decision (R13 to R17) -/

/-- R13, R14, R15: the first logical addresses of a command's units. A chip erase has none (R19). -/
def unitsOf (c : TakenCommand) : List LogicalAddress :=
  let a := c.address.toNat
  match c.kind with
  | .program => [BitVec.ofNat 24 (a / 256 * 256)]
  | .sectorErase => [BitVec.ofNat 24 (a / 4096 * 4096)]
  | .blockErase => (List.range 16).map fun k => BitVec.ofNat 24 (a / 65536 * 65536 + 4096 * k)
  | .chipErase => []

/-- R16: the right a unit needs. -/
def hasNeededRight (kind : CommandKind) (x : Rights) : Bool :=
  match kind with
  | .program => x.p
  | _ => x.e

/-- R107: a STAGING unit passes check 3 in OPEN and VERIFYING. -/
def stagingAdmits : StagingState → Bool
  | .opened => true
  | .verifying => true
  | _ => false

/-- R16: checks 1 to 3 on one unit; the physical address of an allowed unit and whether it lies in a STAGING entry,
or the refusal reason of the first failing check. -/
def checkUnit (tu : TranslationUnit) (m : Option SlotMap) (staging : StagingState) (kind : CommandKind)
    (a : LogicalAddress) : Except RefusalReason (Nat × Bool) :=
  match translate tu.table tu.selector m a with
  | none => .error .unmapped
  | some (f, p) =>
    if !hasNeededRight kind f.region.live then .error .noRight
    else if f.region.target = .staging && !stagingAdmits staging then .error .stagingClosed
    else .ok (p, f.region.target = .staging)

/-- R17, R22: the verdict on a command. -/
inductive Verdict where
  | allowed (targets : List Nat) (inStaging : Bool)
  | refused (address : LogicalAddress) (reason : RefusalReason)
deriving DecidableEq, Repr

/-- R17: every unit allowed, or the lowest refused unit; `targets` and `inStaging` gather the units before. -/
def decideUnits (check : LogicalAddress → Except RefusalReason (Nat × Bool)) (targets : List Nat)
    (inStaging : Bool) : List LogicalAddress → Verdict
  | [] => .allowed targets inStaging
  | u :: rest =>
    match check u with
    | .error reason => .refused u reason
    | .ok (p, st) => decideUnits check (targets ++ [p]) (inStaging || st) rest

/-- R22: the address recorded for a refusal is the start address of a program and the unit's own for an erase. -/
def recordedAddress (c : TakenCommand) (unit : LogicalAddress) : LogicalAddress :=
  match c.kind with
  | .program => c.address
  | _ => unit

/-- R16 to R19: the decision on a command, with the staging state as it stands at the event (R18). -/
def decideCommand (tu : TranslationUnit) (m : Option SlotMap) (staging : StagingState) (c : TakenCommand) : Verdict :=
  match c.kind with
  | .chipErase => .refused 0 .chipErase
  | _ =>
    match decideUnits (checkUnit tu m staging c.kind) [] false (unitsOf c) with
    | .allowed targets st => .allowed targets st
    | .refused unit reason => .refused (recordedAddress c unit) reason

/-! ### The translated operation (R13 to R15, R55) -/

/-- R15: whether sixteen sector addresses are one aligned 64 KiB run. -/
def oneBlock (targets : List Nat) : Bool :=
  targets.getD 0 0 % 65536 == 0 && targets == (List.range 16).map fun k => targets.getD 0 0 + 4096 * k

/-- R55: the page image, 0xFF for each position the SoC did not program. -/
def pageImage (page : List (Option Byte)) : Bytes := page.map fun b => b.getD 0xFF

/-- R13 to R15, R55: the in-flight operation an allowed command becomes, in phase QUEUED. -/
def operationOf (c : TakenCommand) (targets : List Nat) : FlightOp :=
  match c.kind with
  | .program => ⟨.program, targets, pageImage c.page, 0, .queued, 0⟩
  | .sectorErase => ⟨.sectorErase, targets, [], 0, .queued, 0⟩
  | _ =>
    if oneBlock targets then ⟨.blockErase, targets.take 1, [], 0, .queued, 0⟩
    else ⟨.eraseSeries, targets, [], 0, .queued, 0⟩

/-! ### Installation and narrowing (R2, R3, R20) -/

/-- R20: rights less those of a mask. -/
def Rights.minus (x mask : Rights) : Rights := ⟨x.r && !mask.r, x.p && !mask.p, x.e && !mask.e⟩

/-- R20: the table with the mask removed from one entry's live rights. -/
def narrowTable (table : List Region) (i : Nat) (mask : Rights) : List Region :=
  table.modify i fun e => { e with live := e.live.minus mask }

/-! ### The violation record (R22) -/

/-- R22: enter a refusal. -/
def enterRefusal (tu : TranslationUnit) (address : LogicalAddress) (kind : CommandKind) (reason : RefusalReason) :
    TranslationUnit :=
  if tu.violations = 0 then { tu with violations := 1, firstRefusal := some ⟨address, kind, reason⟩ }
  else if tu.violations < 65535 then { tu with violations := tu.violations + 1 }
  else tu

/-- R23: clear the record. -/
def clearViolations (tu : TranslationUnit) : TranslationUnit := { tu with violations := 0, firstRefusal := none }

end Sys2Proof.Machine
end

