-- ==== Sys2Proof/WellFormed.lean ====
section
/-! DEFINITION. Which terms of `Instr` spell a command a sender can give. The machine is total on the others too;
these checks say which operands a bus transaction can have. -/

namespace Sys2Proof

/-- R203: the two opcodes of CHIP_ERASE. -/
def chipEraseOpcodes : Bytes := [0xC7, 0x60]

/-- A read clocks at most its `leading` receive bytes, of eight or two clocks each, and data only after them (R25, R29). -/
def readWellFormed (leading : Nat) (clocks : List Clock) (dataClocks : Nat) : Bool :=
  decide (clocks.length ≤ 8 * leading) &&
    (decide (dataClocks = 0) || decide (clocks.length = 8 * leading) || decide (clocks.length = 2 * leading))

/-- R203: the last pair of an answer decides, and no earlier one does. -/
def replyWellFormed (reply : SuspendReply) : Bool :=
  (reply.getLast?.any fun p => (Machine.pairShows p).isSome) &&
    reply.dropLast.all fun p => (Machine.pairShows p).isNone

/-- The length L of a request frame: code, flags, proof and body (R204). -/
def requestLength (proof : Option Bytes) (body : Bytes) : Nat :=
  2 + (proof.map List.length).getD 0 + body.length

/-- A request has a 32-byte proof or none, and a frame the intake can hold (R186, R204). -/
def requestWellFormed (proof : Option Bytes) (body : Bytes) : Bool :=
  (proof.all fun p => decide (p.length = 32)) && decide (requestLength proof body ≤ 290)

/-- The operands of a command lie in the ranges a transaction can give them. -/
def Instr.wellFormed : Instr → Bool
  | .powerOn | .pinReset | .rstNRelease | .restartReset | .flashResetRecoveryEnd => true
  | .downstreamIdCapture _ _ => true
  | .read clocks dataClocks reply => readWellFormed 3 clocks dataClocks && replyWellFormed reply
  | .fastRead clocks dataClocks reply => readWellFormed 4 clocks dataClocks && replyWellFormed reply
  | .quadOutputRead clocks dataClocks reply => readWellFormed 4 clocks dataClocks && replyWellFormed reply
  | .readTransactionEnd _ reply => replyWellFormed reply
  | .readStatus _ | .readId _ => true
  | .writeEnable _ _ | .writeDisable _ _ | .pageProgram _ _ | .sectorErase _ _ | .blockErase _ _ => true
  | .chipErase opcode _ _ => chipEraseOpcodes.contains opcode
  | .writeVerdict | .operationCompletion | .operationTimeout => true
  | .managementPost _ _ | .managementFetch _ | .fetchCountReport _ => true
  | .resetEnable _ _ | .reset _ _ | .enterQuadAll _ _ | .exitQuadAll _ _ => true
  | .ignoredTransaction raw => replyWellFormed raw.reply
  | .chunkDelivery | .chunkEnd | .signatureCompletion | .storeWriteEnd | .secretResponseExpiry => true
  | .getInfo proof body => requestWellFormed proof body
  | .getStatus proof body => requestWellFormed proof body
  | .clearEvents proof body => requestWellFormed proof body
  | .setAlertMask proof body => requestWellFormed proof body
  | .restart proof body => requestWellFormed proof body
  | .readMap proof body => requestWellFormed proof body
  | .restrictRegion proof body => requestWellFormed proof body
  | .loadSlotMap proof body => requestWellFormed proof body
  | .generateIdentity proof body => requestWellFormed proof body
  | .loadEndorsement proof body => requestWellFormed proof body
  | .loadUpdateKey proof body => requestWellFormed proof body
  | .finishProvisioning proof body => requestWellFormed proof body
  | .getIdentity proof body => requestWellFormed proof body
  | .quote proof body => requestWellFormed proof body
  | .readLane proof body => requestWellFormed proof body
  | .extendLane proof body => requestWellFormed proof body
  | .openStaging proof body => requestWellFormed proof body
  | .verifyStaged proof body => requestWellFormed proof body
  | .commitStaged proof body => requestWellFormed proof body
  | .confirmActive proof body => requestWellFormed proof body
  | .abandonStaging proof body => requestWellFormed proof body
  | .getSlotStatus proof body => requestWellFormed proof body
  | .takeOwnership proof body => requestWellFormed proof body
  | .changeOwnerToken proof body => requestWellFormed proof body
  | .releaseOwnership proof body => requestWellFormed proof body
  | .addUpdateKey proof body => requestWellFormed proof body
  | .revokeUpdateKey proof body => requestWellFormed proof body
  | .storeCredential proof body => requestWellFormed proof body
  | .releaseCredential proof body => requestWellFormed proof body
  | .derive proof body => requestWellFormed proof body
  | .eraseCredential proof body => requestWellFormed proof body
  | .listCredentials proof body => requestWellFormed proof body

end Sys2Proof
end

