-- ==== Sys2Proof/Machine/Operands.lean ====
section
/-! DEFINITION. Operand forms: lines and bits of a byte (R43), addresses (R203), request and response frames (R204),
the fields of the manifest (R207) and of the request bodies (R205). -/

namespace Sys2Proof.Machine

/-! ### Bytes on the Boot Port lines (R25, R43, R45) -/

/-- R43: the lines of a command byte, an address, a dummy byte and a data-in phase. -/
def receiveLines : LaneMode → Lines
  | .single => .io0
  | .quadAll => .io0to3

/-- R43: the lines of a data-out phase; `quadOutput` is QUAD_OUTPUT_READ. -/
def dataOutLines (mode : LaneMode) (quadOutput : Bool) : Lines :=
  match mode with
  | .quadAll => .io0to3
  | .single => if quadOutput then .io0to3 else .io1

/-- R25: the clocks of a whole byte: two on four lines, eight on one. -/
def clocksPerByte : Lines → Nat
  | .io0to3 => 2
  | _ => 8

/-- R43: what one clock adds to a byte: a group of four bits, or the bit of one line. -/
def takeClock (lines : Lines) (acc : Byte) (c : Clock) : Byte :=
  match lines with
  | .io0to3 => (acc <<< 4) ||| c.setWidth 8
  | .io0 => (acc <<< 1) ||| (if c.getLsbD 0 then 1 else 0)
  | .io1 => (acc <<< 1) ||| (if c.getLsbD 1 then 1 else 0)

/-- R43: the byte that the clocks of a byte carry, its high bit or high group first. -/
def byteOfClocks (lines : Lines) (clocks : List Clock) : Byte := clocks.foldl (takeClock lines) 0

/-- R43: the levels of a byte clock by clock on its lines; the other lines are low. -/
def byteClocks (lines : Lines) (b : Byte) : List Clock :=
  match lines with
  | .io0to3 => [b.extractLsb' 4 4, b.extractLsb' 0 4]
  | .io0 => (List.range 8).map fun i => if b.getLsbD (7 - i) then 1 else 0
  | .io1 => (List.range 8).map fun i => if b.getLsbD (7 - i) then 2 else 0

/-- R25: the whole bytes of a receive phase; what is left of the clocks makes no byte. -/
def receivedBytes (mode : LaneMode) (clocks : List Clock) : Bytes :=
  let n := clocksPerByte (receiveLines mode)
  (List.range (clocks.length / n)).map fun k => byteOfClocks (receiveLines mode) ((clocks.drop (n * k)).take n)

/-- R25: the select rises directly after a whole byte. -/
def onBoundary (mode : LaneMode) (clocks : List Clock) : Bool :=
  clocks.length % clocksPerByte (receiveLines mode) == 0

/-- R25, R49: the whole bytes of a data-out phase after its clocks. -/
def wholeBytes (lines : Lines) (clocks : Nat) : Nat := clocks / clocksPerByte lines

/-- R30, R39, R181: the bytes of a data-out phase whose first clock has come; each has the value it began with. -/
def bytesBegun (lines : Lines) (clocks : Nat) : Nat := (clocks + clocksPerByte lines - 1) / clocksPerByte lines

/-- R45: the command byte of a transaction as the lane mode reads it, with the clocks after it; none where it is not
whole (R26). -/
def commandByte (mode : LaneMode) (clocks : List Clock) : Option (Byte × List Clock) :=
  let n := clocksPerByte (receiveLines mode)
  if clocks.length < n then none else some (byteOfClocks (receiveLines mode) (clocks.take n), clocks.drop n)

/-- R203: the three-byte address that follows a command byte, most significant byte first. -/
def addressOf (sent : Bytes) : LogicalAddress := BitVec.ofNat 24 (beNat (sent.take 3))

/-! ### Frames (R204) -/

/-- R204: the length L of a request frame. -/
def frameLength (frame : Bytes) : Nat := leAt frame 0 2
/-- R204: the request code byte. -/
def frameCode (frame : Bytes) : Byte := byteAt frame 2
/-- R204: the flags byte. -/
def frameFlags (frame : Bytes) : Byte := byteAt frame 3
/-- R204: whether the flags byte says that an owner proof is present. -/
def frameHasProof (frame : Bytes) : Bool := (frameFlags frame).getLsbD 0
/-- R204: the owner proof, bytes 4 to 35. -/
def frameProof (frame : Bytes) : Option Bytes := if frameHasProof frame then some (slice frame 4 32) else none
/-- R204: where the body begins. -/
def frameBodyStart (frame : Bytes) : Nat := if frameHasProof frame then 36 else 4
/-- R204: the body, to the end of the 2 + L frame bytes. -/
def frameBody (frame : Bytes) : Bytes :=
  slice frame (frameBodyStart frame) (2 + frameLength frame - frameBodyStart frame)

/-- R204: the bytes of a request frame. -/
def requestFrame (r : Request) (proof : Option Bytes) (body : Bytes) : Bytes :=
  leBytes 2 (requestLength proof body) ++ [requestCode r, flagByte proof.isSome] ++ proof.getD [] ++ body

/-- R190, R204: the bytes of a response frame. -/
def responseFrame (code : Byte) (status : Status) (body : Bytes) : Bytes :=
  leBytes 2 (2 + body.length) ++ [code, statusCode status] ++ body

/-! ### The manifest (R86, R207) -/

/-- R207: a region entry as the manifest carries it. -/
structure ManifestRegion where
  stop : Nat
  target : Byte
  rights : Byte
  base : Nat
  reserved : Nat
deriving DecidableEq, Repr

/-- R207: a segment entry as the manifest carries it. -/
structure ManifestSegment where
  offset : Nat
  lane : Byte
  reserved : Byte
  length : Nat
  digest : Bytes
deriving DecidableEq, Repr

def manifestFormat (m : Bytes) : Byte := byteAt m 4
def manifestSigner (m : Bytes) : Nat := (byteAt m 5).toNat
def manifestSegmentCount (m : Bytes) : Nat := (byteAt m 6).toNat
def manifestVersion (m : Bytes) : Word32 := BitVec.ofNat 32 (leAt m 8 4)
def manifestLabel (m : Bytes) : Bytes := slice m 16 16
def manifestSigned (m : Bytes) : Bytes := slice m 0 480
def manifestSignature (m : Bytes) : Bytes := slice m 480 64

/-- R207: region entry `i`, at 32 + 8i. -/
def manifestRegion (m : Bytes) (i : Nat) : ManifestRegion :=
  let o := 32 + 8 * i
  ⟨leAt m o 2, byteAt m (o + 2), byteAt m (o + 3), leAt m (o + 4) 2, leAt m (o + 6) 2⟩

/-- R86: the sixteen region entries. -/
def manifestRegions (m : Bytes) : List ManifestRegion := (List.range 16).map (manifestRegion m)

/-- R207: segment entry `k`, at 160 + 40k. -/
def manifestSegment (m : Bytes) (k : Nat) : ManifestSegment :=
  let o := 160 + 40 * k
  ⟨leAt m o 2, byteAt m (o + 2), byteAt m (o + 3), leAt m (o + 4) 4, slice m (o + 8) 32⟩

/-- R86: the segments below the segment count; the entries above it are ignored. -/
def manifestSegments (m : Bytes) : List ManifestSegment :=
  (List.range (manifestSegmentCount m)).map (manifestSegment m)

/-- R90: the lane a segment is measured into, or none for 0xFF. -/
def ManifestSegment.measuredLane (g : ManifestSegment) : Option Nat :=
  if g.lane.toNat ≤ 3 then some g.lane.toNat else none

/-- R68: the number of chunks of a string of a given length. -/
def chunkCount (length : Nat) : Nat := (length + 255) / 256

/-- R108: the sum of the segments' chunks. -/
def manifestChunks (m : Bytes) : Nat := ((manifestSegments m).map fun g => chunkCount g.length).sum

/-- R3: an entry of a manifest table, with P and E removed from an ACTIVE entry. -/
def installedFromManifest (e : ManifestRegion) : Region :=
  let target := targetOfCode e.target
  let rights := rightsOfByte e.rights
  installedRegion e.stop target (if target = .active then ⟨rights.r, false, false⟩ else rights) e.base

/-- R3: the manifest table of an image. -/
def manifestTable (m : Bytes) : List Region := (manifestRegions m).map installedFromManifest

/-! ### Request bodies (R205) -/

/-- R205: the slot map fields of LOAD_SLOT_MAP. -/
def slotMapOfBody (body : Bytes) : SlotMap :=
  ⟨leAt body 0 2, leAt body 2 2, (byteAt body 4).toNat, leAt body 5 2, (byteAt body 7).toNat⟩

/-- R205, R206: the slot map fields in the order of LOAD_SLOT_MAP. -/
def slotMapBytes (m : SlotMap) : Bytes :=
  leBytes 2 m.aBase ++ leBytes 2 m.bBase ++ leBytes 1 m.slotLength ++ leBytes 2 m.recoveryBase ++
    leBytes 1 m.recoveryLength

/-- R118: 0 counts as 1, 1 to 7 as given, 8 to 255 as 7. -/
def clampAttempts (n : Nat) : Nat := if n = 0 then 1 else if n ≤ 7 then n else 7

/-- R171, R205: the credential a STORE_CREDENTIAL body describes, or none where an argument check fails. -/
def credentialOfBody (body : Bytes) : Option Credential :=
  let handle := (byteAt body 0).toNat
  let len := (byteAt body 7).toNat
  let minVersion := leAt body 8 4
  let reference := slice body 12 32
  let mask := byteAt body 5
  let signer := (byteAt body 6).toNat
  if body.length < 44 || decide (body.length ≠ 44 + len) || decide (len < 1) || decide (128 < len) ||
      decide (31 < handle) then none
  else do
    let cls ← credClassOfCode (byteAt body 1)
    let internal ← boolOfCode (byteAt body 2)
    let gated ← boolOfCode (byteAt body 3)
    let binding ← bindingOf (byteAt body 4) mask signer minVersion reference
    pure ⟨handle, cls, !internal, gated, binding, body.drop 44⟩
where
  boolOfCode (c : Byte) : Option Bool := if c = 0x00 then some false else if c = 0x01 then some true else none
  bindingOf (kind mask : Byte) (signer minVersion : Nat) (reference : Bytes) : Option Binding :=
    if kind = 0x00 then
      if mask = 0 && signer = 0 && minVersion = 0 && reference = zeroBytes 32 then some .none else none
    else if kind = 0x01 then
      if mask = 0 || signer ≠ 0 || minVersion ≠ 0 then none else some (.lanes mask reference)
    else if kind = 0x02 then
      if 3 < signer || mask ≠ 0 || reference ≠ zeroBytes 32 then none
      else some (.signer signer (BitVec.ofNat 32 minVersion))
    else none

end Sys2Proof.Machine
end

