-- ==== Sys2Proof/Machine/Flags.lean ====
section
/-! DEFINITION. The indications the part composes from its state: the status byte (R39, R40, R203), the alert line
(R196), and the event flags. -/

namespace Sys2Proof.Machine

/-- R24: BUSY shows while the write record is DECIDING or IN_FLIGHT. -/
def busyShown (s : State) : Bool := decide (s.bp.writeRecord ≠ .none)

/-- R40: EVENT shows while any event flag is set. -/
def eventShown (s : State) : Bool := s.mc.flags.scanDone || s.mc.flags.violation || s.mc.flags.bootNotice

/-- R40: RSP_READY shows while the response buffer holds a frame. -/
def responseReady (s : State) : Bool := s.mc.response.isSome

/-- R185: MGMT_BUSY shows while the channel state is WORKING. -/
def managementBusy (s : State) : Bool := decide (s.mc.state ≠ .idle)

/-- R203: BUSY at bit 0, WEL at bit 1, zero at bits 2 to 4, EVENT at bit 5, RSP_READY at bit 6, MGMT_BUSY at bit 7. -/
def statusByte (s : State) : Byte :=
  (if busyShown s then 0x01 else 0x00) ||| (if s.bp.wel then 0x02 else 0x00) |||
    (if eventShown s then 0x20 else 0x00) ||| (if responseReady s then 0x40 else 0x00) |||
    (if managementBusy s then 0x80 else 0x00)

/-- R196: ALERT_N is driven low while one of the four conditions holds. -/
def alertAsserted (s : State) : Bool :=
  (s.mc.mask.rsp && s.mc.response.any fun r => !r.delivered) || (s.mc.mask.scan && s.mc.flags.scanDone) ||
    (s.mc.mask.viol && s.mc.flags.violation) || (s.mc.mask.boot && s.mc.flags.bootNotice)

/-- R43: the levels of BP_IO3 to BP_IO0 in the data-out phase of the latest transaction, clock by clock. A byte the
select cut short shows its first clocks. -/
def dataOutLevels (s : State) : List Clock := s.bp.out.flatMap (byteClocks s.bp.outLines)

/-- R203: the bytes the latest step sent on the Flash Port, command by command, with their line. -/
def flashPortBytes (s : State) : List (FpLine × Bytes) := s.fp.sent.map fun c => (fpSendLine, fpCommandBytes c)

/-- R194: raise SCAN_DONE. -/
def setScanDone (s : State) : State := { s with mc.flags.scanDone := true }

/-- R194: raise VIOLATION. -/
def setViolation (s : State) : State := { s with mc.flags.violation := true }

/-- R194: raise BOOT_NOTICE. -/
def setBootNotice (s : State) : State := { s with mc.flags.bootNotice := true }

end Sys2Proof.Machine
end

