-- ==== Sys2Proof/Config.lean ====
section
/-! DEFINITION. The free values: what the spec leaves to the device, to the moment or to chance. Each is a
constant without a body, so nothing can be proved of the value it gives; State's draw counter indexes it. -/

namespace Sys2Proof.Config

/-- R51: the bits of a byte in a suspended page or sector that "may read either way". Log 12. -/
opaque suspendedBits : Nat → Byte

/-- R58, R66: the unspecified byte at a physical address (second argument) after a command was cut short. Log 13. -/
opaque unspecifiedByte : Nat → Nat → Byte

/-- R149: whether a record write cut by POWER_ON or PIN left its records as written. Log 14. -/
opaque interruptedWriteTakesEffect : Nat → Bool

/-- R79, R80: the internal random source of the Signature Unit. Log 15. -/
opaque randomNumber : Nat → Nat

end Sys2Proof.Config
end

