-- ==== Sys2Proof/Machine/Flash.lean ====
section
/-! DEFINITION. The flash behind the part as R50 and R51 let the part rely on it: a canonical list of cells, one read
and one ranged write, and the effect of each downstream command on its target. -/

namespace Sys2Proof.Machine

/-- What an unlisted address reads as: the erased value (R50). DESIGN CHOICE for a fresh flash, unsafe (log 2). -/
def erasedByte : Byte := 0xFF

/-- Addresses strictly rising, and no entry equal to what an unlisted address reads as. -/
def cellsWf : List Host.Cell → Bool
  | [] => true
  | [c] => c.2 != erasedByte
  | c :: d :: rest => c.2 != erasedByte && decide (c.1 < d.1) && cellsWf (d :: rest)

/-- The canonical form of the flash contents. -/
def Flash.wf (f : Flash) : Bool := cellsWf f.cells

/-- The byte listed at an address, or the erased value. -/
def cellsRead (cells : List Host.Cell) (p : Nat) : Byte :=
  ((cells.find? fun c => c.1 == p).map Prod.snd).getD erasedByte

/-- R50, R58: the byte a read returns; an absent flash returns 0xFF. -/
def Flash.read (f : Flash) (p : Nat) : Byte := if f.present then cellsRead f.cells p else 0xFF

/-- R50: the bytes of one downstream read. -/
def Flash.readRange (f : Flash) (p len : Nat) : Bytes := (List.range len).map fun i => f.read (p + i)

/-- The cells of `len` positions from `p` whose bytes `g` gives. -/
def cellsOf (p len : Nat) (g : Nat → Byte) : List Host.Cell :=
  (List.range len).filterMap fun i => if g (p + i) = erasedByte then none else some (p + i, g (p + i))

/-- The contents with the bytes of the `len` addresses from `p` replaced by those `g` gives. -/
def cellsWrite (cells : List Host.Cell) (p len : Nat) (g : Nat → Byte) : List Host.Cell :=
  cells.filter (fun c => decide (c.1 < p)) ++ cellsOf p len g ++ cells.filter (fun c => decide (p + len ≤ c.1))

/-- The flash with `len` bytes from `p` replaced; an absent flash holds nothing to replace. -/
def Flash.write (f : Flash) (p len : Nat) (g : Nat → Byte) : Flash :=
  if f.present then { f with cells := cellsWrite f.cells p len g } else f

/-- R50: the bytes covered by one downstream command of an operation: a page, a sector or a 64 KiB block. -/
def commandLength : OpKind → Nat
  | .program => 256
  | .sectorErase => 4096
  | .blockErase => 65536
  | .eraseSeries => 4096

/-- R55: the physical address of the page, sector or block in hand. -/
def FlightOp.target (o : FlightOp) : Nat := o.targets.getD o.index 0

/-- The value a byte of the range in hand has once the command has run to its end (R50): a program can only turn one
bits into zero bits, an erase leaves 0xFF. -/
def finalByte (f : Flash) (o : FlightOp) (p : Nat) : Byte :=
  match o.kind with
  | .program => f.read p &&& byteAt o.image (p - o.target)
  | _ => 0xFF

/-- R50: the flash after the command in hand has ended. -/
def Flash.finish (f : Flash) (o : FlightOp) : Flash :=
  f.write o.target (commandLength o.kind) (finalByte f o)

/-- R58, R66: the flash after the command in hand was cut short: its bytes are unspecified (log 13). -/
def Flash.cutShort (f : Flash) (o : FlightOp) (draw : Nat) : Flash :=
  f.write o.target (commandLength o.kind) (Config.unspecifiedByte draw)

/-- Whether an address lies in the range of the command in hand. -/
def inHand (o : FlightOp) (p : Nat) : Bool :=
  decide (o.target ≤ p) && decide (p < o.target + commandLength o.kind)

/-- R51: what a byte of the suspended range may read: for a program, zero where the old value is zero and one where
the final value is one; for an erase, one where the old value is one; every other bit either way. -/
def suspendedByte (f : Flash) (o : FlightOp) (p draw : Nat) : Byte :=
  match o.kind with
  | .program => finalByte f o p ||| (f.read p &&& Config.suspendedBits draw)
  | _ => f.read p ||| Config.suspendedBits draw

/-- R31, R51: the byte the flash gives an upstream read while `op` is the in-flight operation. -/
def observedByte (f : Flash) (op : Option FlightOp) (p draw : Nat) : Byte :=
  match op with
  | some o =>
    if o.phase = .suspended && inHand o p && f.present then suspendedByte f o p draw else f.read p
  | none => f.read p

end Sys2Proof.Machine
end

