-- ==== Sys2Proof/Machine/P256.lean ====
section
/-! DEFINITION. ECDSA over the P-256 curve, which the spec uses as named (00_scope.md, Scope of this manual). The
curve's numbers are those of the published standard FIPS 186-4: PRESUMED (log 16), unsafe. Points are held in
Jacobian coordinates, with z = 0 for the point at infinity. -/

namespace Sys2Proof.Machine

/-- The prime of the P-256 field. -/
def p256Prime : Nat := 0xFFFFFFFF00000001000000000000000000000000FFFFFFFFFFFFFFFFFFFFFFFF
/-- The order of the base point. -/
def p256Order : Nat := 0xFFFFFFFF00000000FFFFFFFFFFFFFFFFBCE6FAADA7179E84F3B9CAC2FC632551
/-- The constant b of the curve y² = x³ - 3x + b. -/
def p256B : Nat := 0x5AC635D8AA3A93E7B3EBBD55769886BC651D06B0CC53B0F63BCE3C3E27D2604B
/-- The base point's coordinates. -/
def p256BaseX : Nat := 0x6B17D1F2E12C4247F8BCE6E563A440F277037D812DEB33A0F4A13945D898C296
def p256BaseY : Nat := 0x4FE342E2FE1A7F9B8EE7EB4A7C0F9E162BCE33576B315ECECBB6406837BF51F5

/-- A point in Jacobian coordinates. -/
structure JacobianPoint where
  x : Nat
  y : Nat
  z : Nat
deriving DecidableEq, Repr

def p256Base : JacobianPoint := ⟨p256BaseX, p256BaseY, 1⟩
def p256Infinity : JacobianPoint := ⟨1, 1, 0⟩

def fieldMul (a b : Nat) : Nat := a * b % p256Prime
def fieldSub (a b : Nat) : Nat := (a + (p256Prime - b % p256Prime)) % p256Prime

/-- `a ^ e` modulo `m`, over the low `bits` bits of `e`, highest first. -/
def powMod (m a e : Nat) : Nat → Nat → Nat
  | 0, acc => acc
  | i + 1, acc =>
    let sq := acc * acc % m
    powMod m a e i (if e.testBit i then sq * a % m else sq)

/-- The inverse of `a` modulo a 256-bit prime `m`. -/
def invMod (m a : Nat) : Nat := powMod m (a % m) (m - 2) 256 1

/-- The double of a point. -/
def pointDouble (p : JacobianPoint) : JacobianPoint :=
  if p.z = 0 || p.y = 0 then p256Infinity
  else
    let zz := fieldMul p.z p.z
    let yy := fieldMul p.y p.y
    let s := fieldMul 4 (fieldMul p.x yy)
    let m := fieldMul 3 (fieldMul (fieldSub p.x zz) ((p.x + zz) % p256Prime))
    let x' := fieldSub (fieldMul m m) (2 * s)
    let y' := fieldSub (fieldMul m (fieldSub s x')) (fieldMul 8 (fieldMul yy yy))
    ⟨x', y', fieldMul 2 (fieldMul p.y p.z)⟩

/-- The sum of two points. -/
def pointAdd (p q : JacobianPoint) : JacobianPoint :=
  if p.z = 0 then q
  else if q.z = 0 then p
  else
    let z1 := fieldMul p.z p.z
    let z2 := fieldMul q.z q.z
    let u1 := fieldMul p.x z2
    let u2 := fieldMul q.x z1
    let s1 := fieldMul p.y (fieldMul z2 q.z)
    let s2 := fieldMul q.y (fieldMul z1 p.z)
    if u1 = u2 then
      if s1 = s2 then pointDouble p else p256Infinity
    else
      let h := fieldSub u2 u1
      let r := fieldSub s2 s1
      let hh := fieldMul h h
      let hhh := fieldMul h hh
      let v := fieldMul u1 hh
      let x' := fieldSub (fieldSub (fieldMul r r) hhh) (2 * v)
      let y' := fieldSub (fieldMul r (fieldSub v x')) (fieldMul s1 hhh)
      ⟨x', y', fieldMul h (fieldMul p.z q.z)⟩

/-- The multiple of a point by the low `i` bits of `k`, added to the doublings of `acc`. -/
def pointMulBits (k : Nat) (p : JacobianPoint) : Nat → JacobianPoint → JacobianPoint
  | 0, acc => acc
  | i + 1, acc =>
    let d := pointDouble acc
    pointMulBits k p i (if k.testBit i then pointAdd d p else d)

/-- `k` times a point, for `k` below 2²⁵⁶. -/
def pointMul (k : Nat) (p : JacobianPoint) : JacobianPoint := pointMulBits k p 256 p256Infinity

/-- The affine x coordinate of a point that is not at infinity. -/
def affineX (p : JacobianPoint) : Nat :=
  let zi := invMod p256Prime p.z
  fieldMul p.x (fieldMul zi zi)

/-- The affine y coordinate of a point that is not at infinity. -/
def affineY (p : JacobianPoint) : Nat :=
  let zi := invMod p256Prime p.z
  fieldMul p.y (fieldMul zi (fieldMul zi zi))

/-- Whether two numbers are the coordinates of a point of the curve. -/
def onCurve (x y : Nat) : Bool :=
  decide (x < p256Prime) && decide (y < p256Prime) &&
    decide (fieldMul y y = (fieldSub (fieldMul x (fieldMul x x)) (3 * x) + p256B) % p256Prime)

/-- R78: whether (r, s) is a correct signature of the digest number `e` under the public key (x, y). -/
def ecdsaVerify (x y e r s : Nat) : Bool :=
  if r = 0 || s = 0 || decide (p256Order ≤ r) || decide (p256Order ≤ s) || !onCurve x y then false
  else
    let w := invMod p256Order s
    let sum := pointAdd (pointMul (e * w % p256Order) p256Base) (pointMul (r * w % p256Order) ⟨x, y, 1⟩)
    decide (sum.z ≠ 0) && decide (affineX sum % p256Order = r)

/-- R79: the signature of the digest number `e` under the private key `d` with the secret number `k`, or none where
the draw yields r = 0 or s = 0 and the unit draws again. -/
def ecdsaSign (d e k : Nat) : Option (Nat × Nat) :=
  let r := affineX (pointMul k p256Base) % p256Order
  let s := invMod p256Order k * ((e + r * d) % p256Order) % p256Order
  if r = 0 || s = 0 then none else some (r, s)

/-- R78, R201: VERIFY over the byte forms of its inputs, keys and signatures little-endian. -/
def verifySignature (digest key signature : Bytes) : Bool :=
  ecdsaVerify (leAt key 0 32) (leAt key 32 32) (beNat digest) (leAt signature 0 32) (leAt signature 32 32)

/-- R79, R201: SIGN over the byte form of its digest, with the signature as r then s, little-endian. -/
def signDigest (secret : Nat) (digest : Bytes) (k : Nat) : Option Bytes :=
  (ecdsaSign secret (beNat digest) k).map fun rs => leBytes 32 rs.1 ++ leBytes 32 rs.2

/-- R80: a draw of the random source is kept where it lies from 1 to one less than the order, and discarded otherwise. -/
def drawnScalar (draw : Nat) : Option Nat := if 1 ≤ draw ∧ draw < p256Order then some draw else none

/-- R80, R201: the public key of a private key, x then y. -/
def publicKeyOf (secret : Nat) : Bytes :=
  let q := pointMul secret p256Base
  leBytes 32 (affineX q) ++ leBytes 32 (affineY q)

end Sys2Proof.Machine
end

