-- ==== Sys2Proof/Machine/Sha256.lean ====
section
/-! DEFINITION. SHA-256, which the spec uses as named (00_scope.md, Scope of this manual). The constants and the
round function are those of the published standard FIPS 180-4: PRESUMED (log 16), unsafe. The Digest Engine absorbs
chunks of 256 bytes, four blocks each, into the eight-word state (R70). -/

namespace Sys2Proof.Machine

/-- FIPS 180-4: the initial hash value. -/
def shaInit : List Word32 :=
  [0x6a09e667, 0xbb67ae85, 0x3c6ef372, 0xa54ff53a, 0x510e527f, 0x9b05688c, 0x1f83d9ab, 0x5be0cd19]

/-- FIPS 180-4: the sixty-four round constants. -/
def shaConstants : List Word32 :=
  [0x428a2f98, 0x71374491, 0xb5c0fbcf, 0xe9b5dba5, 0x3956c25b, 0x59f111f1, 0x923f82a4, 0xab1c5ed5] ++
  [0xd807aa98, 0x12835b01, 0x243185be, 0x550c7dc3, 0x72be5d74, 0x80deb1fe, 0x9bdc06a7, 0xc19bf174] ++
  [0xe49b69c1, 0xefbe4786, 0x0fc19dc6, 0x240ca1cc, 0x2de92c6f, 0x4a7484aa, 0x5cb0a9dc, 0x76f988da] ++
  [0x983e5152, 0xa831c66d, 0xb00327c8, 0xbf597fc7, 0xc6e00bf3, 0xd5a79147, 0x06ca6351, 0x14292967] ++
  [0x27b70a85, 0x2e1b2138, 0x4d2c6dfc, 0x53380d13, 0x650a7354, 0x766a0abb, 0x81c2c92e, 0x92722c85] ++
  [0xa2bfe8a1, 0xa81a664b, 0xc24b8b70, 0xc76c51a3, 0xd192e819, 0xd6990624, 0xf40e3585, 0x106aa070] ++
  [0x19a4c116, 0x1e376c08, 0x2748774c, 0x34b0bcb5, 0x391c0cb3, 0x4ed8aa4a, 0x5b9cca4f, 0x682e6ff3] ++
  [0x748f82ee, 0x78a5636f, 0x84c87814, 0x8cc70208, 0x90befffa, 0xa4506ceb, 0xbef9a3f7, 0xc67178f2]

def shaSmall0 (x : Word32) : Word32 := x.rotateRight 7 ^^^ x.rotateRight 18 ^^^ x >>> 3
def shaSmall1 (x : Word32) : Word32 := x.rotateRight 17 ^^^ x.rotateRight 19 ^^^ x >>> 10
def shaBig0 (x : Word32) : Word32 := x.rotateRight 2 ^^^ x.rotateRight 13 ^^^ x.rotateRight 22
def shaBig1 (x : Word32) : Word32 := x.rotateRight 6 ^^^ x.rotateRight 11 ^^^ x.rotateRight 25
def shaChoose (x y z : Word32) : Word32 := (x &&& y) ^^^ (~~~x &&& z)
def shaMajority (x y z : Word32) : Word32 := (x &&& y) ^^^ (x &&& z) ^^^ (y &&& z)

/-- The `i`-th 32-bit word of a block, most significant byte first. -/
def shaBlockWord (block : Bytes) (i : Nat) : Word32 :=
  BitVec.ofNat 32 (beNat (slice block (4 * i) 4))

/-- The message schedule, newest word first, extended by `n` words. -/
def shaExtend : Nat → List Word32 → List Word32
  | 0, w => w
  | n + 1, w =>
    shaExtend n ((shaSmall1 (w.getD 1 0) + w.getD 6 0 + shaSmall0 (w.getD 14 0) + w.getD 15 0) :: w)

/-- The sixty-four words of a block's message schedule, in order. -/
def shaSchedule (block : Bytes) : List Word32 :=
  (shaExtend 48 ((List.range 16).map (shaBlockWord block)).reverse).reverse

/-- One round with the word `w` and the constant `k`. -/
def shaRound (s : List Word32) (wk : Word32 × Word32) : List Word32 :=
  match s with
  | [a, b, c, d, e, f, g, h] =>
    let t1 := h + shaBig1 e + shaChoose e f g + wk.2 + wk.1
    let t2 := shaBig0 a + shaMajority a b c
    [t1 + t2, a, b, c, d + t1, e, f, g]
  | other => other

/-- The state after one block of 64 bytes. -/
def shaCompress (s : List Word32) (block : Bytes) : List Word32 :=
  List.zipWith (· + ·) s (((shaSchedule block).zip shaConstants).foldl shaRound s)

/-- The 64-byte blocks of a string whose length is a multiple of 64. -/
def shaBlocks (bytes : Bytes) : List Bytes :=
  (List.range (bytes.length / 64)).map fun i => slice bytes (64 * i) 64

/-- The state after the blocks of a string. -/
def shaAbsorb (s : List Word32) (bytes : Bytes) : List Word32 :=
  (shaBlocks bytes).foldl shaCompress s

/-- The padding that follows a message of `length` bytes. -/
def shaPadding (length : Nat) : Bytes :=
  0x80 :: (zeroBytes ((119 - length % 64) % 64) ++ beBytes 8 (8 * length))

/-- The 32 bytes of a final state. -/
def shaOutput (s : List Word32) : Bytes := s.flatMap fun w => beBytes 4 w.toNat

/-- R70: absorb one chunk; the last one takes the finishing steps over the total length with it. -/
def absorbChunk (s : List Word32) (chunk : Bytes) (last : Bool) (total : Nat) : List Word32 :=
  shaAbsorb s (if last then chunk ++ shaPadding total else chunk)

/-- The SHA-256 digest of a byte string. -/
def sha256 (bytes : Bytes) : Bytes :=
  shaOutput (shaAbsorb shaInit (bytes ++ shaPadding bytes.length))

end Sys2Proof.Machine
end

