-- ==== Sys2Proof/Machine/Ops.lean ====
section
/-! DEFINITION. The shared operations of the blocks: responses and scrubs, Protected Store writes, the places of the
Digest Engine and the Signature Unit, the Flash Port's bus, chunk requests, extends, and part resets. -/

namespace Sys2Proof.Machine

/-! ### Responses (R180, R186, R190) -/

/-- R180, R186: the response buffer becomes empty with its record cleared and the scrub timer stopped. A FETCH that
fixed the response finds it gone. -/
def emptyResponse (s : State) : State :=
  { s with
    mc.response := none
    mc.scrubTimer := none
    bp.fetchTxn := s.bp.fetchTxn.map fun t => { t with stillPresent := false } }

/-- R180: scrub a secret response; an empty buffer or a non-secret response stays as it is. -/
def scrub (s : State) : State := if s.mc.response.any (·.secret) then emptyResponse s else s

/-- R190: place a non-secret response. The request buffer is zeroed, the channel is IDLE, and the Credential Unit's
working copy is emptied (R165). -/
def respond (status : Status) (body : Bytes) (s : State) : State :=
  { s with
    cred := none
    mc.request := []
    mc.state := .idle
    mc.response := some ⟨responseFrame (frameCode s.mc.request) status body, false, false, none, none⟩ }

/-- R182: the expiry of a secret response comes 50 ms after its ready time. -/
def expiryDelay : Nat := 50

/-- R179, R190: place a secret response with its bound lane mask and start the scrub timer. -/
def respondSecret (mask : Option Byte) (body : Bytes) (s : State) : State :=
  { s with
    cred := none
    mc.request := []
    mc.state := .idle
    mc.response := some ⟨responseFrame (frameCode s.mc.request) .ok body, false, true, mask, some s.clock⟩
    mc.scrubTimer := some (s.clock + expiryDelay) }

/-- The body of the request in hand (R188). -/
def requestBody (s : State) : Bytes := frameBody s.mc.request

/-- The channel works on, waiting for `job` (R187). -/
def waitFor (job : Job) (s : State) : State := { s with mc.state := .working job }

/-! ### The Protected Store (R146 to R149) -/

/-- R165: the directory with a record added or replaced, ordered by handle. -/
def putCredential (c : Credential) : List Credential → List Credential
  | [] => [c]
  | d :: rest =>
    if c.handle < d.handle then c :: d :: rest
    else if c.handle = d.handle then c :: rest
    else d :: putCredential c rest

/-- R165: the record at a handle. -/
def credentialAt (l : List Credential) (handle : Nat) : Option Credential := l.find? fun c => c.handle == handle

/-- R166: the sum of the lengths of the records. -/
def bytesUsed (l : List Credential) : Nat := (l.map fun c => c.secret.length).sum

/-- R84: the state of a slot. -/
def SlotRecord.stateOf (r : SlotRecord) : Slot → SlotState
  | .a => r.stateA
  | .b => r.stateB

/-- R84: the record with the state of one slot replaced. -/
def SlotRecord.withState (r : SlotRecord) (x : Slot) (st : SlotState) : SlotRecord :=
  match x with
  | .a => { r with stateA := st }
  | .b => { r with stateB := st }

/-- R148: a write takes effect for all of its records together. -/
def Store.apply (t : Store) : StoreWrite → Store
  | .provisioning v =>
    { t with lifecycle := .provisioned, slotRecord := some ⟨.a, .valid, .empty⟩, floor := some v, failures := 0 }
  | .lockoutLowering => { t with failures := 7 }
  | .slotMap m => { t with slotMap := some m }
  | .identityKey k => { t with identity := some k, endorsement := .absent }
  | .endorsement e => { t with endorsement := e }
  | .keySlot i k => { t with keys := t.keys.set i k }
  | .slotRecord r => { t with slotRecord := some r }
  | .floor v => { t with floor := some v }
  | .takeOwnership d => { t with lifecycle := .owned, verifier := some d, failures := 0 }
  | .verifier d => { t with verifier := some d }
  | .failures n => { t with failures := n }
  | .releaseOwnership => { t with lifecycle := .provisioned, verifier := none, failures := 0, credentials := [] }
  | .putCredential c => { t with credentials := putCredential c t.credentials }
  | .removeCredential h => { t with credentials := t.credentials.filter fun c => c.handle != h }

/-- R148: ask for a write; it begins at once, or waits for the one in progress. -/
def askWrite (who : Requester) (w : StoreWrite) (s : State) : State :=
  match s.writes.current with
  | none => { s with writes.current := some ⟨who, w⟩ }
  | some _ => { s with writes.waiting := some ⟨who, w⟩ }

/-- R149: a POWER_ON or PIN reset ends a write in progress; whether it took effect is open (log 14). -/
def interruptWrite (s : State) : State :=
  match s.writes.current with
  | none => s
  | some w =>
    { s with
      store := if Config.interruptedWriteTakesEffect s.draws then s.store.apply w.contents else s.store
      draws := s.draws + 1 }

/-- R67, R149: a restart is pending, and no operation and no write stands in its way. -/
def restartDue (s : State) : Bool :=
  match s.mc.state with
  | .working (.restart _) => s.fp.op.isNone && s.writes.current.isNone
  | _ => false

/-- R67: an event of the old state once a restart is due: the part reset comes before it (log 6). -/
def unlessRestartDue (event : State → State) (s : State) : State := if restartDue s then s else event s

/-! ### The Digest Engine (R68 to R75) -/

/-- R68: a BUFFER item at placement. -/
def bufferItem (work : DigestWork) (input : Bytes) : DigestItem :=
  ⟨work, .buffer, input.length, input, none, [], 0, shaInit⟩

/-- R68: a SEGMENT item at placement. -/
def segmentItem (length : Nat) : DigestItem := ⟨.segment, .segment, length, [], none, [], 0, shaInit⟩

/-- R68: the Image Slot Controller places an item. -/
def placeScanItem (i : DigestItem) (s : State) : State :=
  { s with de.scan := some i, de.scanFirst := s.de.channel.isNone, de.owed := false }

/-- R68: the Management Channel places an item. -/
def placeChannelItem (i : DigestItem) (s : State) : State :=
  { s with de.channel := some i, de.scanFirst := s.de.scan.isSome }

/-- R72: what the engine chooses when it is free: an owed segment chunk, then the older BUFFER item, then a segment
chunk, else nothing. -/
def chooseWork (d : DigestEngine) : Option Place :=
  let chunkReady := d.scan.any fun i => i.kind = .segment && i.chunkSlot.isSome
  let scanBuffer := d.scan.any fun i => i.kind = .buffer
  if chunkReady && d.owed then some .scan
  else if scanBuffer && (d.channel.isNone || d.scanFirst) then some .scan
  else if d.channel.isSome then some .channel
  else if chunkReady then some .scan
  else none

/-- R61: the Image Slot Controller places a chunk request. -/
def placeChunkRequest (owner : ScanOwner) (address length : Nat) (s : State) : State :=
  { s with fp.chunk := some ⟨owner, address, length, false⟩, fp.chunkBuffer := [] }

/-- R4, R94: the physical address of the slot a scan reads; the slot map is present outside BLANK (log 18). -/
def slotStart (s : State) (x : Slot) : Nat := (s.store.slotMap.map fun m => m.slotStart x).getD 0

/-- The manifest copy of the scan record. -/
def scanManifest (s : State) : Bytes := s.isc.scan.manifest.getD []

/-- The segment in hand (R91). -/
def segmentInHand (s : State) : ManifestSegment := manifestSegment (scanManifest s) s.isc.scan.segmentIndex

/-- R94: the chunk request for chunk `j` of the segment in hand. -/
def requestSegmentChunk (j : Nat) (s : State) : State :=
  let g := segmentInHand s
  placeChunkRequest s.isc.scan.owner (slotStart s s.isc.scan.slot + g.offset * 4096 + 256 * j)
    (min 256 (g.length - 256 * j)) { s with isc.scan.nextChunk := j + 1 }

/-- R71, R94: the chunk taken report: the next chunk of the segment is asked for, if there is one. -/
def chunkTaken (s : State) : State :=
  if s.isc.scan.nextChunk < chunkCount (segmentInHand s).length then requestSegmentChunk s.isc.scan.nextChunk s else s

/-- R71, R72: the free engine starts the chunk it chooses. -/
def startAbsorption (s : State) : State :=
  if s.de.absorbing.isSome then s
  else
    match chooseWork s.de, s.de.scan with
    | some .channel, _ => { s with de.absorbing := some .channel }
    | some .scan, some i =>
      match i.kind with
      | .buffer => { s with de.absorbing := some .scan }
      | .segment =>
        chunkTaken
          { s with
            de.absorbing := some .scan
            de.owed := false
            de.scan := some { i with chunkSlot := none, inHand := i.chunkSlot.getD [] } }
    | _, _ => s

/-! ### The Signature Unit (R77, R81) -/

/-- R77: the Image Slot Controller places a VERIFY. -/
def placeVerify (op : SigOp) (s : State) : State :=
  { s with su.scan := some ⟨op, false⟩, su.scanFirst := s.su.channel.isNone }

/-- R77: the Management Channel places a SIGN or GENERATE. -/
def placeChannelOp (op : SigOp) (s : State) : State :=
  { s with su.channel := some ⟨op, false⟩, su.scanFirst := s.su.scan.isSome }

/-- R81: the idle unit runs the older of the operations it holds. -/
def startSignature (s : State) : State :=
  if s.su.scan.any (·.running) || s.su.channel.any (·.running) then s
  else
    match s.su.scan, s.su.channel with
    | some v, none => { s with su.scan := some { v with running := true } }
    | none, some c => { s with su.channel := some { c with running := true } }
    | some v, some c =>
      if s.su.scanFirst then { s with su.scan := some { v with running := true } }
      else { s with su.channel := some { c with running := true } }
    | none, none => s

/-! ### The Flash Port's bus (R53 to R64) -/

/-- Commands of an earlier step are no longer shown (log 19). -/
def freshPort (s : State) : State := { s with fp.sent := [] }

/-- R203: the controller sends commands to the flash. -/
def send (cmds : List FpCommand) (s : State) : State := { s with fp.sent := s.fp.sent ++ cmds }

/-- R53: an upstream read transaction holds the flash. -/
def flashHeld (s : State) : Bool := s.bp.readTxn.any (·.holdsFlash)

/-- R108: one more preemption, saturating. -/
def countPreemption (r : StagingRecord) : StagingRecord :=
  { r with preemptions := if r.preemptions < 65535 then r.preemptions + 1 else r.preemptions }

/-- R63, R108: a READING chunk request is preempted and reported; a WAITING one is not. -/
def preemptChunk (s : State) : State :=
  match s.fp.chunk with
  | none => s
  | some c =>
    if c.reading then
      { s with
        fp.chunk := some { c with reading := false }
        fp.chunkBuffer := []
        isc.staging := if c.owner = .stagedScan then countPreemption s.isc.staging else s.isc.staging }
    else s

/-- R56: the command for the target in hand, after its write enable. -/
def operationCommands (o : FlightOp) : List FpCommand :=
  match o.kind with
  | .program => [.writeEnable, .pageProgram o.target o.image]
  | .sectorErase => [.writeEnable, .sectorErase o.target]
  | .blockErase => [.writeEnable, .blockErase o.target]
  | .eraseSeries => [.writeEnable, .sectorErase o.target]

/-- R56: a QUEUED operation starts when no upstream read transaction holds the flash, preempting a chunk read. -/
def startOperation (s : State) : State :=
  match s.fp.op with
  | none => s
  | some o =>
    if o.phase = .queued && !flashHeld s then
      send (operationCommands o)
        { preemptChunk s with fp.op := some { o with phase := .running, runningTime := 0 } }
    else s

/-- R35, R57: the operation is complete; the record becomes absent and the write record NONE. -/
def completeOperation (s : State) : State := { s with fp.op := none, bp.writeRecord := .none }

/-- R57: the command in hand has ended: a series moves to its next step, every other operation completes. -/
def endCommand (o : FlightOp) (s : State) : State :=
  let s := { s with flash := s.flash.finish o }
  if o.kind = .eraseSeries && decide (o.index < 15) then
    { s with fp.op := some { o with index := o.index + 1, phase := .queued } }
  else completeOperation s

/-- R203: the status pairs that the flash of this state gives: those of a fitted flash, or 0xFF at once. -/
def answeredPairs (s : State) (reply : SuspendReply) : SuspendReply := if s.flash.present then reply else [absentPair]

/-- R59, R203: a RUNNING operation is suspended, unless the status pairs show the command ended. -/
def suspendOperation (reply : SuspendReply) (s : State) : State :=
  match s.fp.op with
  | none => s
  | some o =>
    if o.phase = .running then
      let pairs := answeredPairs s reply
      let s := send (.suspend :: suspendReads pairs) s
      if suspendFindsEnded pairs then endCommand o s else { s with fp.op := some { o with phase := .suspended } }
    else s

/-- R53, R54, R59, R63: a run begins: the operation is suspended, a chunk read is preempted, and the downstream read
starts. Where the suspend finds the end that a restart waited for, the run does not begin (R67). -/
def beginRun (p : Nat) (reply : SuspendReply) (s : State) : State :=
  let s := suspendOperation reply s
  if restartDue s then s
  else
    let s := preemptChunk s
    send [.read p]
      { s with fp.run := some p, bp.readTxn := s.bp.readTxn.map fun t => { t with holdsFlash := true } }

/-- R60: at the rise of the select a SUSPENDED operation resumes. -/
def resumeOperation (s : State) : State :=
  match s.fp.op with
  | none => s
  | some o =>
    if o.phase = .suspended then send [.resume] { s with fp.op := some { o with phase := .running } } else s

/-- R62: a WAITING chunk request starts when the bus is free for it. -/
def startChunkRead (s : State) : State :=
  match s.fp.chunk with
  | none => s
  | some c =>
    if !c.reading && s.fp.op.isNone && !flashHeld s then
      send [.read c.address] { s with fp.chunk := some { c with reading := true } }
    else s

/-- What follows a step of itself: a queued operation starts (R56), the free engine starts a chunk (R72), the idle
unit runs an operation (R81), and a waiting chunk request starts (R62). Once a restart is due nothing follows but the
restart (R67, log 6). -/
def settle (s : State) : State :=
  if restartDue s then s else startChunkRead (startSignature (startAbsorption (startOperation s)))

/-! ### Ending a scan's outstanding work (R64, R75, R82) -/

/-- R64, R75, R82: the Image Slot Controller withdraws its chunk request, digest item and VERIFY. -/
def withdrawScanWork (s : State) : State :=
  { s with
    fp.chunk := none
    fp.chunkBuffer := []
    de.scan := none
    de.owed := false
    de.absorbing := if s.de.absorbing = some .scan then none else s.de.absorbing
    su.scan := none }

/-! ### Extends (R130 to R132) -/

/-- R201: whether a lane mask names lane `k`. -/
def maskHas (mask : Byte) (k : Nat) : Bool := mask.getLsbD k

/-- R170: the notification reaches a LANES policy in hand whose mask names lane `k`. -/
def noteExtend (k : Nat) (w : CredWork) : CredWork :=
  match w.record.binding with
  | .lanes mask _ => if maskHas mask k then { w with boundLaneExtended := true } else w
  | _ => w

/-- R132, R183: the begin of an extend of lane `k` scrubs a secret response bound to that lane. -/
def notifyExtend (k : Nat) (s : State) : State :=
  let s := { s with cred := s.cred.map (noteExtend k) }
  if s.mc.response.any fun r => r.secret && r.boundMask.any fun m => maskHas m k then emptyResponse s else s

/-- The lane `k` (R128). -/
def laneAt (s : State) (k : Nat) : Lane := s.lanes.getD k .afterReset

/-- R130: an extend begins, or is refused where the log holds 16 records (none). The caller places the 64-byte
input of the fold. -/
def beginExtend (k : Nat) (record : LogRecord) (s : State) : Option State :=
  if 16 ≤ (laneAt s k).log.length then none
  else
    some (notifyExtend k
      { s with lanes := s.lanes.modify k fun l => { l with extending := some ⟨l.value, record⟩ } })

/-- R130: the input of the fold of an extend in progress: the old value, then the event digest. -/
def foldInput (s : State) (k : Nat) : Bytes :=
  ((laneAt s k).extending.map fun x => x.oldValue ++ x.record.digest).getD []

/-- R131: the fold's digest becomes the lane's value and the record is appended. -/
def completeExtend (k : Nat) (digest : Bytes) (s : State) : State :=
  { s with
    lanes := s.lanes.modify k fun l =>
      match l.extending with
      | none => l
      | some x => { value := digest, log := l.log ++ [x.record], extending := none } }

/-! ### Part resets (R3, R24, R52, R65, R66, R76, R83, R91, R97, R107, R128, R150, R185) -/

/-- Every block takes its part-reset values and SOC_RUN goes low; the Protected Store's records, the flash, the pins
and the model's counters stand. -/
def partReset (s : State) : State :=
  { s with
    bp := .afterReset
    tu := .afterReset
    fp := .afterReset
    de := .afterReset
    su := .afterReset
    isc := .afterReset
    lanes := List.replicate 8 .afterReset
    writes := ⟨none, none⟩
    cred := none
    mc := .afterReset
    socRun := false }

/-- R66: an operation RUNNING or SUSPENDED in the flash leaves its range unspecified; a QUEUED one leaves it as it
is. For POWER_ON see log 13. -/
def abandonOperation (s : State) : State :=
  match s.fp.op with
  | none => s
  | some o =>
    if o.phase = .queued then s else { s with flash := s.flash.cutShort o s.draws, draws := s.draws + 1 }

/-- R65 step 1: the flash is reset and its recovery interval begins. -/
def beginPreparation (s : State) : State := send [.resetEnable, .reset] { s with fp.prep := .recovery }

/-- R150, R187: a reset-time write begins; the channel is WORKING until its end. -/
def beginResetWrite (w : StoreWrite) (s : State) : State :=
  waitFor .resetWrite { s with writes := ⟨some ⟨.partReset, w⟩, none⟩, fp.prep := .afterWrite }

/-- R150: the work of a POWER_ON or PIN reset: the lockout lowering where the failure count reads 8, then the
preparation. -/
def beginResetWork (s : State) : State :=
  if s.store.failures = 8 then beginResetWrite .lockoutLowering s else beginPreparation s

/-! ### Transactions (R25 to R28, R46, R60) -/

/-- R60: the select of the read transaction in progress rises. -/
def endRead (s : State) : State :=
  match s.bp.readTxn with
  | none => s
  | some t =>
    let s := { s with bp.readTxn := none, bp.resetEnable := false, fp.run := none }
    if t.holdsFlash then settle (resumeOperation s) else s

/-- R49: the whole bytes a FETCH has delivered. -/
def fetchDelivered (t : FetchTxn) (s : State) : Nat := wholeBytes (dataOutLines s.bp.laneMode false) t.dataClocks

/-- R193: the channel acts on the count of whole bytes a FETCH delivered. -/
def reportFetch (t : FetchTxn) (s : State) : State :=
  match t.fixedLength with
  | none => s
  | some len =>
    if t.stillPresent && decide (len ≤ fetchDelivered t s) then
      if s.mc.response.any (·.secret) then scrub s
      else { s with mc.response := s.mc.response.map fun r => { r with delivered := true } }
    else s

/-- R49, R193: the select of the FETCH transaction in progress rises. -/
def endFetch (s : State) : State :=
  match s.bp.fetchTxn with
  | none => s
  | some t => { reportFetch t s with bp.fetchTxn := none, bp.resetEnable := false }

/-- The select of whatever transaction is in progress rises (log 8). -/
def endOpenTransaction (s : State) : State := endRead (endFetch s)

/-- A transaction begins (R25): the one before it has ended, and nothing is driven yet. While RST_N is low the Boot
Port takes nothing (R106, log 9). -/
def transaction (act : State → State) (s : State) : State :=
  if s.rstLow then freshPort s
  else act { endOpenTransaction (freshPort s) with bp.out := [] }

/-- R46: the reset-enable state is cleared. -/
def clearResetEnable (s : State) : State := { s with bp.resetEnable := false }

/-- R46: a whole transaction other than RESET_ENABLE and RESET: the reset-enable state is clear at its end. -/
def wholeTransaction (act : State → State) (s : State) : State := transaction (fun s => act (clearResetEnable s)) s

end Sys2Proof.Machine
end

