-- ==== Sys2Proof/Machine/Scan.lean ====
section
/-! DEFINITION. The scan operation (chapter 5, R86 to R96), the staged outcomes (chapter 6, R112 to R114) and the boot
scan (R98 to R104). -/

namespace Sys2Proof.Machine

/-! ### The manifest checks (R87 to R90) -/

/-- R87 check 1 passes. -/
def magicOk (m : Bytes) : Bool := slice m 0 4 == [0x46, 0x4D, 0x4E, 0x31]

/-- R87 check 2 passes. -/
def formatOk (m : Bytes) : Bool :=
  manifestFormat m == 1 && decide (manifestSigner m ≤ 3) && decide (1 ≤ manifestSegmentCount m) &&
    decide (manifestSegmentCount m ≤ 8) && byteAt m 7 == 0 && slice m 12 4 == zeroBytes 4 &&
    (manifestRegions m).all (fun e => e.reserved == 0 && decide (e.target.toNat ≤ 3) && decide (e.rights.toNat < 8)) &&
    (manifestSegments m).all fun g => g.reserved == 0

/-- R87, R88: checks 1 to 4, made at the manifest delivery; the public key of the signer's slot, or the reason. -/
def deliveryChecks (keys : List KeySlot) (m : Bytes) : Except ScanReason Bytes :=
  if !magicOk m then .error .badMagic
  else if !formatOk m then .error .badFormat
  else
    match keys.getD (manifestSigner m) .empty with
    | .empty => .error .signerEmpty
    | .revoked _ => .error .signerRevoked
    | .active key => .ok key

/-- R89 check 7 passes, from the end of the entry before. -/
def endsOk (before : Nat) : List ManifestRegion → Bool
  | [] => true
  | e :: rest => decide (before ≤ e.stop) && decide (e.stop ≤ 4096) && decide (e.base ≤ 8191) && endsOk e.stop rest

/-- Two byte ranges, each a start and a length, have an address in common. -/
def overlap (a la b lb : Nat) : Bool := decide (0 < la) && decide (0 < lb) && decide (a < b + lb) && decide (b < a + la)

/-- R89 check 8 passes for one entry of a given length. -/
def aliasOk (sm : SlotMap) (e : ManifestRegion) (length : Nat) : Bool :=
  match targetOfCode e.target with
  | .none => true
  | .direct =>
    decide (e.base * 4096 + length ≤ physicalSize) &&
      !overlap (e.base * 4096) length (sm.slotStart .a) sm.slotBytes &&
      !overlap (e.base * 4096) length (sm.slotStart .b) sm.slotBytes &&
      !overlap (e.base * 4096) length sm.recoveryStart sm.recoveryBytes
  | _ => decide (e.base * 4096 + length ≤ sm.slotBytes)

/-- R89 check 8 passes, over the non-empty entries. -/
def aliasesOk (sm : SlotMap) (before : Nat) : List ManifestRegion → Bool
  | [] => true
  | e :: rest =>
    (decide (e.stop = before) || aliasOk sm e ((e.stop - before) * 4096)) && aliasesOk sm e.stop rest

/-- R90 check 9 passes for one segment. -/
def segmentOk (slotBytes : Nat) (g : ManifestSegment) : Bool :=
  decide (g.offset ≠ 0) && decide (g.length ≠ 0) && decide (g.offset * 4096 + g.length ≤ slotBytes) &&
    (decide (g.lane.toNat ≤ 3) || g.lane == 0xFF)

/-- R90: the spans of no two segments have a byte in common. -/
def spansDisjoint : List ManifestSegment → Bool
  | [] => true
  | g :: rest =>
    (rest.all fun h => !overlap (g.offset * 4096) g.length (h.offset * 4096) h.length) && spansDisjoint rest

/-- R89, R90: checks 6 to 9, made at the completion of a VALID VERIFY; the first that fails. -/
def tableChecks (floor : Option Word32) (sm : SlotMap) (m : Bytes) : Option ScanReason :=
  if floor.any fun f => decide (manifestVersion m < f) then some .versionBelowFloor
  else if !endsOk 0 (manifestRegions m) then some .badRegionTable
  else if !aliasesOk sm 0 (manifestRegions m) then some .regionAlias
  else if !((manifestSegments m).all (segmentOk sm.slotBytes) && spansDisjoint (manifestSegments m)) then
    some .badSegment
  else none

/-! ### Starting a scan and its pieces (R92, R94) -/

/-- R92: a scan starts, replacing every field of the record, with the manifest's chunk request. -/
def startScan (owner : ScanOwner) (x : Slot) (s : State) : State :=
  placeChunkRequest owner (slotStart s x) 544
    { s with isc.scan := { ScanRecord.afterReset with owner := owner, slot := x, phase := .manifestRead } }

/-- R94: segment `k` begins with its digest item and the request for its chunk 0. -/
def beginSegment (k : Nat) (s : State) : State :=
  let s := { s with isc.scan.phase := .segments, isc.scan.segmentIndex := k }
  requestSegmentChunk 0 (placeScanItem (segmentItem (segmentInHand s).length) s)

/-! ### The boot scan's last steps (R97, R100 to R103) -/

/-- R3: install a table and a selector as one event. -/
def installTable (table : List Region) (selector : Slot) (s : State) : State :=
  { s with tu.table := table, tu.selector := selector }

/-- R103: the release of SOC_RUN, with the boot record of R97. -/
def release (record : BootRecord) (s : State) : State :=
  let s := { s with isc.boot := record, isc.stage := .released, socRun := true }
  if record.outcome = .fallbackPass || record.outcome = .recovery then setBootNotice s else s

/-- R84: the slot record; it is present outside BLANK (log 18). -/
def slotRecordOf (s : State) : SlotRecord := s.store.slotRecord.getD ⟨.a, .empty, .empty⟩

/-- R102: recovery. -/
def enterRecovery (s : State) : State :=
  let x := (slotRecordOf s).active
  release ⟨.recovery, x, none, none⟩ (installTable ((s.store.slotMap.map recoveryTable).getD heldTable) x s)

/-- R100 steps 3 and 4: the manifest table is installed and SOC_RUN released. -/
def finishPass (s : State) : State :=
  let m := scanManifest s
  let x := s.isc.scan.slot
  release ⟨if s.isc.bootFallback then .fallbackPass else .pass, x, some (manifestVersion m), some (manifestSigner m)⟩
    (installTable (manifestTable m) x s)

/-- R130, R133: a boot extend begins and its fold is placed in the scan place; none where the log is full. -/
def bootExtend (k : Nat) (record : LogRecord) (stage : BootStage) (s : State) : Option State :=
  (beginExtend k record s).map fun s =>
    { placeScanItem (bufferItem .bootExtend (foldInput s k)) s with isc.stage := stage }

/-- R100 step 2: the next measured segment of a list of indices is extended into its lane; then steps 3 and 4. A
refused extend, which no run reaches, is skipped (log 24). -/
def extendSegments : List Nat → State → State
  | [], s => finishPass s
  | k :: rest, s =>
    match (manifestSegment (scanManifest s) k).measuredLane with
    | none => extendSegments rest s
    | some lane =>
      match bootExtend lane ⟨s.isc.scan.segmentDigests.getD k [], .scanSegment, BitVec.ofNat 32 k⟩ (.segmentFold k) s with
      | none => extendSegments rest s
      | some s => s

/-- R100 step 2, from segment `k` on. -/
def extendFrom (k : Nat) (s : State) : State :=
  extendSegments ((List.range (manifestSegmentCount (scanManifest s))).drop k) s

/-- R100: a boot scan ended with PASS. -/
def bootPassed (s : State) : State :=
  let r := slotRecordOf s
  let x := s.isc.scan.slot
  if r.stateOf x = .failed then
    askWrite .slotController (.slotRecord (r.withState x .valid)) { s with isc.stage := .passWrite }
  else extendFrom 0 s

/-- R101: a boot scan ended with a failure: the event digest of the SCAN_FAILURE record is computed first (R104). -/
def bootFailed (reason : ScanReason) (s : State) : State :=
  let input := [slotCode s.isc.scan.slot, scanReasonCode reason] ++ s.isc.scan.manifestDigest
  placeScanItem (bufferItem .scanFailureEvent input) { s with isc.stage := .failureDigest }

/-! ### The end of a scan (R95, R96, R112, R113) -/

/-- R112, R113: the staging record takes the result of a staged scan. -/
def stagedEnded (result : ScanResult) (s : State) : State :=
  let m := scanManifest s
  match result with
  | .pass =>
    setScanDone
      { s with
        isc.staging.state := .verified
        isc.staging.outcome := .pass (manifestVersion m) (manifestSigner m) (manifestLabel m) }
  | .failure reason k =>
    setScanDone { s with isc.staging.state := .opened, isc.staging.outcome := .rejected reason k }
  | _ => s

/-- R96: the scan's result is fixed and goes to its owner. -/
def endScan (result : ScanResult) (s : State) : State :=
  let s := { s with isc.scan.phase := .ended, isc.scan.result := some result }
  match s.isc.scan.owner with
  | .stagedScan => stagedEnded result s
  | .bootScan =>
    match result with
    | .pass => bootPassed s
    | .failure reason _ => bootFailed reason s
    | _ => s

/-- R114: an allowed write into staging ends a running staged scan STALE. -/
def makeStale (s : State) : State :=
  if s.isc.staging.state = .verifying then
    setScanDone
      { withdrawScanWork s with
        isc.scan.phase := .ended
        isc.scan.result := some .stale
        isc.staging.state := .opened
        isc.staging.outcome := .stale }
  else s

/-! ### The events of a scan (R92, R93, R95) -/

/-- R92: the manifest delivery, with checks 1 to 4. -/
def manifestDelivered (bytes : Bytes) (s : State) : State :=
  let s := { s with isc.scan.manifest := some bytes }
  match deliveryChecks s.store.keys bytes with
  | .error reason => endScan (.failure reason 0) s
  | .ok key =>
    placeScanItem (bufferItem .manifest (manifestSigned bytes))
      { s with isc.scan.signerKey := some key, isc.scan.phase := .manifestDigest }

/-- R93: the manifest digest completes and VERIFY is placed. -/
def manifestDigested (digest : Bytes) (s : State) : State :=
  placeVerify (.verify digest (s.isc.scan.signerKey.getD []) (manifestSignature (scanManifest s)))
    { s with isc.scan.manifestDigest := digest, isc.scan.phase := .signature }

/-- R4: the slot map a scan's checks read; it is present outside BLANK (log 18). -/
def slotMapOf (s : State) : SlotMap := s.store.slotMap.getD ⟨0, 0, 0, 0, 0⟩

/-- R93: the completion of the VERIFY, with checks 6 to 9. -/
def verifyCompleted (valid : Bool) (s : State) : State :=
  if !valid then endScan (.failure .badSignature 0) s
  else
    match tableChecks s.store.floor (slotMapOf s) (scanManifest s) with
    | some reason => endScan (.failure reason 0) s
    | none =>
      beginSegment 0
        (if s.isc.scan.owner = .stagedScan then
          { s with isc.staging.chunksTotal := manifestChunks (scanManifest s) } else s)

/-- R95: a segment digest is compared; the next segment begins or the scan ends. -/
def segmentDigested (digest : Bytes) (s : State) : State :=
  let k := s.isc.scan.segmentIndex
  if digest ≠ (segmentInHand s).digest then endScan (.failure .segmentMismatch k) s
  else
    let s := { s with isc.scan.segmentDigests := s.isc.scan.segmentDigests ++ [digest] }
    if k + 1 < manifestSegmentCount (scanManifest s) then beginSegment (k + 1) s else endScan .pass s

/-! ### The boot scan's steps (R98, R99, R101, R104) -/

/-- R99, R101: a boot scan of a slot starts, marked as the fallback or not. -/
def startBootScan (x : Slot) (fallback : Bool) (s : State) : State :=
  startScan .bootScan x { s with isc.stage := .scanning, isc.bootFallback := fallback }

/-- R99, R101: the record after a revert: X REJECTED, the other slot VALID and persistent-active. -/
def revertRecord (r : SlotRecord) (x : Slot) : SlotRecord :=
  { (r.withState x .rejected).withState x.other .valid with active := x.other }

/-- R99: the first step of the boot scan. -/
def bootFirstStep (s : State) : State :=
  let r := slotRecordOf s
  let x := r.active
  let s := { s with isc.bootX := x, isc.bootFallback := false, isc.bootXTrial := false }
  match r.stateOf x with
  | .trial n =>
    let s := { s with isc.bootXTrial := true }
    if n = 0 then
      if r.stateOf x.other = .fallback then
        askWrite .slotController (.slotRecord (revertRecord r x)) { s with isc.stage := .revertWrite }
      else askWrite .slotController (.slotRecord (r.withState x .failed)) { s with isc.stage := .exhaustedWrite }
    else
      askWrite .slotController (.slotRecord (r.withState x (.trial (n - 1)))) { s with isc.stage := .attemptWrite }
  | _ => startBootScan x false s

/-- R98: what follows the hand-over of the identification: the identity table and the release in BLANK, the boot scan
otherwise. -/
def beginBoot (s : State) : State :=
  match s.store.lifecycle with
  | .blank => release .afterReset (installTable identityTable .a s)
  | _ => bootFirstStep s

/-- R101: after the SCAN_FAILURE record: the revert to the fallback, or FAILED and recovery. -/
def afterFailureRecord (s : State) : State :=
  let r := slotRecordOf s
  let x := s.isc.bootX
  if s.isc.scan.slot = x && s.isc.bootXTrial && r.stateOf x.other = .fallback then
    askWrite .slotController (.slotRecord (revertRecord r x)) { s with isc.stage := .failureRevertWrite }
  else if r.stateOf s.isc.scan.slot = .failed then enterRecovery s
  else
    askWrite .slotController (.slotRecord (r.withState s.isc.scan.slot .failed)) { s with isc.stage := .failedWrite }

/-- R99: after the TRIAL_REVERT record: the scan of Y as the fallback. -/
def afterRevertRecord (s : State) : State := startBootScan s.isc.bootX.other true s

/-- R104: the tag of a SCAN_FAILURE record. -/
def failureTag : Option ScanResult → Word32
  | some (.failure reason k) => BitVec.ofNat 32 ((scanReasonCode reason).toNat + 256 * k)
  | _ => 0

/-- R104: the event digest of a SCAN_FAILURE record completes and the record is extended into lane 0. -/
def failureDigested (digest : Bytes) (s : State) : State :=
  match bootExtend 0 ⟨digest, .scanFailure, failureTag s.isc.scan.result⟩ .failureFold s with
  | none => afterFailureRecord s
  | some s => s

/-- R104: the event digest of a TRIAL_REVERT record completes and the record is extended into lane 0. -/
def revertDigested (digest : Bytes) (s : State) : State :=
  match bootExtend 0 ⟨digest, .trialRevert, BitVec.ofNat 32 (scanReasonCode .attemptsExhausted).toNat⟩ .revertFold s with
  | none => afterRevertRecord s
  | some s => s

/-- R131, R133: a boot extend completes, and the boot scan takes its next step. -/
def bootFolded (digest : Bytes) (s : State) : State :=
  match s.isc.stage with
  | .revertFold => afterRevertRecord (completeExtend 0 digest s)
  | .failureFold => afterFailureRecord (completeExtend 0 digest s)
  | .segmentFold k =>
    match (manifestSegment (scanManifest s) k).measuredLane with
    | none => s
    | some lane => extendFrom (k + 1) (completeExtend lane digest s)
  | _ => s

/-- R74: a digest of the scan place goes to the work that asked for it. -/
def scanDigest (work : DigestWork) (digest : Bytes) (s : State) : State :=
  match work with
  | .manifest => manifestDigested digest s
  | .segment => segmentDigested digest s
  | .scanFailureEvent => failureDigested digest s
  | .trialRevertEvent => revertDigested digest s
  | .bootExtend => bootFolded digest s
  | _ => s

/-- R85, R99 to R102: a slot record write of the boot scan has ended. -/
def bootWriteEnded (s : State) : State :=
  match s.isc.stage with
  | .attemptWrite => startBootScan s.isc.bootX false s
  | .revertWrite =>
    placeScanItem (bufferItem .trialRevertEvent [slotCode s.isc.bootX, slotCode s.isc.bootX.other])
      { s with isc.stage := .revertDigest }
  | .exhaustedWrite => enterRecovery s
  | .failureRevertWrite => startBootScan s.isc.bootX.other true s
  | .failedWrite => enterRecovery s
  | .passWrite => extendFrom 0 s
  | _ => s

end Sys2Proof.Machine
end

