-- ==== Sys2Proof/Machine/Reports.lean ====
section
/-! DEFINITION. The bodies of the OK responses (R206) and of the quote (R143), each read from the state at one event. -/

namespace Sys2Proof.Machine

/-- R206: an absent booted or verified signer slot is sent as 0xFF. -/
def signerByte (x : Option Nat) : Byte := (x.map (BitVec.ofNat 8)).getD 0xFF

/-- R206: an absent version or floor is sent as 0. -/
def numberBytes (x : Option Word32) : Bytes := leBytes 4 ((x.map BitVec.toNat).getD 0)

/-- R206: attempts are sent as 0xFF unless the persistent-active slot is TRIAL. -/
def attemptsByte (r : SlotRecord) : Byte :=
  match r.stateOf r.active with
  | .trial n => BitVec.ofNat 8 n
  | _ => 0xFF

/-- R206: persistent-active slot, state of A, state of B, attempts; four 0xFF where the record is absent. -/
def slotRecordBytes : Option SlotRecord → Bytes
  | none => [0xFF, 0xFF, 0xFF, 0xFF]
  | some r => [slotCode r.active, slotStateCode r.stateA, slotStateCode r.stateB, attemptsByte r]

/-- R206: the credential count and the bytes used. -/
def credentialTotals (l : List Credential) : Bytes := leBytes 1 l.length ++ leBytes 2 (bytesUsed l)

/-- R198, R206: the body of GET_INFO, 29 bytes. -/
def infoBody (s : State) : Bytes :=
  leBytes 2 0x0416 ++ [1, lifecycleCode s.store.lifecycle] ++
  [bootOutcomeCode s.isc.boot.outcome, slotCode s.isc.boot.slot] ++ numberBytes s.isc.boot.version ++
  [signerByte s.isc.boot.signer] ++
  [flagByte s.store.slotRecord.isSome] ++ slotRecordBytes s.store.slotRecord ++
  [flagByte s.store.floor.isSome] ++ numberBytes s.store.floor ++
  (List.range 4).map (fun i => keySlotCode (s.store.keys.getD i .empty)) ++
  credentialTotals s.store.credentials ++ leBytes 1 s.store.failures

/-- R206: the first refusal's address, kind and reason, all zero while the count is 0. -/
def firstRefusalBytes (x : Option FirstRefusal) : Bytes :=
  match x with
  | none => zeroBytes 5
  | some f => leBytes 3 f.address.toNat ++ [commandKindCode f.kind, refusalReasonCode f.reason]

/-- R197, R206: the body of GET_STATUS, 11 bytes. -/
def statusBody (s : State) : Bytes :=
  [eventFlagsByte s.mc.flags, flagByte s.mc.dropped] ++ leBytes 2 s.tu.violations ++
  firstRefusalBytes s.tu.firstRefusal ++ [stagingStateCode s.isc.staging.state, alertMaskByte s.mc.mask]

/-- R206: one entry of READ_MAP. -/
def regionBytes (e : Region) : Bytes :=
  leBytes 2 e.stop ++ [targetCode e.target, rightsByte e.granted, rightsByte e.live, 0] ++ leBytes 2 e.base

/-- R199, R206: the body of READ_MAP, 138 bytes. -/
def mapBody (s : State) : Bytes :=
  (List.range 16).flatMap (fun i => regionBytes (s.tu.table.getD i .held)) ++
  [slotCode s.tu.selector, flagByte s.store.slotMap.isSome] ++
  (s.store.slotMap.map slotMapBytes).getD (zeroBytes 8)

/-- R206: reject reason and segment index. -/
def rejectBytes : StagingOutcome → Bytes
  | .rejected reason k => [scanReasonCode reason, BitVec.ofNat 8 k]
  | _ => [0, 0]

/-- R206: verified version, signer slot and label. -/
def verifiedBytes : StagingOutcome → Bytes
  | .pass version signer label => leBytes 4 version.toNat ++ [BitVec.ofNat 8 signer] ++ label
  | _ => zeroBytes 4 ++ [0xFF] ++ zeroBytes 16

/-- R126, R206: the body of GET_SLOT_STATUS, 43 bytes. -/
def slotStatusBody (s : State) : Bytes :=
  let g := s.isc.staging
  slotRecordBytes s.store.slotRecord ++ numberBytes s.store.floor ++
  [stagingStateCode g.state, stagingOutcomeCode g.outcome] ++ rejectBytes g.outcome ++ verifiedBytes g.outcome ++
  leBytes 4 g.chunksDone ++ leBytes 4 g.chunksTotal ++ leBytes 2 g.preemptions

/-- R141, R206: the body of GET_IDENTITY. -/
def identityBody (k : IdentityKey) (e : Endorsement) : Bytes :=
  match e with
  | .complete declared bytes => k.publicKey ++ leBytes 2 declared ++ bytes
  | _ => k.publicKey ++ [0, 0]

/-- R206: one record of READ_LANE. -/
def logRecordBytes (r : LogRecord) : Bytes := r.digest ++ [logSourceCode r.source] ++ leBytes 4 r.tag.toNat

/-- R136: at most eight records from `start` on, oldest first. -/
def recordsFrom (l : Lane) (start : Nat) : List LogRecord := (l.log.drop start).take 8

/-- R136, R206: the body of READ_LANE. -/
def laneBody (k : Nat) (l : Lane) (start : Nat) : Bytes :=
  let rs := recordsFrom l start
  leBytes 1 k ++ l.value ++ leBytes 1 l.log.length ++ leBytes 1 rs.length ++ rs.flatMap logRecordBytes

/-- R135, R206: the body of EXTEND_LANE after the completion. -/
def extendBody (k : Nat) (l : Lane) : Bytes := leBytes 1 k ++ l.value ++ leBytes 1 l.log.length

/-- R143, R170: the values of the lanes of a mask, in ascending lane order. -/
def maskedLaneValues (s : State) (mask : Byte) : Bytes :=
  (List.range 8).flatMap fun k => if maskHas mask k then (laneAt s k).value else []

/-- R143, R206: the quote body, composed at one event. -/
def quoteBody (s : State) (nonce : Bytes) (mask : Byte) : Bytes :=
  [0x01, lifecycleCode s.store.lifecycle, bootOutcomeCode s.isc.boot.outcome, slotCode s.isc.boot.slot, mask,
    0, 0, 0] ++
  numberBytes s.isc.boot.version ++ numberBytes s.store.floor ++ nonce ++ maskedLaneValues s mask

/-- R177, R206: one record of LIST_CREDENTIALS. -/
def credentialListing (c : Credential) : Bytes :=
  leBytes 1 c.handle ++ [credClassCode c.cls, credModeCode c.exportable, flagByte c.gated, bindingCode c.binding] ++
    leBytes 1 c.secret.length

/-- R177, R206: the body of LIST_CREDENTIALS. -/
def credentialListBody (l : List Credential) : Bytes := credentialTotals l ++ l.flatMap credentialListing

/-- R172, R176, R206: the body of STORE_CREDENTIAL and ERASE_CREDENTIAL. -/
def credentialChangeBody (handle : Nat) (l : List Credential) : Bytes := leBytes 1 handle ++ credentialTotals l

/-- R174, R206: the body of RELEASE_CREDENTIAL. -/
def releaseBody (c : Credential) : Bytes :=
  leBytes 1 c.handle ++ [credClassCode c.cls] ++ leBytes 1 c.secret.length ++ c.secret

/-- R206: key slot and its state. -/
def keySlotBody (t : Store) (i : Nat) : Bytes := leBytes 1 i ++ [keySlotCode (t.keys.getD i .empty)]

/-- R140, R206: endorsement state and declared length. -/
def endorsementBody : Endorsement → Bytes
  | .absent => [endorsementCode .absent, 0, 0]
  | .part n b => endorsementCode (.part n b) :: leBytes 2 n
  | .complete n b => endorsementCode (.complete n b) :: leBytes 2 n

end Sys2Proof.Machine
end

