-- ==== Sys2Proof/Machine/Requests.lean ====
section
/-! DEFINITION. The management requests from their taking on: the checks of steps 3 to 6 (R189), the work each asks of
the other blocks, and what follows when that work ends. Each `take…` acts on the frame in the request buffer. -/

namespace Sys2Proof.Machine

/-- R189 step 5: the body has the length of the request (R205), else BAD_ARGUMENT. -/
def withLength (n : Nat) (act : Bytes → State → State) (s : State) : State :=
  let body := requestBody s
  if body.length = n then act body s else respond .badArgument [] s

/-- R189 step 3: a check of lifecycle or state, else BAD_STATE. -/
def withState (ok : Bool) (act : State → State) (s : State) : State :=
  if ok then act s else respond .badState [] s

/-- R146: the lifecycle is one of those that admit the request. -/
def lifecycleIs (s : State) (x : Lifecycle) : Bool := s.store.lifecycle = x

/-- The channel asks for a store write and waits for it with the request in hand (R148, R187). -/
def writeAndWait (r : Request) (w : StoreWrite) (s : State) : State :=
  waitFor (.lastWrite r) (askWrite .channel w s)

/-- The channel places a digest item and waits for it (R68, R187). -/
def digestAndWait (job : Job) (item : DigestItem) (s : State) : State :=
  settle (waitFor job (placeChannelItem item s))

/-! ### The Management Channel's own requests (chapter 10) -/

/-- R198. -/
def takeGetInfo (s : State) : State := withLength 0 (fun _ s => respond .ok (infoBody s) s) s

/-- R197: DROPPED is reported as it was and cleared. -/
def takeGetStatus (s : State) : State :=
  withLength 0 (fun _ s => respond .ok (statusBody s) { s with mc.dropped := false }) s

/-- R195: the flags less those of a mask byte. -/
def EventFlags.minus (f : EventFlags) (mask : Byte) : EventFlags :=
  ⟨f.scanDone && !mask.getLsbD 0, f.violation && !mask.getLsbD 1, f.bootNotice && !mask.getLsbD 2⟩

/-- R23, R195. -/
def takeClearEvents (s : State) : State :=
  withLength 1 (fun body s =>
    let mask := byteAt body 0
    if 8 ≤ mask.toNat then respond .badArgument [] s
    else
      let s := { s with mc.flags := s.mc.flags.minus mask }
      let s := if mask.getLsbD 1 then { s with tu := clearViolations s.tu } else s
      respond .ok [eventFlagsByte s.mc.flags] s) s

/-- R196. -/
def takeSetAlertMask (s : State) : State :=
  withLength 1 (fun body s =>
    let mask := byteAt body 0
    if 16 ≤ mask.toNat then respond .badArgument [] s
    else respond .ok [mask] { s with mc.mask := alertMaskOfByte mask }) s

/-- R200: taken for a restart; no response is placed. -/
def takeRestart (s : State) : State := withLength 0 (fun _ s => waitFor (.restart none) s) s

/-! ### The Translation Unit's requests (chapter 1) -/

/-- R199. -/
def takeReadMap (s : State) : State := withLength 0 (fun _ s => respond .ok (mapBody s) s) s

/-- R20. -/
def takeRestrictRegion (s : State) : State :=
  withLength 2 (fun body s =>
    let i := (byteAt body 0).toNat
    let mask := byteAt body 1
    if 15 < i || decide (8 ≤ mask.toNat) then respond .badArgument [] s
    else
      let s := { s with tu.table := narrowTable s.tu.table i (rightsOfByte mask) }
      let e := s.tu.table.getD i .held
      respond .ok [byteAt body 0, rightsByte e.granted, rightsByte e.live] s) s

/-- R5. -/
def takeLoadSlotMap (s : State) : State :=
  withState (lifecycleIs s .blank) (withLength 8 fun body s =>
    let m := slotMapOfBody body
    if m.valid then writeAndWait .loadSlotMap (.slotMap m) s else respond .badArgument [] s) s

/-! ### Attestation (chapter 7) -/

/-- R138. -/
def takeGenerateIdentity (s : State) : State :=
  withState (lifecycleIs s .blank)
    (withLength 0 fun _ s => settle (waitFor .generate (placeChannelOp .generate s))) s

/-- R139 check 4: part 1 continues the stored endorsement. -/
def endorsementContinues (e : Endorsement) (declared : Nat) : Bool :=
  match e with
  | .part n _ => n = declared
  | _ => false

/-- R140: the endorsement after the write of a part. -/
def endorsementAfter (e : Endorsement) (part declared : Nat) (bytes : Bytes) : Endorsement :=
  if part = 0 then (if declared ≤ 256 then .complete declared bytes else .part declared bytes)
  else
    match e with
    | .part _ first => .complete declared (first ++ bytes)
    | other => other

/-- R139: the number of part bytes is right. -/
def endorsementLengthOk (part declared count : Nat) : Bool :=
  if part = 0 then decide (count = min 256 declared) else decide (256 < declared) && decide (count = declared - 256)

/-- R139, R140. -/
def takeLoadEndorsement (s : State) : State :=
  withState (lifecycleIs s .blank && s.store.identity.isSome) (fun s =>
    let body := requestBody s
    let part := (byteAt body 0).toNat
    let declared := leAt body 1 2
    let bytes := body.drop 3
    if body.length < 3 || 1 < part || decide (declared < 1) || decide (512 < declared) ||
        !endorsementLengthOk part declared bytes.length then respond .badArgument [] s
    else if part = 1 && !endorsementContinues s.store.endorsement declared then respond .badState [] s
    else writeAndWait .loadEndorsement (.endorsement (endorsementAfter s.store.endorsement part declared bytes)) s) s

/-- R141. -/
def takeGetIdentity (s : State) : State :=
  match s.store.identity with
  | none => respond .badState [] s
  | some k => withLength 0 (fun _ s => respond .ok (identityBody k s.store.endorsement) s) s

/-- R142 to R144: the body is composed at the taking and its digest placed. -/
def takeQuote (s : State) : State :=
  withState s.store.identity.isSome (withLength 33 fun body s =>
    let mask := byteAt body 32
    if mask = 0 then respond .badArgument [] s
    else
      let q := quoteBody s (slice body 0 32) mask
      digestAndWait (.quoteDigest q) (bufferItem .quoteBody q) s) s

/-- R136. -/
def takeReadLane (s : State) : State :=
  withLength 2 (fun body s =>
    let k := (byteAt body 0).toNat
    if 7 < k then respond .badArgument [] s
    else respond .ok (laneBody k (laneAt s k) (byteAt body 1).toNat) s) s

/-- R134, R135. -/
def takeExtendLane (s : State) : State :=
  withLength 37 (fun body s =>
    let k := (byteAt body 0).toNat
    if k < 4 || 7 < k then respond .badArgument [] s
    else
      match beginExtend k ⟨slice body 1 32, .request, BitVec.ofNat 32 (leAt body 33 4)⟩ s with
      | none => respond .logFull [] s
      | some s => digestAndWait (.laneFold k) (bufferItem .laneExtend (foldInput s k)) s) s

/-! ### Updates (chapter 6) -/

/-- R109: a boot scan is running in PROVISIONED or OWNED until the release of SOC_RUN. -/
def bootScanDone (s : State) : Bool := !lifecycleIs s .blank && s.socRun

/-- R6: the live-inactive slot. -/
def liveInactive (s : State) : Slot := s.tu.selector.other

/-- R109. -/
def takeOpenStaging (s : State) : State :=
  let slotState := (slotRecordOf s).stateOf (liveInactive s)
  withState (bootScanDone s && s.isc.staging.state = .closed && (slotState = .empty || slotState = .rejected))
    (withLength 0 fun _ s =>
      respond .ok [slotCode (liveInactive s)] { s with isc.staging.state := .opened }) s

/-- R110: the staged scan starts and ACCEPTED is placed at once. -/
def takeVerifyStaged (s : State) : State :=
  withState (bootScanDone s && s.isc.staging.state = .opened) (withLength 0 fun _ s =>
    settle (respond .accepted [] (startScan .stagedScan (liveInactive s)
      { s with isc.staging := ⟨.verifying, .none, 0, 0, 0⟩ }))) s

/-- R119: the slot record after a commit of slot `x`. -/
def commitRecord (r : SlotRecord) (x : Slot) (attempts : Nat) : SlotRecord :=
  let old := if r.stateOf r.active = .valid then SlotState.fallback else .empty
  { (r.withState r.active old).withState x (.trial attempts) with active := x }

/-- R118, R119: staging closes at the taking, then the slot record is written. -/
def takeCommitStaged (s : State) : State :=
  let r := slotRecordOf s
  withState (!lifecycleIs s .blank && s.isc.staging.state = .verified &&
      (r.stateOf r.active = .valid || r.stateOf r.active = .failed))
    (withLength 1 fun body s =>
      writeAndWait .commitStaged
        (.slotRecord (commitRecord r (liveInactive s) (clampAttempts (byteAt body 0).toNat)))
        { s with isc.staging.state := .closed }) s

/-- R84: a slot state is TRIAL. -/
def isTrial : SlotState → Bool
  | .trial _ => true
  | _ => false

/-- R123: the slot record after a confirmation. -/
def confirmRecord (r : SlotRecord) : SlotRecord :=
  let other := if r.stateOf r.active.other = .fallback then SlotState.empty else r.stateOf r.active.other
  (r.withState r.active .valid).withState r.active.other other

/-- R123 step 2: the slot record write. -/
def confirmSlot (s : State) : State :=
  writeAndWait .confirmActive (.slotRecord (confirmRecord (slotRecordOf s))) s

/-- R122, R123: the floor write where the booted version is above the floor, then the slot record write. -/
def takeConfirmActive (s : State) : State :=
  let r := slotRecordOf s
  withState (!lifecycleIs s .blank && s.isc.boot.outcome = .pass && s.isc.boot.slot = r.active &&
      isTrial (r.stateOf r.active))
    (withLength 0 fun _ s =>
      let booted := s.isc.boot.version.getD 0
      if s.store.floor.getD 0 < booted then waitFor .floorWrite (askWrite .channel (.floor booted) s)
      else confirmSlot s) s

/-- R116. -/
def takeAbandonStaging (s : State) : State :=
  withState (!lifecycleIs s .blank && s.isc.staging.state ≠ .closed) (withLength 0 fun _ s =>
    if s.isc.staging.state = .verifying then
      settle (respond .ok [] (setScanDone
        { withdrawScanWork s with
          isc.scan.phase := .ended
          isc.scan.result := some .abandoned
          isc.staging.state := .closed
          isc.staging.outcome := .abandoned }))
    else respond .ok [] { s with isc.staging.state := .closed }) s

/-- R126. -/
def takeGetSlotStatus (s : State) : State :=
  withState (!lifecycleIs s .blank) (withLength 0 fun _ s => respond .ok (slotStatusBody s) s) s

/-! ### Provisioning and ownership (chapter 8) -/

/-- R151. -/
def takeLoadUpdateKey (s : State) : State :=
  withState (lifecycleIs s .blank) (withLength 65 fun body s =>
    let i := (byteAt body 0).toNat
    if 3 < i then respond .badArgument [] s
    else writeAndWait .loadUpdateKey (.keySlot i (.active (body.drop 1))) s) s

/-- R162: a key slot is ACTIVE. -/
def keyActive : KeySlot → Bool
  | .active _ => true
  | _ => false

/-- R152 check 4: the endorsement state is PARTIAL. -/
def endorsementPartial : Endorsement → Bool
  | .part _ _ => true
  | _ => false

/-- R152, R153: taken for a restart with the provisioning write; no response is placed. -/
def takeFinishProvisioning (s : State) : State :=
  withState (lifecycleIs s .blank && s.store.slotMap.isSome && s.store.identity.isSome &&
      !endorsementPartial s.store.endorsement && s.store.keys.any keyActive)
    (withLength 4 fun body s => waitFor (.restart (some (BitVec.ofNat 32 (leNat body)))) s) s

/-- R156. -/
def takeTakeOwnership (s : State) : State :=
  withState (lifecycleIs s .provisioned)
    (withLength 32 fun body s => digestAndWait (.tokenDigest .takeOwnership) (bufferItem .newToken body) s) s

/-- R157, R158: the owner gate: no proof DENIED, then the lockout, then the digest of the proof. -/
def ownerGate (r : Request) (s : State) : State :=
  match frameProof s.mc.request with
  | none => respond .denied [] s
  | some proof =>
    if s.store.failures = 8 then respond .lockedOut [] s
    else digestAndWait (.gateDigest r) (bufferItem .ownerProof proof) s

/-- R157: a request that is owner-gated whatever it names: the lifecycle, then the gate. -/
def takeGated (r : Request) (s : State) : State := withState (lifecycleIs s .owned) (ownerGate r) s

/-- R160. -/
def takeChangeOwnerToken (s : State) : State := takeGated .changeOwnerToken s
/-- R161. -/
def takeReleaseOwnership (s : State) : State := takeGated .releaseOwnership s
/-- R163. -/
def takeAddUpdateKey (s : State) : State := takeGated .addUpdateKey s
/-- R164. -/
def takeRevokeUpdateKey (s : State) : State := takeGated .revokeUpdateKey s
/-- R171. -/
def takeStoreCredential (s : State) : State := takeGated .storeCredential s
/-- R176. -/
def takeEraseCredential (s : State) : State := takeGated .eraseCredential s

/-! ### The use of a credential (R168 to R175) -/

/-- The record in the working copy, with the secret as the Protected Store holds it (R174, R175). -/
def storedCredential (s : State) (c : Credential) : Credential :=
  (credentialAt s.store.credentials c.handle).getD c

/-- R174: the bound lane mask of a secret response. -/
def boundMaskOf : Binding → Option Byte
  | .lanes mask _ => some mask
  | _ => none

/-- R174, R175: every check has passed: the secret is released, or the derive digest placed. -/
def grantUse (r : Request) (c : Credential) (s : State) : State :=
  match r with
  | .derive =>
    digestAndWait .deriveDigest
      (bufferItem .derive ((storedCredential s c).secret ++ (requestBody s).drop 1)) s
  | _ => respondSecret (boundMaskOf c.binding) (releaseBody (storedCredential s c)) s

/-- R168: the boot outcome lets a LANES or SIGNER binding be looked at. -/
def outcomeBooted (o : BootOutcome) : Bool := o = .pass || o = .fallbackPass

/-- R168: a SIGNER binding is satisfied by the boot record. -/
def signerSatisfied (b : BootRecord) (keySlot : Nat) (minVersion : Word32) : Bool :=
  b.signer = some keySlot && b.version.any fun v => decide (minVersion ≤ v)

/-- R168 to R170: the policy check on the working copy, which keeps the boot record read at it whatever the binding
(R169), and the lane values read for a LANES binding. -/
def checkPolicy (r : Request) (c : Credential) (s : State) : State :=
  let s := { s with cred := some ⟨c, some s.isc.boot, none, false⟩ }
  match c.binding with
  | .none => grantUse r c s
  | .signer keySlot minVersion =>
    if outcomeBooted s.isc.boot.outcome && signerSatisfied s.isc.boot keySlot minVersion then grantUse r c s
    else respond .policy [] s
  | .lanes mask _ =>
    if outcomeBooted s.isc.boot.outcome then
      let values := maskedLaneValues s mask
      digestAndWait (.laneBinding r) (bufferItem .laneBinding values)
        { s with cred := some ⟨c, some s.isc.boot, some values, false⟩ }
    else respond .policy [] s

/-- R165: the Credential Unit takes a working copy of a record, with no value read for it yet. -/
def holdCredential (c : Credential) (s : State) : State := { s with cred := some ⟨c, none, none, false⟩ }

/-- R173 step 5, R175 step 4: the gate where the record is owner-gated, then the policy. -/
def useCredential (r : Request) (c : Credential) (s : State) : State :=
  let s := holdCredential c s
  if c.gated then ownerGate r s else checkPolicy r c s

/-- R173. -/
def takeReleaseCredential (s : State) : State :=
  withState (lifecycleIs s .owned) (withLength 1 fun body s =>
    let handle := (byteAt body 0).toNat
    if 31 < handle then respond .badArgument [] s
    else
      match credentialAt s.store.credentials handle with
      | none => respond .notFound [] s
      | some c => if c.exportable then useCredential .releaseCredential c s else respond .badArgument [] s) s

/-- R175. -/
def takeDerive (s : State) : State :=
  withState (lifecycleIs s .owned) (fun s =>
    let body := requestBody s
    let handle := (byteAt body 0).toNat
    if body.length < 2 || decide (65 < body.length) || 31 < handle then respond .badArgument [] s
    else
      match credentialAt s.store.credentials handle with
      | none => respond .notFound [] s
      | some c => useCredential .derive c s) s

/-- R177. -/
def takeListCredentials (s : State) : State :=
  withLength 0 (fun _ s => respond .ok (credentialListBody s.store.credentials) s) s

/-! ### After the owner gate (R160 to R164, R171, R172, R176) -/

/-- R160 step 3. -/
def passChangeOwnerToken (s : State) : State :=
  withLength 32 (fun body s => digestAndWait (.tokenDigest .changeOwnerToken) (bufferItem .newToken body) s) s

/-- R161. -/
def passReleaseOwnership (s : State) : State :=
  withLength 0 (fun _ s => writeAndWait .releaseOwnership .releaseOwnership s) s

/-- R163 checks 3 and 4. -/
def passAddUpdateKey (s : State) : State :=
  withLength 65 (fun body s =>
    let i := (byteAt body 0).toNat
    if 3 < i then respond .badArgument [] s
    else
      match s.store.keys.getD i .empty with
      | .empty => writeAndWait .addUpdateKey (.keySlot i (.active (body.drop 1))) s
      | _ => respond .badState [] s) s

/-- R164 checks 3 to 6. -/
def passRevokeUpdateKey (s : State) : State :=
  withLength 1 (fun body s =>
    let i := (byteAt body 0).toNat
    if 3 < i then respond .badArgument [] s
    else
      match s.store.keys.getD i .empty with
      | .active key =>
        if s.isc.boot.signer = some i then respond .keyInUse [] s
        else if (s.store.keys.filter keyActive).length = 1 then respond .keyInUse [] s
        else writeAndWait .revokeUpdateKey (.keySlot i (.revoked key)) s
      | _ => respond .badState [] s) s

/-- R172: the bytes used after a store, with the replaced record's length counted as freed. -/
def bytesAfterStore (l : List Credential) (c : Credential) : Nat :=
  bytesUsed (l.filter fun d => d.handle != c.handle) + c.secret.length

/-- R166: the limit of the secret bytes. -/
def secretLimit : Nat := 2048

/-- R171 step 3, R172: the argument checks, the space check and the write, with the secret zeroed in the request
buffer. R165 has the working copy hold "the record named" and does not say whether that is the new record or one at the
handle that it replaces: the model holds the new one (DESIGN CHOICE, log 32). -/
def passStoreCredential (s : State) : State :=
  match credentialOfBody (requestBody s) with
  | none => respond .badArgument [] s
  | some c =>
    if secretLimit < bytesAfterStore s.store.credentials c then respond .noSpace [] s
    else
      let start := frameBodyStart s.mc.request + 44
      writeAndWait .storeCredential (.putCredential c)
        { holdCredential c s with mc.request := zeroRange s.mc.request start (s.mc.request.length - start) }

/-- R176 steps 3 and 4. -/
def passEraseCredential (s : State) : State :=
  withLength 1 (fun body s =>
    let handle := (byteAt body 0).toNat
    if 31 < handle then respond .badArgument [] s
    else
      match credentialAt s.store.credentials handle with
      | none => respond .notFound [] s
      | some c => writeAndWait .eraseCredential (.removeCredential handle) (holdCredential c s)) s

/-- R173 step 6, R175 step 5: the policy of the record in the working copy. -/
def passCredentialUse (r : Request) (s : State) : State :=
  match s.cred with
  | none => s
  | some w => checkPolicy r w.record s

/-- R157 step 4: a gated request goes on after a right proof. -/
def afterGate (r : Request) (s : State) : State :=
  match r with
  | .changeOwnerToken => passChangeOwnerToken s
  | .releaseOwnership => passReleaseOwnership s
  | .addUpdateKey => passAddUpdateKey s
  | .revokeUpdateKey => passRevokeUpdateKey s
  | .storeCredential => passStoreCredential s
  | .eraseCredential => passEraseCredential s
  | .releaseCredential => passCredentialUse .releaseCredential s
  | .derive => passCredentialUse .derive s
  | _ => s

/-- R158: the digest of the proof completes; the proof is zeroed in the request buffer, and the count written. -/
def proofDigested (r : Request) (digest : Bytes) (s : State) : State :=
  let s := { s with mc.request := zeroRange s.mc.request 4 32 }
  if s.store.verifier = some digest then
    if s.store.failures = 0 then afterGate r s
    else waitFor (.gateWrite r true) (askWrite .channel (.failures 0) s)
  else waitFor (.gateWrite r false) (askWrite .channel (.failures (s.store.failures + 1)) s)

/-! ### What follows the end of a request's work (R131, R138, R144, R156, R160, R170, R175, R190) -/

/-- R156, R160: the digest of the new token completes and the verifier is written. -/
def tokenDigested (r : Request) (digest : Bytes) (s : State) : State :=
  match r with
  | .takeOwnership =>
    writeAndWait .takeOwnership (.takeOwnership digest)
      { s with mc.request := zeroRange s.mc.request (frameBodyStart s.mc.request) 32 }
  | _ => writeAndWait .changeOwnerToken (.verifier digest) s

/-- R144, R79: the SIGN is placed with the body digest and the private key read in. -/
def quoteDigested (body digest : Bytes) (s : State) : State :=
  waitFor (.quoteSign body) (placeChannelOp (.sign digest ((s.store.identity.map (·.secret)).getD 0)) s)

/-- R135: the fold completes and EXTEND_LANE is answered. -/
def laneFolded (k : Nat) (digest : Bytes) (s : State) : State :=
  let s := completeExtend k digest s
  respond .ok (extendBody k (laneAt s k)) s

/-- R170: the lane-binding digest completes. -/
def laneBindingDigested (r : Request) (digest : Bytes) (s : State) : State :=
  match s.cred with
  | none => s
  | some w =>
    match w.record.binding with
    | .lanes _ reference =>
      if !w.boundLaneExtended && digest = reference then grantUse r w.record s else respond .policy [] s
    | _ => respond .policy [] s

/-- R175: the derive digest completes; a bound lane extended meanwhile turns the request into POLICY (R170). -/
def deriveDigested (digest : Bytes) (s : State) : State :=
  match s.cred with
  | none => s
  | some w =>
    if w.boundLaneExtended then respond .policy [] s
    else respondSecret (boundMaskOf w.record.binding) (leBytes 1 w.record.handle ++ digest) s

/-- R74: a digest of the channel place goes to the request in hand. -/
def channelDigest (digest : Bytes) (s : State) : State :=
  match s.mc.state with
  | .working (.gateDigest r) => proofDigested r digest s
  | .working (.tokenDigest r) => tokenDigested r digest s
  | .working (.quoteDigest body) => quoteDigested body digest s
  | .working (.laneFold k) => laneFolded k digest s
  | .working (.laneBinding r) => laneBindingDigested r digest s
  | .working .deriveDigest => deriveDigested digest s
  | _ => s

/-- R206: the OK response of a request whose last store write has ended. -/
def writtenBody (r : Request) (s : State) : Bytes :=
  let body := requestBody s
  let handle := (byteAt body 0).toNat
  match r with
  | .generateIdentity => (s.store.identity.map (·.publicKey)).getD []
  | .loadEndorsement => endorsementBody s.store.endorsement
  | .loadUpdateKey => keySlotBody s.store handle
  | .addUpdateKey => keySlotBody s.store handle
  | .revokeUpdateKey => keySlotBody s.store handle
  | .commitStaged => [slotCode (slotRecordOf s).active, BitVec.ofNat 8 (clampAttempts handle)]
  | .confirmActive => numberBytes s.store.floor
  | .storeCredential => credentialChangeBody handle s.store.credentials
  | .eraseCredential => credentialChangeBody handle s.store.credentials
  | _ => []

/-- R148, R158, R123: a store write of the channel has ended. -/
def channelWriteEnded (s : State) : State :=
  match s.mc.state with
  | .working (.gateWrite _ false) => respond .denied [] s
  | .working (.gateWrite r true) => afterGate r s
  | .working .floorWrite => confirmSlot s
  | .working (.lastWrite r) => respond .ok (writtenBody r s) s
  | _ => s

/-! ### Taking a frame (R186 to R189) -/

/-- R189: dispatch by request. -/
def takeRequest (r : Request) (s : State) : State :=
  match r with
  | .getInfo => takeGetInfo s
  | .getStatus => takeGetStatus s
  | .clearEvents => takeClearEvents s
  | .setAlertMask => takeSetAlertMask s
  | .restart => takeRestart s
  | .readMap => takeReadMap s
  | .restrictRegion => takeRestrictRegion s
  | .loadSlotMap => takeLoadSlotMap s
  | .generateIdentity => takeGenerateIdentity s
  | .loadEndorsement => takeLoadEndorsement s
  | .loadUpdateKey => takeLoadUpdateKey s
  | .finishProvisioning => takeFinishProvisioning s
  | .getIdentity => takeGetIdentity s
  | .quote => takeQuote s
  | .readLane => takeReadLane s
  | .extendLane => takeExtendLane s
  | .openStaging => takeOpenStaging s
  | .verifyStaged => takeVerifyStaged s
  | .commitStaged => takeCommitStaged s
  | .confirmActive => takeConfirmActive s
  | .abandonStaging => takeAbandonStaging s
  | .getSlotStatus => takeGetSlotStatus s
  | .takeOwnership => takeTakeOwnership s
  | .changeOwnerToken => takeChangeOwnerToken s
  | .releaseOwnership => takeReleaseOwnership s
  | .addUpdateKey => takeAddUpdateKey s
  | .revokeUpdateKey => takeRevokeUpdateKey s
  | .storeCredential => takeStoreCredential s
  | .releaseCredential => takeReleaseCredential s
  | .derive => takeDerive s
  | .eraseCredential => takeEraseCredential s
  | .listCredentials => takeListCredentials s

/-- R188: the frame checks fail: a flags bit other than proof-present, a frame too short for its proof, or a body
above 259 bytes. -/
def badFrame (frame : Bytes) : Bool :=
  decide ((frameFlags frame).toNat > 1) || (frameHasProof frame && decide (frameLength frame < 34)) ||
    decide (259 < (frameBody frame).length)

/-- R189: dispatch by request code. -/
def dispatchByCode (s : State) : State :=
  match requestOfCode (frameCode s.mc.request) with
  | none => respond .unknownRequest [] s
  | some r => takeRequest r s

/-- R186: whether a POST is dropped. -/
def dropsPost (s : State) (count : Nat) (kept : Bytes) : Bool :=
  managementBusy s || decide (count < 2) || decide (frameLength kept < 2) || decide (290 < frameLength kept) ||
    decide (count < 2 + frameLength kept)

/-- R186: an accepted POST empties the response buffer, is copied into the request buffer, and makes the channel
WORKING. -/
def acceptPost (kept : Bytes) (s : State) : State :=
  { emptyResponse s with
    mc.request := kept.take (2 + frameLength kept)
    mc.state := .working .taken }

/-- R186 to R189: the channel receives a POST of `count` bytes whose first 292 are `kept`. -/
def receivePost (count : Nat) (kept : Bytes) (dispatch : State → State) (s : State) : State :=
  if dropsPost s count kept then { s with mc.dropped := true }
  else
    let s := acceptPost kept s
    if badFrame s.mc.request then respond .badFrame [] s else dispatch s

/-- R48: the POST intake holds a count and the first 292 bytes; it is handed over and emptied as one event. -/
def post (sent : Bytes) (dispatch : State → State) (s : State) : State :=
  let s := { s with bp.intakeCount := sent.length, bp.intake := sent.take 292 }
  receivePost s.bp.intakeCount s.bp.intake dispatch { s with bp.intakeCount := 0, bp.intake := [] }

/-- R12, R21: a transaction is open that a frame POSTed before it can meet: a read, or a FETCH that found no response,
as it does while a request is in hand (R192). -/
def openForTaking (s : State) : Bool :=
  !s.rstLow && (s.bp.readTxn.isSome || s.bp.fetchTxn.any fun t => t.fixedLength.isNone)

/-- A request command is the whole POST of its frame (log 11). Under an open read, or an open FETCH without a response,
it is the channel's step on a POST that ended before that transaction began, and the transaction goes on (R21). -/
def requestCommand (r : Request) (dispatch : State → State) (proof : Option Bytes) (body : Bytes) (s : State) :
    State :=
  let frame := requestFrame r proof body
  if openForTaking s then receivePost frame.length (frame.take 292) dispatch (freshPort s)
  else wholeTransaction (post frame dispatch) s

end Sys2Proof.Machine
end

