-- ==== Sys2Proof/Machine/Events.lean ====
section
/-! DEFINITION. The completions of the part's own slow units: write verdict, operation completion and timeout, chunk
delivery, chunk end, signature completion, store write end, secret response expiry. An event that is not due changes
nothing but the list of commands just sent (log 5). -/

namespace Sys2Proof.Machine

/-- What a meaning answers. -/
abbrev Result := Host.Outcome State Fault Refusal

/-! ### The verdict (R16 to R19, R34) -/

/-- R34, R55: an allowed command becomes the QUEUED in-flight operation; one with a unit in a STAGING entry is taken
as a write into staging (R18). -/
def allowCommand (c : TakenCommand) (targets : List Nat) (inStaging : Bool) (s : State) : State :=
  let s := if inStaging then makeStale s else s
  { s with bp.writeRecord := .inFlight, bp.wel := false, fp.op := some (operationOf c targets) }

/-- R22, R34: a refused command is entered in the violation record. -/
def refuseCommand (c : TakenCommand) (address : LogicalAddress) (reason : RefusalReason) (s : State) : State :=
  setViolation
    { s with bp.writeRecord := .none, bp.wel := false, tu := enterRefusal s.tu address c.kind reason }

/-- R18, R34: the verdict on a command, with the staging state as it stands; what was allowed starts if it can (R56). -/
def applyVerdict (c : TakenCommand) (s : State) : State :=
  match decideCommand s.tu s.store.slotMap s.isc.staging.state c with
  | .allowed targets inStaging => settle (allowCommand c targets inStaging s)
  | .refused address reason => refuseCommand c address reason s

/-- WRITE_VERDICT: the verdict on the command being decided. -/
def writeVerdict (s : State) : State :=
  match s.bp.writeRecord with
  | .deciding c => applyVerdict c s
  | _ => s

def execWriteVerdict (s : State) : Result := .next (unlessRestartDue writeVerdict (freshPort s))

/-! ### The in-flight operation (R57, R58) -/

/-- OPERATION_COMPLETION: a poll shows the flash idle. An absent flash shows busy at every poll (R58). The polls of R56
that show busy are left out (DESIGN CHOICE, log 31). -/
def operationCompletion (s : State) : State :=
  match s.fp.op with
  | none => s
  | some o =>
    if o.phase = .running then
      let s := send [.readBusy] s
      if s.flash.present then settle (endCommand o s) else s
    else s

def execOperationCompletion (s : State) : Result := .next (operationCompletion (freshPort s))

/-- R58: the time limit of a downstream command in milliseconds. -/
def timeLimit : OpKind → Nat
  | .program => 20
  | .sectorErase => 2000
  | .eraseSeries => 2000
  | .blockErase => 8000

/-- R58: the flash is reset, the range in hand is unspecified, and the whole operation ends. -/
def timeOut (o : FlightOp) (s : State) : State :=
  settle (completeOperation (send [.resetEnable, .reset]
    { s with flash := s.flash.cutShort o s.draws, draws := s.draws + 1 }))

/-- OPERATION_TIMEOUT: the running time of a RUNNING operation reaches its limit. -/
def operationTimeout (s : State) : State :=
  match s.fp.op with
  | none => s
  | some o => if o.phase = .running then timeOut o s else s

def execOperationTimeout (s : State) : Result := .next (operationTimeout (freshPort s))

/-! ### Chunks (R62, R71 to R74) -/

/-- R62: the delivered bytes reach the Image Slot Controller: the manifest, or the next chunk of the segment item. -/
def deliverChunk (bytes : Bytes) (s : State) : State :=
  match s.isc.scan.phase with
  | .manifestRead => manifestDelivered bytes s
  | .segments => { s with de.scan := s.de.scan.map fun i => { i with chunkSlot := some bytes } }
  | _ => s

/-- CHUNK_DELIVERY: the chunk read completes and the request and buffer become absent. -/
def chunkDelivery (s : State) : State :=
  match s.fp.chunk with
  | none => s
  | some c =>
    if c.reading then
      let s := { s with fp.chunkBuffer := s.flash.readRange c.address c.length }
      settle (deliverChunk s.fp.chunkBuffer { s with fp.chunk := none, fp.chunkBuffer := [] })
    else s

def execChunkDelivery (s : State) : Result := .next (unlessRestartDue chunkDelivery (freshPort s))

/-- R70: the bytes of the chunk in absorption. -/
def DigestItem.chunk (i : DigestItem) : Bytes :=
  match i.kind with
  | .buffer => slice i.input (256 * i.chunksDone) 256
  | .segment => i.inHand

/-- R68, R70: whether the chunk in absorption is the item's last. -/
def DigestItem.lastChunk (i : DigestItem) : Bool := decide (chunkCount i.length ≤ i.chunksDone + 1)

/-- R70: the item after the absorption of its chunk. -/
def DigestItem.absorbed (i : DigestItem) : DigestItem :=
  { i with
    inHand := []
    chunksDone := i.chunksDone + 1
    running := absorbChunk i.running i.chunk i.lastChunk i.length }

/-- R73, R74: a SEGMENT item occupies the scan place. -/
def segmentInScanPlace (d : DigestEngine) : Bool := d.scan.any fun i => i.kind = .segment

/-- R71, R108: the chunk absorbed report of a segment of a staged scan is counted. -/
def reportAbsorbed (i : DigestItem) (s : State) : State :=
  if i.kind = .segment && s.isc.scan.owner = .stagedScan then
    { s with isc.staging.chunksDone := s.isc.staging.chunksDone + 1 }
  else s

/-- R72, R74: the chunk end of the scan place. A BUFFER item goes on with its next chunk; a SEGMENT item frees the
engine; a complete item empties the place and hands its digest over. -/
def scanChunkEnd (i : DigestItem) (s : State) : State :=
  let s := reportAbsorbed i s
  let j := i.absorbed
  if i.lastChunk then
    scanDigest i.work (shaOutput j.running)
      { s with de.scan := none, de.absorbing := none, de.owed := false }
  else
    { s with
      de.scan := some j
      de.absorbing := if i.kind = .buffer then some .scan else none }

/-- R72, R73, R74: the chunk end of the channel place; a completion sets the owed mark of a SEGMENT item. -/
def channelChunkEnd (i : DigestItem) (s : State) : State :=
  let j := i.absorbed
  if i.lastChunk then
    channelDigest (shaOutput j.running)
      { s with de.channel := none, de.absorbing := none, de.owed := s.de.owed || segmentInScanPlace s.de }
  else { s with de.channel := some j }

/-- CHUNK_END: the absorption of the chunk in hand ends, and the engine chooses its next work. -/
def chunkEnd (s : State) : State :=
  match s.de.absorbing, s.de.scan, s.de.channel with
  | some .scan, some i, _ => settle (scanChunkEnd i s)
  | some .channel, _, some i => settle (channelChunkEnd i s)
  | _, _, _ => s

def execChunkEnd (s : State) : Result := .next (unlessRestartDue chunkEnd (freshPort s))

/-! ### Signatures (R78 to R81) -/

/-- R80, R138: the draw of a GENERATE. One outside the range is discarded, and the operation, which then has not ended
yet, draws again (log 15); the key pair of one inside it goes to the store write of the identity record. -/
def identityGenerated (s : State) : State :=
  let drawn := drawnScalar (Config.randomNumber s.draws)
  let s := { s with draws := s.draws + 1 }
  match drawn with
  | none => s
  | some secret =>
    let s := { s with su.channel := none }
    match s.mc.state with
    | .working .generate => writeAndWait .generateIdentity (.identityKey ⟨secret, publicKeyOf secret⟩) s
    | _ => s

/-- R79, R144: the draw of a SIGN; where it is discarded or yields r = 0 or s = 0 the unit draws again within the
operation, which then has not ended yet (log 15). -/
def quoteSigned (digest : Bytes) (secret : Nat) (s : State) : State :=
  let drawn := drawnScalar (Config.randomNumber s.draws)
  let s := { s with draws := s.draws + 1 }
  match drawn.bind (signDigest secret digest) with
  | none => s
  | some signature =>
    let s := { s with su.channel := none }
    match s.mc.state with
    | .working (.quoteSign body) => respond .ok (body ++ signature) s
    | _ => s

/-- R81: the end of the channel place's operation. -/
def channelSignature (op : SigOp) (s : State) : State :=
  match op with
  | .generate => identityGenerated s
  | .sign digest secret => quoteSigned digest secret s
  | .verify _ _ _ => { s with su.channel := none }

/-- R78, R93: the end of the scan place's VERIFY. -/
def scanSignature (op : SigOp) (s : State) : State :=
  match op with
  | .verify digest key signature =>
    let s := { s with su.scan := none }
    if s.isc.scan.phase = .signature then verifyCompleted (verifySignature digest key signature) s else s
  | _ => { s with su.scan := none }

/-- SIGNATURE_COMPLETION: the RUNNING operation ends and a WAITING one becomes RUNNING. -/
def signatureCompletion (s : State) : State :=
  match s.su.scan, s.su.channel with
  | some v, c =>
    if v.running then settle (scanSignature v.op s)
    else
      match c with
      | some c => if c.running then settle (channelSignature c.op s) else s
      | none => s
  | none, some c => if c.running then settle (channelSignature c.op s) else s
  | none, none => s

def execSignatureCompletion (s : State) : Result := .next (unlessRestartDue signatureCompletion (freshPort s))

/-! ### Store writes (R148 to R150) -/

/-- R150, R187: a reset-time write has ended: the channel is IDLE and the preparation begins. -/
def resetWriteEnded (s : State) : State := beginPreparation { s with mc.state := .idle }

/-- R148: the requester of an ended write goes on. -/
def writeEnded (who : Requester) (s : State) : State :=
  match who with
  | .partReset => resetWriteEnded s
  | .slotController => bootWriteEnded s
  | .channel => channelWriteEnded s

/-- R148: the waiting write begins. -/
def beginWaitingWrite (s : State) : State := { s with writes := ⟨s.writes.waiting, none⟩ }

/-- STORE_WRITE_END: the write takes effect for all its records. Where a restart waited for this end nothing more
happens (R67, R149); otherwise the waiting write begins and the requester goes on. -/
def storeWriteEnd (s : State) : State :=
  match s.writes.current with
  | none => s
  | some w =>
    let s := { s with store := s.store.apply w.contents, writes.current := none }
    if restartDue s then s else settle (writeEnded w.requester (beginWaitingWrite s))

def execStoreWriteEnd (s : State) : Result := .next (storeWriteEnd (freshPort s))

/-! ### Time (R58, R182) -/

/-- SECRET_RESPONSE_EXPIRY: the oscillator stands at the expiry of the secret response in the buffer, and the
response is scrubbed. With the timer stopped nothing expires. -/
def secretResponseExpiry (s : State) : State :=
  match s.mc.scrubTimer with
  | none => s
  | some due => scrub { s with clock := max s.clock due }

def execSecretResponseExpiry (s : State) : Result := .next (secretResponseExpiry (freshPort s))

/-- R182: the expiry where the oscillator has reached it. -/
def expireIfDue (s : State) : State :=
  if s.mc.scrubTimer.any fun due => decide (due ≤ s.clock) then secretResponseExpiry s else s

/-- R55, R58: one millisecond of running time, and the timeout where it reaches the limit. -/
def runOneMillisecond (s : State) : State :=
  match s.fp.op with
  | none => s
  | some o =>
    if o.phase = .running then
      let o := { o with runningTime := o.runningTime + 1 }
      let s := { s with fp.op := some o }
      if timeLimit o.kind ≤ o.runningTime then timeOut o s else s
    else s

/-- One millisecond of the internal oscillator: what a step does on an empty queue (log 4). While an operation is
RUNNING the controller polls the busy indication "repeatedly" (R56); how often is open, and the model shows no poll in
this step, only the one that ends the command (DESIGN CHOICE, log 31). -/
def tick (s : State) : State := runOneMillisecond (expireIfDue { freshPort s with clock := s.clock + 1 })

end Sys2Proof.Machine
end

