-- ==== Sys2Proof/Machine/Port.lean ====
section
/-! DEFINITION. The Boot Port's own commands (chapter 2): status and identification, the write-enable latch, programs
and erases up to their hand-over, lane modes, the port reset, and POST and FETCH. -/

namespace Sys2Proof.Machine

/-! ### Status and identification (R39 to R41) -/

/-- The bytes of a data-out phase and the lines that carry them (R43). -/
def driveBytes (bytes : Bytes) (s : State) : State :=
  { s with bp.out := s.bp.out ++ bytes, bp.outLines := dataOutLines s.bp.laneMode false }

/-- R25: the bytes of a data-out phase that `n` clocks begin. -/
def bytesOut (n : Nat) (s : State) : Nat := bytesBegun (dataOutLines s.bp.laneMode false) n

/-- R39: the status byte, composed at each byte time; no event falls between the bytes of one command (log 20). -/
def readStatus (dataClocks : Nat) (s : State) : State :=
  wholeTransaction (fun s => driveBytes (List.replicate (bytesOut dataClocks s) (statusByte s)) s) s

/-- READ_STATUS (R39). -/
def execReadStatus (dataClocks : Nat) (s : State) : Result := .next (readStatus dataClocks s)

/-- R41: byte `k` of READ_ID: manufacturer, type, capacity code 0x18, then 0xFF. -/
def idByte (b : BootPort) (k : Nat) : Byte := ([b.idManufacturer, b.idType, 0x18] : Bytes).getD k 0xFF

/-- R41: the identification bytes. -/
def readId (dataClocks : Nat) (s : State) : State :=
  wholeTransaction (fun s => driveBytes ((List.range (bytesOut dataClocks s)).map (idByte s.bp)) s) s

/-- READ_ID (R41). -/
def execReadId (dataClocks : Nat) (s : State) : Result := .next (readId dataClocks s)

/-! ### Taken commands (R25, R27, R37) -/

/-- R25, R27: a taken command of `leading` whole bytes or more: on a byte boundary it acts on the bytes received. -/
def takenCommand (leading : Nat) (clocks : List Clock) (act : Bytes → State → State) (s : State) : State :=
  wholeTransaction (fun s =>
    let received := receivedBytes s.bp.laneMode clocks
    if onBoundary s.bp.laneMode clocks && decide (leading ≤ received.length) then act received s else s) s

/-- R37: WEL is set where the write record is NONE. -/
def writeEnable (clocks : List Clock) (s : State) : State :=
  takenCommand 0 clocks (fun _ s => if busyShown s then s else { s with bp.wel := true }) s

/-- WRITE_ENABLE (R37). -/
def execWriteEnable (phases extra : List Clock) (s : State) : Result := .next (writeEnable (phases ++ extra) s)

/-- R37: WEL is cleared in any state of the write record. -/
def writeDisable (clocks : List Clock) (s : State) : State :=
  takenCommand 0 clocks (fun _ s => { s with bp.wel := false }) s

/-- WRITE_DISABLE (R37). -/
def execWriteDisable (phases extra : List Clock) (s : State) : Result := .next (writeDisable (phases ++ extra) s)

/-! ### Programs and erases (R27, R32, R33) -/

/-- R24: all positions empty. -/
def emptyPage : List (Option Byte) := List.replicate 256 none

/-- R32: data byte `k` goes to position ((a mod 256) + k) mod 256, from `k` on; a later byte replaces an earlier. -/
def fillPage (start k : Nat) (page : List (Option Byte)) : Bytes → List (Option Byte)
  | [] => page
  | b :: rest => fillPage start (k + 1) (page.set ((start + k) % 256) (some b)) rest

/-- R33, R34: a well-formed program or erase is taken with WEL set and the write record NONE: it becomes DECIDING. -/
def handOver (c : TakenCommand) (s : State) : State :=
  if s.bp.wel && !busyShown s then { s with bp.writeRecord := .deciding c } else s

/-- R27, R32, R33: the page buffer is filled in every program transaction and emptied at its end. -/
def pageProgram (clocks : List Clock) (s : State) : State :=
  wholeTransaction (fun s =>
    let received := receivedBytes s.bp.laneMode clocks
    let a := addressOf received
    let s := { s with bp.pageBuffer := fillPage (a.toNat % 256) 0 emptyPage (received.drop 3) }
    let s :=
      if onBoundary s.bp.laneMode clocks && decide (4 ≤ received.length) then
        handOver ⟨.program, a, s.bp.pageBuffer⟩ s
      else s
    { s with bp.pageBuffer := emptyPage }) s

/-- PAGE_PROGRAM (R27, R32, R33). -/
def execPageProgram (phases extra : List Clock) (s : State) : Result := .next (pageProgram (phases ++ extra) s)

/-- R27, R33: an erase of the sector or block of an address. -/
def eraseAt (kind : CommandKind) (clocks : List Clock) (s : State) : State :=
  takenCommand 3 clocks (fun received => handOver ⟨kind, addressOf received, emptyPage⟩) s

/-- SECTOR_ERASE (R27, R33). -/
def execSectorErase (phases extra : List Clock) (s : State) : Result :=
  .next (eraseAt .sectorErase (phases ++ extra) s)

/-- BLOCK_ERASE (R27, R33). -/
def execBlockErase (phases extra : List Clock) (s : State) : Result :=
  .next (eraseAt .blockErase (phases ++ extra) s)

/-- R33, R34: a chip erase is handed over like any program or erase; its verdict is R19's. -/
def chipErase (clocks : List Clock) (s : State) : State :=
  takenCommand 0 clocks (fun _ => handOver ⟨.chipErase, 0, emptyPage⟩) s

/-- CHIP_ERASE (R19, R33, R34), with either opcode. -/
def execChipErase (_opcode : Byte) (phases extra : List Clock) (s : State) : Result :=
  .next (chipErase (phases ++ extra) s)

/-! ### Lane modes and the port reset (R44 to R47) -/

/-- R44: the lane mode from the next transaction on. -/
def setLaneMode (mode : LaneMode) (clocks : List Clock) (s : State) : State :=
  takenCommand 0 clocks (fun _ s => { s with bp.laneMode := mode }) s

/-- ENTER_QUAD_ALL (R44). -/
def execEnterQuadAll (phases extra : List Clock) (s : State) : Result :=
  .next (setLaneMode .quadAll (phases ++ extra) s)

/-- EXIT_QUAD_ALL (R44, R45). -/
def execExitQuadAll (phases extra : List Clock) (s : State) : Result :=
  .next (setLaneMode .single (phases ++ extra) s)

/-- R46: taken, it sets the reset-enable state; not taken, it clears it. -/
def resetEnable (clocks : List Clock) (s : State) : State :=
  transaction (fun s => { s with bp.resetEnable := onBoundary s.bp.laneMode clocks }) s

/-- RESET_ENABLE (R46). -/
def execResetEnable (phases extra : List Clock) (s : State) : Result := .next (resetEnable (phases ++ extra) s)

/-- R47: the port reset. -/
def portReset (s : State) : State :=
  { s with
    bp.wel := false
    bp.laneMode := .single
    bp.resetEnable := false
    bp.pageBuffer := emptyPage
    bp.intakeCount := 0
    bp.intake := [] }

/-- R46, R47: taken with the reset-enable state set, it performs the port reset; the state is clear at its end in every
case. -/
def resetCommand (clocks : List Clock) (s : State) : State :=
  transaction (fun s =>
    if onBoundary s.bp.laneMode clocks && s.bp.resetEnable then portReset s else clearResetEnable s) s

/-- RESET (R46, R47). -/
def execReset (phases extra : List Clock) (s : State) : Result := .next (resetCommand (phases ++ extra) s)

/-! ### The management carriers (R48, R49, R192, R193) -/

/-- R48, R186: taken on a byte boundary, a POST is handed to the channel. -/
def managementPost (clocks : List Clock) (s : State) : State :=
  takenCommand 0 clocks (fun received => post received dispatchByCode) s

/-- MANAGEMENT_POST (R48, R186). -/
def execManagementPost (phases extra : List Clock) (s : State) : Result := .next (managementPost (phases ++ extra) s)

/-- R192: byte `k` of a FETCH: the fixed frame then 0xFF, 0xFF once the frame is gone (R181), or length 0 then 0xFF. -/
def fetchByte (s : State) (t : FetchTxn) (k : Nat) : Byte :=
  match t.fixedLength with
  | none => if k < 2 then 0x00 else 0xFF
  | some _ => if t.stillPresent then ((s.mc.response.map (·.frame)).getD []).getD k 0xFF else 0xFF

/-- R25, R49, R192: `n` more clocks of the FETCH in progress; a byte has the value it began with (R181). -/
def clockFetch (n : Nat) (s : State) : State :=
  match s.bp.fetchTxn with
  | none => s
  | some t =>
    let before := bytesOut t.dataClocks s
    driveBytes ((List.range (bytesOut (t.dataClocks + n) s - before)).map fun i => fetchByte s t (before + i))
      { s with bp.fetchTxn := some { t with dataClocks := t.dataClocks + n } }

/-- R49, R192: the response, or its absence, is fixed at the start of the data phase. -/
def managementFetch (dataClocks : Nat) (s : State) : State :=
  transaction (fun s =>
    clockFetch dataClocks
      { s with
        bp.fetchTxn := some ⟨s.mc.response.map fun r => r.frame.length, s.mc.response.isSome, 0⟩ }) s

/-- MANAGEMENT_FETCH (R49, R192). -/
def execManagementFetch (dataClocks : Nat) (s : State) : Result := .next (managementFetch dataClocks s)

/-- FETCH_COUNT_REPORT (R49, R193): further clocks come, the select rises, and the count is reported. -/
def execFetchCountReport (dataClocks : Nat) (s : State) : Result :=
  .next (endFetch (clockFetch dataClocks (freshPort s)))

end Sys2Proof.Machine
end

