-- ==== Sys2Proof/Machine/Reads.lean ====
section
/-! DEFINITION. The read commands (R11, R12, R29, R30, R54) and the end of a read transaction (R60). -/

namespace Sys2Proof.Machine

/-- R11: the run ends where the next logical address is 0x000000 after the wrap, where the next byte is unreadable,
or where it lies in another entry than `i`. -/
def endRunIfDone (i : Nat) (s : State) : State :=
  match s.bp.readTxn with
  | none => s
  | some t =>
    let goesOn := decide (t.nextAddress ≠ 0) && (readable t s.tu.table s.store.slotMap).any fun x => x.1 == i
    if goesOn then s else { s with fp.run := none }

/-- R30: one byte of the data phase is driven, and the stream moves to the next logical address. -/
def driveByte (b : Byte) (s : State) : State :=
  { s with
    bp.out := s.bp.out ++ [b]
    bp.readTxn := s.bp.readTxn.map fun t => { t with nextAddress := t.nextAddress + 1 } }

/-- R11, R12, R30: the next byte of the stream: from the downstream read of its run where it is readable, 0xFF and no
downstream activity where it is not. Once a restart is due no byte is supplied (R67, log 6). -/
def supplyByte (reply : SuspendReply) (s : State) : State :=
  if restartDue s then s
  else
    match s.bp.readTxn with
    | none => s
    | some t =>
      match readable t s.tu.table s.store.slotMap with
      | none => driveByte 0xFF { s with fp.run := none }
      | some (i, p) =>
        let s := if s.fp.run = some p then s else beginRun p reply s
        if restartDue s then s
        else
          let b := observedByte s.flash s.fp.op p s.draws
          endRunIfDone i (driveByte b { s with fp.run := some (p + 1), draws := s.draws + 1 })

/-- `n` bytes of the data phase. -/
def supplyBytes (reply : SuspendReply) : Nat → State → State
  | 0, s => s
  | n + 1, s => supplyBytes reply n (supplyByte reply s)

/-- R25, R29, R30: `n` more clocks of the data phase; a byte is supplied at its first clock. -/
def clockData (reply : SuspendReply) (n : Nat) (s : State) : State :=
  match s.bp.readTxn with
  | none => s
  | some t =>
    if t.streaming && t.dataPhase then
      supplyBytes reply (bytesBegun t.dataLines (t.dataClocks + n) - bytesBegun t.dataLines t.dataClocks)
        { s with bp.readTxn := some { t with dataClocks := t.dataClocks + n } }
    else s

/-- R29: the address is whole, and the first run starts where the first byte is readable. -/
def startStream (reply : SuspendReply) (s : State) : State :=
  match s.bp.readTxn.bind fun t => readable t s.tu.table s.store.slotMap with
  | none => s
  | some (_, p) => beginRun p reply s

/-- R25, R29: a read transaction up to the last data clock before the next event. `leading` counts the address and dummy
bytes; the clocks after theirs belong to the data phase. -/
def readCommand (leading : Nat) (quadOutput : Bool) (clocks : List Clock) (dataClocks : Nat) (reply : SuspendReply)
    (s : State) : State :=
  transaction (fun s =>
    let leadingClocks := leading * clocksPerByte (receiveLines s.bp.laneMode)
    let received := receivedBytes s.bp.laneMode (clocks.take leadingClocks)
    let addressWhole := decide (3 ≤ received.length)
    let lines := dataOutLines s.bp.laneMode quadOutput
    let s :=
      { s with
        bp.readTxn :=
          some ⟨s.tu.table, s.tu.selector, addressOf received, addressWhole, decide (leading ≤ received.length), false,
            lines, 0⟩
        bp.outLines := lines }
    clockData reply (clocks.length - leadingClocks + dataClocks) (if addressWhole then startStream reply s else s)) s

/-- READ (R29): the data phase begins right after the last address byte. -/
def execRead (clocks : List Clock) (dataClocks : Nat) (reply : SuspendReply) (s : State) : Result :=
  .next (readCommand 3 false clocks dataClocks reply s)

/-- FAST_READ (R29): the data phase begins after one dummy byte. -/
def execFastRead (clocks : List Clock) (dataClocks : Nat) (reply : SuspendReply) (s : State) : Result :=
  .next (readCommand 4 false clocks dataClocks reply s)

/-- QUAD_OUTPUT_READ (R29, R43): as FAST_READ, with the data on four lines. -/
def execQuadOutputRead (clocks : List Clock) (dataClocks : Nat) (reply : SuspendReply) (s : State) : Result :=
  .next (readCommand 4 true clocks dataClocks reply s)

/-- READ_TRANSACTION_END (R30, R54, R60): further clocks of the data phase come, then the select rises. -/
def readTransactionEnd (dataClocks : Nat) (reply : SuspendReply) (s : State) : State :=
  endRead (clockData reply dataClocks s)

def execReadTransactionEnd (dataClocks : Nat) (reply : SuspendReply) (s : State) : Result :=
  .next (readTransactionEnd dataClocks reply (freshPort s))

end Sys2Proof.Machine
end

