-- ==== Sys2Proof/Machine/Bus.lean ====
section
/-! DEFINITION. A transaction from its first clock on (R25, R26, R45, R203): the command byte read by the lane mode, and
the command it names. Every other row of the table is a transaction whose command byte has been read; IGNORED_TRANSACTION
carries the clocks of a whole one, whatever they spell (log 30). -/

namespace Sys2Proof.Machine

/-- R25, R203: the transaction of a recognised command, with the clocks after its command byte. -/
def busCommand (c : BusCommand) (clocks : List Clock) (reply : SuspendReply) (s : State) : State :=
  match c with
  | .read => readCommand 3 false clocks 0 reply s
  | .fastRead => readCommand 4 false clocks 0 reply s
  | .quadOutputRead => readCommand 4 true clocks 0 reply s
  | .writeEnable => writeEnable clocks s
  | .writeDisable => writeDisable clocks s
  | .readStatus => readStatus clocks.length s
  | .pageProgram => pageProgram clocks s
  | .managementPost => managementPost clocks s
  | .managementFetch => managementFetch clocks.length s
  | .sectorErase => eraseAt .sectorErase clocks s
  | .blockErase => eraseAt .blockErase clocks s
  | .chipErase _ => chipErase clocks s
  | .readId => readId clocks.length s
  | .resetEnable => resetEnable clocks s
  | .reset => resetCommand clocks s
  | .enterQuadAll => setLaneMode .quadAll clocks s
  | .exitQuadAll => setLaneMode .single clocks s

/-- R26: an ignored transaction changes nothing but the reset-enable state. -/
def ignored (s : State) : State := wholeTransaction (fun s => s) s

/-- IGNORED_TRANSACTION (R26, R45, R203): a command byte that is not whole, or that names no command, makes the
transaction ignored. Clocks that spell a command in the lane mode act as that command (log 30). -/
def execIgnoredTransaction (raw : RawTransaction) (s : State) : Result :=
  .next (match commandByte s.bp.laneMode raw.clocks with
    | none => ignored s
    | some (b, rest) =>
      match busCommandOfByte b with
      | none => ignored s
      | some c => busCommand c rest raw.reply s)

end Sys2Proof.Machine
end

