-- ==== Sys2Proof/Machine/RequestCommands.lean ====
section
/-! DEFINITION. The 32 management requests as commands: each is the whole POST transaction of its frame (log 11), with
the request's own taking in place of the dispatch by code. -/

namespace Sys2Proof.Machine

/-- GET_INFO (R198). -/
def execGetInfo (proof : Option Bytes) (body : Bytes) (s : State) : Result :=
  .next (requestCommand .getInfo takeGetInfo proof body s)

/-- GET_STATUS (R197). -/
def execGetStatus (proof : Option Bytes) (body : Bytes) (s : State) : Result :=
  .next (requestCommand .getStatus takeGetStatus proof body s)

/-- CLEAR_EVENTS (R195). -/
def execClearEvents (proof : Option Bytes) (body : Bytes) (s : State) : Result :=
  .next (requestCommand .clearEvents takeClearEvents proof body s)

/-- SET_ALERT_MASK (R196). -/
def execSetAlertMask (proof : Option Bytes) (body : Bytes) (s : State) : Result :=
  .next (requestCommand .setAlertMask takeSetAlertMask proof body s)

/-- RESTART (R200). -/
def execRestart (proof : Option Bytes) (body : Bytes) (s : State) : Result :=
  .next (requestCommand .restart takeRestart proof body s)

/-- READ_MAP (R199). -/
def execReadMap (proof : Option Bytes) (body : Bytes) (s : State) : Result :=
  .next (requestCommand .readMap takeReadMap proof body s)

/-- RESTRICT_REGION (R20). -/
def execRestrictRegion (proof : Option Bytes) (body : Bytes) (s : State) : Result :=
  .next (requestCommand .restrictRegion takeRestrictRegion proof body s)

/-- LOAD_SLOT_MAP (R5). -/
def execLoadSlotMap (proof : Option Bytes) (body : Bytes) (s : State) : Result :=
  .next (requestCommand .loadSlotMap takeLoadSlotMap proof body s)

/-- GENERATE_IDENTITY (R138). -/
def execGenerateIdentity (proof : Option Bytes) (body : Bytes) (s : State) : Result :=
  .next (requestCommand .generateIdentity takeGenerateIdentity proof body s)

/-- LOAD_ENDORSEMENT (R140). -/
def execLoadEndorsement (proof : Option Bytes) (body : Bytes) (s : State) : Result :=
  .next (requestCommand .loadEndorsement takeLoadEndorsement proof body s)

/-- LOAD_UPDATE_KEY (R151). -/
def execLoadUpdateKey (proof : Option Bytes) (body : Bytes) (s : State) : Result :=
  .next (requestCommand .loadUpdateKey takeLoadUpdateKey proof body s)

/-- FINISH_PROVISIONING (R152). -/
def execFinishProvisioning (proof : Option Bytes) (body : Bytes) (s : State) : Result :=
  .next (requestCommand .finishProvisioning takeFinishProvisioning proof body s)

/-- GET_IDENTITY (R141). -/
def execGetIdentity (proof : Option Bytes) (body : Bytes) (s : State) : Result :=
  .next (requestCommand .getIdentity takeGetIdentity proof body s)

/-- QUOTE (R143). -/
def execQuote (proof : Option Bytes) (body : Bytes) (s : State) : Result :=
  .next (requestCommand .quote takeQuote proof body s)

/-- READ_LANE (R136). -/
def execReadLane (proof : Option Bytes) (body : Bytes) (s : State) : Result :=
  .next (requestCommand .readLane takeReadLane proof body s)

/-- EXTEND_LANE (R134). -/
def execExtendLane (proof : Option Bytes) (body : Bytes) (s : State) : Result :=
  .next (requestCommand .extendLane takeExtendLane proof body s)

/-- OPEN_STAGING (R109). -/
def execOpenStaging (proof : Option Bytes) (body : Bytes) (s : State) : Result :=
  .next (requestCommand .openStaging takeOpenStaging proof body s)

/-- VERIFY_STAGED (R110). -/
def execVerifyStaged (proof : Option Bytes) (body : Bytes) (s : State) : Result :=
  .next (requestCommand .verifyStaged takeVerifyStaged proof body s)

/-- COMMIT_STAGED (R119). -/
def execCommitStaged (proof : Option Bytes) (body : Bytes) (s : State) : Result :=
  .next (requestCommand .commitStaged takeCommitStaged proof body s)

/-- CONFIRM_ACTIVE (R123). -/
def execConfirmActive (proof : Option Bytes) (body : Bytes) (s : State) : Result :=
  .next (requestCommand .confirmActive takeConfirmActive proof body s)

/-- ABANDON_STAGING (R116). -/
def execAbandonStaging (proof : Option Bytes) (body : Bytes) (s : State) : Result :=
  .next (requestCommand .abandonStaging takeAbandonStaging proof body s)

/-- GET_SLOT_STATUS (R126). -/
def execGetSlotStatus (proof : Option Bytes) (body : Bytes) (s : State) : Result :=
  .next (requestCommand .getSlotStatus takeGetSlotStatus proof body s)

/-- TAKE_OWNERSHIP (R156). -/
def execTakeOwnership (proof : Option Bytes) (body : Bytes) (s : State) : Result :=
  .next (requestCommand .takeOwnership takeTakeOwnership proof body s)

/-- CHANGE_OWNER_TOKEN (R160). -/
def execChangeOwnerToken (proof : Option Bytes) (body : Bytes) (s : State) : Result :=
  .next (requestCommand .changeOwnerToken takeChangeOwnerToken proof body s)

/-- RELEASE_OWNERSHIP (R161). -/
def execReleaseOwnership (proof : Option Bytes) (body : Bytes) (s : State) : Result :=
  .next (requestCommand .releaseOwnership takeReleaseOwnership proof body s)

/-- ADD_UPDATE_KEY (R163). -/
def execAddUpdateKey (proof : Option Bytes) (body : Bytes) (s : State) : Result :=
  .next (requestCommand .addUpdateKey takeAddUpdateKey proof body s)

/-- REVOKE_UPDATE_KEY (R164). -/
def execRevokeUpdateKey (proof : Option Bytes) (body : Bytes) (s : State) : Result :=
  .next (requestCommand .revokeUpdateKey takeRevokeUpdateKey proof body s)

/-- STORE_CREDENTIAL (R172). -/
def execStoreCredential (proof : Option Bytes) (body : Bytes) (s : State) : Result :=
  .next (requestCommand .storeCredential takeStoreCredential proof body s)

/-- RELEASE_CREDENTIAL (R173). -/
def execReleaseCredential (proof : Option Bytes) (body : Bytes) (s : State) : Result :=
  .next (requestCommand .releaseCredential takeReleaseCredential proof body s)

/-- DERIVE (R175). -/
def execDerive (proof : Option Bytes) (body : Bytes) (s : State) : Result :=
  .next (requestCommand .derive takeDerive proof body s)

/-- ERASE_CREDENTIAL (R176). -/
def execEraseCredential (proof : Option Bytes) (body : Bytes) (s : State) : Result :=
  .next (requestCommand .eraseCredential takeEraseCredential proof body s)

/-- LIST_CREDENTIALS (R177). -/
def execListCredentials (proof : Option Bytes) (body : Bytes) (s : State) : Result :=
  .next (requestCommand .listCredentials takeListCredentials proof body s)

end Sys2Proof.Machine
end

