-- ==== Sys2Proof/Machine/Resets.lean ====
section
/-! DEFINITION. Part resets and the preparation of the flash (R65 to R67, R98, R106, R150, R200). -/

namespace Sys2Proof.Machine

/-- R66, R149: a POWER_ON or PIN reset ends the write and the operation in progress and resets every block. -/
def hardReset (s : State) : State := partReset (abandonOperation (interruptWrite s))

/-- POWER_ON (R66, R106, R150): the work of the reset begins at once, unless RST_N is low (log 27). -/
def execPowerOn (s : State) : Result :=
  let s := hardReset s
  .next (if s.rstLow then s else beginResetWork s)

/-- PIN_RESET (R66, R106): RST_N goes low and the part is held in its reset. -/
def execPinReset (s : State) : Result := .next { hardReset s with rstLow := true }

/-- RST_N_RELEASE (R106, R150): RST_N returns high and the work of the PIN reset begins. -/
def execRstNRelease (s : State) : Result :=
  let s := freshPort s
  .next (if s.rstLow then beginResetWork { s with rstLow := false } else s)

/-- R150, R153: the restart's own work: the provisioning write where FINISH_PROVISIONING caused it, else the
preparation. -/
def restartWork (floor : Option Word32) (s : State) : State :=
  match floor with
  | some v => beginResetWrite (.provisioning v) s
  | none => beginPreparation s

/-- RESTART_RESET (R67, R149, R200): a pending restart is made once no operation and no store write remain. -/
def restartReset (s : State) : State :=
  match s.mc.state with
  | .working (.restart floor) => if restartDue s then restartWork floor (partReset s) else s
  | _ => s

def execRestartReset (s : State) : Result := .next (restartReset (freshPort s))

/-- FLASH_RESET_RECOVERY_END (R65): the identification read is issued. -/
def flashResetRecoveryEnd (s : State) : State :=
  if s.fp.prep = .recovery then send [.readIdentification] { s with fp.prep := .identifying } else s

def execFlashResetRecoveryEnd (s : State) : Result := .next (unlessRestartDue flashResetRecoveryEnd (freshPort s))

/-- R42, R65: a missing flash returns 0xFF on every line. -/
def identificationByte (s : State) (b : Byte) : Byte := if s.flash.present then b else 0xFF

/-- DOWNSTREAM_ID_CAPTURE (R42, R65, R98): the two bytes are stored, the preparation is READY, and the boot path
begins. -/
def downstreamIdCapture (manufacturer deviceType : Byte) (s : State) : State :=
  if s.fp.prep = .identifying then
    settle (beginBoot
      { s with
        bp.idManufacturer := identificationByte s manufacturer
        bp.idType := identificationByte s deviceType
        fp.prep := .ready })
  else s

def execDownstreamIdCapture (manufacturer deviceType : Byte) (s : State) : Result :=
  .next (unlessRestartDue (downstreamIdCapture manufacturer deviceType) (freshPort s))

end Sys2Proof.Machine
end

