-- ==== Sys2Proof/Machine/Dispatch.lean ====
section
/-! DEFINITION. The dispatch of a command to its meaning, one arm per constructor. -/

namespace Sys2Proof.Machine

def exec (i : Instr) (s : State) : Host.Outcome State Fault Refusal :=
  match i with
  | .powerOn => Sys2Proof.Machine.execPowerOn s
  | .pinReset => Sys2Proof.Machine.execPinReset s
  | .rstNRelease => Sys2Proof.Machine.execRstNRelease s
  | .restartReset => Sys2Proof.Machine.execRestartReset s
  | .flashResetRecoveryEnd => Sys2Proof.Machine.execFlashResetRecoveryEnd s
  | .downstreamIdCapture manufacturer deviceType => Sys2Proof.Machine.execDownstreamIdCapture manufacturer deviceType s
  | .read clocks dataClocks reply => Sys2Proof.Machine.execRead clocks dataClocks reply s
  | .fastRead clocks dataClocks reply => Sys2Proof.Machine.execFastRead clocks dataClocks reply s
  | .quadOutputRead clocks dataClocks reply => Sys2Proof.Machine.execQuadOutputRead clocks dataClocks reply s
  | .readTransactionEnd dataClocks reply => Sys2Proof.Machine.execReadTransactionEnd dataClocks reply s
  | .readStatus dataClocks => Sys2Proof.Machine.execReadStatus dataClocks s
  | .readId dataClocks => Sys2Proof.Machine.execReadId dataClocks s
  | .writeEnable phases extra => Sys2Proof.Machine.execWriteEnable phases extra s
  | .writeDisable phases extra => Sys2Proof.Machine.execWriteDisable phases extra s
  | .pageProgram phases extra => Sys2Proof.Machine.execPageProgram phases extra s
  | .sectorErase phases extra => Sys2Proof.Machine.execSectorErase phases extra s
  | .blockErase phases extra => Sys2Proof.Machine.execBlockErase phases extra s
  | .chipErase opcode phases extra => Sys2Proof.Machine.execChipErase opcode phases extra s
  | .writeVerdict => Sys2Proof.Machine.execWriteVerdict s
  | .operationCompletion => Sys2Proof.Machine.execOperationCompletion s
  | .operationTimeout => Sys2Proof.Machine.execOperationTimeout s
  | .managementPost phases extra => Sys2Proof.Machine.execManagementPost phases extra s
  | .managementFetch dataClocks => Sys2Proof.Machine.execManagementFetch dataClocks s
  | .fetchCountReport dataClocks => Sys2Proof.Machine.execFetchCountReport dataClocks s
  | .resetEnable phases extra => Sys2Proof.Machine.execResetEnable phases extra s
  | .reset phases extra => Sys2Proof.Machine.execReset phases extra s
  | .enterQuadAll phases extra => Sys2Proof.Machine.execEnterQuadAll phases extra s
  | .exitQuadAll phases extra => Sys2Proof.Machine.execExitQuadAll phases extra s
  | .ignoredTransaction raw => Sys2Proof.Machine.execIgnoredTransaction raw s
  | .chunkDelivery => Sys2Proof.Machine.execChunkDelivery s
  | .chunkEnd => Sys2Proof.Machine.execChunkEnd s
  | .signatureCompletion => Sys2Proof.Machine.execSignatureCompletion s
  | .storeWriteEnd => Sys2Proof.Machine.execStoreWriteEnd s
  | .secretResponseExpiry => Sys2Proof.Machine.execSecretResponseExpiry s
  | .getInfo proof body => Sys2Proof.Machine.execGetInfo proof body s
  | .getStatus proof body => Sys2Proof.Machine.execGetStatus proof body s
  | .clearEvents proof body => Sys2Proof.Machine.execClearEvents proof body s
  | .setAlertMask proof body => Sys2Proof.Machine.execSetAlertMask proof body s
  | .restart proof body => Sys2Proof.Machine.execRestart proof body s
  | .readMap proof body => Sys2Proof.Machine.execReadMap proof body s
  | .restrictRegion proof body => Sys2Proof.Machine.execRestrictRegion proof body s
  | .loadSlotMap proof body => Sys2Proof.Machine.execLoadSlotMap proof body s
  | .generateIdentity proof body => Sys2Proof.Machine.execGenerateIdentity proof body s
  | .loadEndorsement proof body => Sys2Proof.Machine.execLoadEndorsement proof body s
  | .loadUpdateKey proof body => Sys2Proof.Machine.execLoadUpdateKey proof body s
  | .finishProvisioning proof body => Sys2Proof.Machine.execFinishProvisioning proof body s
  | .getIdentity proof body => Sys2Proof.Machine.execGetIdentity proof body s
  | .quote proof body => Sys2Proof.Machine.execQuote proof body s
  | .readLane proof body => Sys2Proof.Machine.execReadLane proof body s
  | .extendLane proof body => Sys2Proof.Machine.execExtendLane proof body s
  | .openStaging proof body => Sys2Proof.Machine.execOpenStaging proof body s
  | .verifyStaged proof body => Sys2Proof.Machine.execVerifyStaged proof body s
  | .commitStaged proof body => Sys2Proof.Machine.execCommitStaged proof body s
  | .confirmActive proof body => Sys2Proof.Machine.execConfirmActive proof body s
  | .abandonStaging proof body => Sys2Proof.Machine.execAbandonStaging proof body s
  | .getSlotStatus proof body => Sys2Proof.Machine.execGetSlotStatus proof body s
  | .takeOwnership proof body => Sys2Proof.Machine.execTakeOwnership proof body s
  | .changeOwnerToken proof body => Sys2Proof.Machine.execChangeOwnerToken proof body s
  | .releaseOwnership proof body => Sys2Proof.Machine.execReleaseOwnership proof body s
  | .addUpdateKey proof body => Sys2Proof.Machine.execAddUpdateKey proof body s
  | .revokeUpdateKey proof body => Sys2Proof.Machine.execRevokeUpdateKey proof body s
  | .storeCredential proof body => Sys2Proof.Machine.execStoreCredential proof body s
  | .releaseCredential proof body => Sys2Proof.Machine.execReleaseCredential proof body s
  | .derive proof body => Sys2Proof.Machine.execDerive proof body s
  | .eraseCredential proof body => Sys2Proof.Machine.execEraseCredential proof body s
  | .listCredentials proof body => Sys2Proof.Machine.execListCredentials proof body s

end Sys2Proof.Machine
end

