-- ==== Sys2Proof/Safety.lean ====
section
/-! DEFINITION. The words the statements use: which states can take a command at once, what a transaction and an
answered request leave behind, what a logical byte reads as, and the invariants of the kept items. -/

namespace Sys2Proof.Machine

/-! ### States that can take a command -/

/-- No transaction is in progress on the Boot Port and RST_N is high (R25, R106). -/
def busFree (s : State) : Bool := !s.rstLow && s.bp.readTxn.isNone && s.bp.fetchTxn.isNone

/-- The bus is free and the channel is IDLE, so a well-formed POST is accepted (R186). -/
def channelFree (s : State) : Bool := busFree s && decide (s.mc.state = .idle)

/-- Both places of both computing blocks are empty (R68, R77). -/
def enginesFree (s : State) : Bool :=
  s.de.scan.isNone && s.de.channel.isNone && s.de.absorbing.isNone && s.su.scan.isNone && s.su.channel.isNone

/-- No record write is in progress or waiting (R148). -/
def storeFree (s : State) : Bool := s.writes.current.isNone && s.writes.waiting.isNone

/-- No operation is in flight and no chunk request is present (R52). -/
def flashIdle (s : State) : Bool := s.fp.op.isNone && s.fp.chunk.isNone

/-- The channel and every unit a request can wait for are free. -/
def ready (s : State) : Bool := channelFree s && enginesFree s && storeFree s && flashIdle s

/-- The owner gate is open to this proof: the part is OWNED, the count is below 8 and the proof's digest is the
verifier (R157, R158). -/
def proofRight (s : State) (proof : Bytes) : Bool :=
  decide (s.store.lifecycle = .owned) && decide (s.store.failures < 8) && decide (proof.length = 32) &&
    decide (s.store.verifier = some (sha256 proof))

/-! ### What a transaction leaves behind -/

/-- What every whole transaction other than RESET_ENABLE leaves on a free bus, beside its own effect: nothing driven
yet, the reset-enable state clear (R46), no new command on the Flash Port. -/
def afterTransaction (s : State) : State :=
  { s with bp.out := [], bp.resetEnable := false, fp.sent := [] }

/-- What the acceptance of a POST leaves (R186): the response buffer empty with its timer stopped, the frame in the
request buffer, the channel working on `job`. -/
def accepted (frame : Bytes) (job : Job) (s : State) : State :=
  { afterTransaction s with
    bp.intakeCount := 0
    bp.intake := []
    mc.response := none
    mc.scrubTimer := none
    mc.request := frame
    mc.state := .working job }

/-- What an accepted POST that is answered at its taking leaves (R190): the response in the buffer, not delivered and
not secret, the request buffer zeroed, the channel IDLE. -/
def answered (r : Request) (status : Status) (body : Bytes) (s : State) : State :=
  { accepted [] .taken s with
    cred := none
    mc.state := .idle
    mc.response := some ⟨responseFrame (requestCode r) status body, false, false, none, none⟩ }

/-- The response that stands in the buffer after a placement (R190): a non-secret one, not yet delivered. -/
def holdsAnswer (r : Request) (status : Status) (body : Bytes) (s : State) : Bool :=
  decide (s.mc.state = .idle) && decide (s.mc.request = []) &&
    decide (s.mc.response = some ⟨responseFrame (requestCode r) status body, false, false, none, none⟩)

/-- The secret response that stands in the buffer after a placement, with its expiry 50 ms on (R179, R182). -/
def holdsSecret (r : Request) (mask : Option Byte) (body : Bytes) (s : State) : Bool :=
  decide (s.mc.state = .idle) && decide (s.mc.request = []) &&
    decide (s.mc.response = some ⟨responseFrame (requestCode r) .ok body, false, true, mask, some s.clock⟩) &&
    decide (s.mc.scrubTimer = some (s.clock + 50))

/-! ### Clocks -/

/-- The clocks with which a sender carries bytes to the part in a lane mode (R25, R43). -/
def sendClocks (mode : LaneMode) (bytes : Bytes) : List Clock := bytes.flatMap (byteClocks (receiveLines mode))

/-! ### Reading -/

/-- R10, R11: what a byte of a read transaction that begins now reads as while no operation is in flight: the flash's
byte where the logical address is mapped and its entry's live rights include R, 0xFF elsewhere. -/
def logicalByte (s : State) (a : LogicalAddress) : Byte :=
  match translate s.tu.table s.tu.selector s.store.slotMap a with
  | none => 0xFF
  | some (f, p) => if f.region.live.r then s.flash.read p else 0xFF

/-- R10, R12: what a byte of the read transaction `x` reads as while no operation is in flight: the geometry of the
table and selector live at its start, the live rights of the entry as they stand. -/
def txnByte (s : State) (x : ReadTxn) (a : LogicalAddress) : Byte :=
  match translate x.table x.selector s.store.slotMap a with
  | none => 0xFF
  | some (f, p) => if (s.tu.table.getD f.index .held).live.r then s.flash.read p else 0xFF

/-- R10, R12, R31, R51: what a byte of a read may be while `o` is in flight: 0xFF where it is unmapped or unreadable; inside
the page, sector or block of a SUSPENDED command every bit that R51 does not fix may be either; every other byte is the
flash's. -/
def shownByte (s : State) (table : List Region) (selector : Slot) (o : FlightOp) (a : LogicalAddress) (b : Byte) : Prop :=
  match translate table selector s.store.slotMap a with
  | none => b = 0xFF
  | some (f, p) =>
    let old := s.flash.read p
    if (s.tu.table.getD f.index .held).live.r = false then b = 0xFF
    else if o.phase = .suspended ∧ o.target ≤ p ∧ p < o.target + commandLength o.kind ∧ s.flash.present = true then
      if o.kind = .program then
        (∀ i, i < 8 → old.getLsbD i = false → b.getLsbD i = false) ∧
          ∀ i, i < 8 → (old &&& byteAt o.image (p - o.target)).getLsbD i = true → b.getLsbD i = true
      else ∀ i, i < 8 → old.getLsbD i = true → b.getLsbD i = true
    else b = old

/-- R59, R203: the status pairs of a suspend: none decides before the last, which does. An absent flash shows 0xFF at once. -/
def suspendAnswer (s : State) (reply : SuspendReply) (undecided : SuspendReply) (last : StatusPair) : Prop :=
  (if s.flash.present then reply else [⟨0xFF, 0xFF⟩]) = undecided ++ [last] ∧
    (∀ q ∈ undecided, q.suspended.getLsbD 7 = false ∧ q.busy.getLsbD 0 = true) ∧
    (last.suspended.getLsbD 7 = true ∨ last.busy.getLsbD 0 = false)

/-- R59, R203: a suspend, and the two status reads of each pair. -/
def suspendCommands (undecided : SuspendReply) (last : StatusPair) : List FpCommand :=
  .suspend :: (undecided ++ [last]).flatMap fun _ => [FpCommand.readBusy, .readSuspended]

/-- R63, R108: the state after the start of a run read or of an operation: a READING chunk request is back in WAITING, and
one of the staged scan is counted. -/
def chunkPreempted (s t : State) : Prop :=
  ∀ c, s.fp.chunk = some c → c.reading = true →
    t.fp.chunk = some { c with reading := false } ∧ t.fp.chunkBuffer = [] ∧
      t.isc.staging =
        if c.owner = .stagedScan then
          { s.isc.staging with
            preemptions :=
              if s.isc.staging.preemptions < 65535 then s.isc.staging.preemptions + 1 else s.isc.staging.preemptions }
        else s.isc.staging

/-! ### The body of STORE_CREDENTIAL -/

/-- R165, R171, R205: the bytes of a STORE_CREDENTIAL body are those of the record `c`: handle, class, mode, owner-gated flag,
binding kind, lane mask, signer slot and length, then the minimum version, the reference digest and the secret, with every
field that the binding kind does not use zero. -/
def storeBodyOf (body : Bytes) (c : Credential) : Prop :=
  let mask := byteAt body 5
  let signer := (byteAt body 6).toNat
  let minVersion := leAt body 8 4
  let reference := (body.drop 12).take 32
  c.handle = (byteAt body 0).toNat ∧ c.handle ≤ 31 ∧
  byteAt body 1 =
    (match c.cls with | .ownerPassphrase => 0x00 | .wirelessKey => 0x01 | .serviceToken => 0x02 | .tlsKey => 0x03) ∧
  byteAt body 2 = (if c.exportable then 0x00 else 0x01) ∧ byteAt body 3 = (if c.gated then 0x01 else 0x00) ∧
  body.length = 44 + c.secret.length ∧ (byteAt body 7).toNat = c.secret.length ∧ 1 ≤ c.secret.length ∧
  c.secret.length ≤ 128 ∧ c.secret = body.drop 44 ∧
  match c.binding with
  | .none => byteAt body 4 = 0x00 ∧ mask = 0 ∧ signer = 0 ∧ minVersion = 0 ∧ reference = List.replicate 32 0
  | .lanes m r => byteAt body 4 = 0x01 ∧ m = mask ∧ mask ≠ 0 ∧ signer = 0 ∧ minVersion = 0 ∧ r = reference
  | .signer k v =>
    byteAt body 4 = 0x02 ∧ k = signer ∧ signer ≤ 3 ∧ v.toNat = minVersion ∧ mask = 0 ∧
      reference = List.replicate 32 0

/-! ### The boot scan (R92, R99 to R104) -/

/-- R92, R99: a boot scan of slot `x` has just begun, and its manifest is being read. -/
def bootScanBegun (m : SlotMap) (x : Slot) (fallback : Bool) (s : State) : State :=
  { s with
    isc.stage := .scanning
    isc.bootFallback := fallback
    isc.scan := { ScanRecord.afterReset with owner := .bootScan, slot := x, phase := .manifestRead }
    fp.chunk := some ⟨.bootScan, m.slotStart x, 544, true⟩
    fp.chunkBuffer := []
    fp.sent := [.read (m.slotStart x)] }

/-- R96, R101, R104, R113: a scan has failed one of the checks 1 to 9: a staged one is REJECTED, and a boot scan goes on to the
event digest of its SCAN_FAILURE record, over the slot code, the reason code and the manifest digest, in the free engine. -/
def scanFailed (owner : ScanOwner) (reason : ScanReason) (code : Byte) (s : State) : State :=
  match owner with
  | .stagedScan =>
    { s with
      isc.scan.phase := .ended
      isc.scan.result := some (.failure reason 0)
      isc.staging.state := .opened
      isc.staging.outcome := .rejected reason 0
      mc.flags.scanDone := true }
  | .bootScan =>
    { s with
      isc.scan.phase := .ended
      isc.scan.result := some (.failure reason 0)
      isc.stage := .failureDigest
      de.scan :=
        some (bufferItem .scanFailureEvent
          ([if s.isc.scan.slot = .a then 0 else 1, code] ++ s.isc.scan.manifestDigest))
      de.scanFirst := true
      de.owed := false
      de.absorbing := some .scan }

/-- R102: recovery has been entered with slot `x` persistent-active. -/
def recoveryEntered (m : SlotMap) (x : Slot) (s : State) : State :=
  { s with
    tu.table := recoveryTable m
    tu.selector := x
    isc.boot := ⟨.recovery, x, none, none⟩
    isc.stage := .released
    mc.flags.bootNotice := true
    socRun := true }

/-- R104, R130: an extend of the boot scan has just begun: the lane keeps its value until the fold, whose 64 bytes the
Digest Engine absorbs in its scan place. -/
def foldBegun (lane : Nat) (record : LogRecord) (stage : BootStage) (s : State) : State :=
  { s with
    lanes := s.lanes.set lane
      { s.lanes.getD lane .afterReset with
        extending := some ⟨(s.lanes.getD lane .afterReset).value, record⟩ }
    isc.stage := stage
    de.scan := some (bufferItem .bootExtend ((s.lanes.getD lane .afterReset).value ++ record.digest))
    de.scanFirst := true
    de.owed := false
    de.absorbing := some .scan }

/-- R100 steps 3 and 4: the manifest's table is installed and SOC_RUN released. -/
def passReleased (manifest : Bytes) (s : State) : State :=
  { s with
    tu.table := manifestTable manifest
    tu.selector := s.isc.scan.slot
    isc.boot :=
      ⟨if s.isc.bootFallback then .fallbackPass else .pass, s.isc.scan.slot, some (manifestVersion manifest),
        some (manifestSigner manifest)⟩
    isc.stage := .released
    mc.flags.bootNotice := s.mc.flags.bootNotice || s.isc.bootFallback
    socRun := true }

/-- R100 steps 2 to 4, R104, from segment `k` of the manifest on: the first measured segment is extended into its lane
with its digest and its index; where none is left, the release follows. -/
def measuredFrom (manifest : Bytes) (k : Nat) (s t : State) : Prop :=
  let lane (j : Nat) := (manifestSegment manifest j).measuredLane
  ((∀ j, k ≤ j → j < manifestSegmentCount manifest → lane j = none) → t = passReleased manifest s) ∧
  ∀ i l, k ≤ i → i < manifestSegmentCount manifest → lane i = some l → (∀ j, k ≤ j → j < i → lane j = none) →
    (s.lanes.getD l .afterReset).log.length < 16 →
    t = foldBegun l ⟨s.isc.scan.segmentDigests.getD i [], .scanSegment, BitVec.ofNat 32 i⟩ (.segmentFold i) s

/-! ### Invariants -/

/-- R2: a set of rights contained in another. -/
def Rights.within (x y : Rights) : Bool := (!x.r || y.r) && (!x.p || y.p) && (!x.e || y.e)

/-- R2, R3: an entry's live rights lie within its granted rights, and an ACTIVE entry grants neither P nor E. -/
def Region.rightsOk (e : Region) : Bool :=
  e.live.within e.granted && (decide (e.target ≠ .active) || (!e.granted.p && !e.granted.e))

/-- R1: the ends of a table never fall below `before` or the end before them, and none exceeds 4096. -/
def endsRise (before : Nat) : List Region → Bool
  | [] => true
  | e :: rest => decide (before ≤ e.stop) && decide (e.stop ≤ 4096) && endsRise e.stop rest

/-- R1, R2, R3: sixteen entries, their ends in order, each with its rights in order. -/
def tableOk (s : State) : Bool :=
  decide (s.tu.table.length = 16) && endsRise 0 s.tu.table && s.tu.table.all Region.rightsOk

/-- R22: the count is at most 65535, and the first refusal is present exactly while the count is above 0. -/
def violationsOk (s : State) : Bool :=
  decide (s.tu.violations ≤ 65535) && (decide (0 < s.tu.violations) == s.tu.firstRefusal.isSome)

/-- R182, R184: a secret response in the buffer has a ready time, its expiry 50 ms later, and that moment has not
come. -/
def secretOk (s : State) : Bool :=
  match s.mc.response with
  | none => true
  | some r =>
    !r.secret || r.readyTime.any fun m => decide (s.mc.scrubTimer = some (m + 50)) && decide (s.clock < m + 50)

/-- R128, R130, R131: a lane's log holds at most 16 records, and at most 15 while an extend is in progress. -/
def Lane.logOk (l : Lane) : Bool :=
  decide (l.log.length ≤ 16) && (l.extending.isNone || decide (l.log.length ≤ 15))

/-- R128: eight lanes, each with its log in bounds. -/
def lanesOk (s : State) : Bool := decide (s.lanes.length = 8) && s.lanes.all Lane.logOk

/-- R55: the write record is IN_FLIGHT exactly while the in-flight operation is present. -/
def flightOk (s : State) : Bool := s.fp.op.isSome == decide (s.bp.writeRecord = .inFlight)

/-- R56: an operation is QUEUED only while an upstream read transaction holds the flash. -/
def queueOk (s : State) : Bool := s.fp.op.all fun o => decide (o.phase ≠ .queued) || flashHeld s

/-- R165: the bounds of one credential record. -/
def Credential.ok (c : Credential) : Bool :=
  decide (c.handle ≤ 31) && decide (1 ≤ c.secret.length) && decide (c.secret.length ≤ 128)

/-- R165: the handles of a directory rise strictly, and each record is in bounds. -/
def directorySorted : List Credential → Bool
  | [] => true
  | [c] => c.ok
  | c :: d :: rest => c.ok && decide (c.handle < d.handle) && directorySorted (d :: rest)

/-- A write that adds a credential adds one in bounds and within the limit of the directory (R166, R171). -/
def StoreWrite.credentialOk (l : List Credential) : StoreWrite → Bool
  | .putCredential c => c.ok && decide (bytesAfterStore l c ≤ 2048)
  | _ => true

/-- R165, R166: the directory is ordered, in bounds and within 2048 bytes, and the writes in hand keep it so. -/
def directoryOk (s : State) : Bool :=
  directorySorted s.store.credentials && decide (bytesUsed s.store.credentials ≤ 2048) &&
    s.writes.current.all (·.contents.credentialOk s.store.credentials) &&
    s.writes.waiting.all (·.contents.credentialOk s.store.credentials)

/-- R121: a write leaves the rollback floor of a store as it is or raises it; the provisioning write, which gives the
floor its first value, finds none. -/
def StoreWrite.floorOk (floor : Option Word32) : StoreWrite → Bool
  | .provisioning _ => floor.isNone
  | .floor v => floor.all fun f => decide (f ≤ v)
  | _ => true

/-- A write of the rollback floor by CONFIRM_ACTIVE (R123). -/
def StoreWrite.raisesFloor : StoreWrite → Bool
  | .floor _ => true
  | _ => false

/-- A write of the whole slot record (R85). -/
def StoreWrite.ofSlotRecord : StoreWrite → Bool
  | .slotRecord _ => true
  | _ => false

/-- R148: the write in progress and the write waiting behind it. -/
def writesInHand (s : State) : List PendingWrite := s.writes.current.toList ++ s.writes.waiting.toList

/-- R85: the writes in hand that the Image Slot Controller did not ask for. -/
def otherWrites (s : State) : List PendingWrite :=
  (writesInHand s).filter fun w => decide (w.requester ≠ .slotController)

/-- R148, R150: the channel waits for the end of a write. -/
def waitsForWrite : ChannelState → Bool
  | .working .resetWrite => true
  | .working (.gateWrite _ _) => true
  | .working .floorWrite => true
  | .working (.lastWrite _) => true
  | _ => false

/-- R153: the channel waits for the restart of a FINISH_PROVISIONING. -/
def provisioningPending : ChannelState → Bool
  | .working (.restart (some _)) => true
  | _ => false

/-- What keeps the rollback floor from falling: every write in hand respects it; the Image Slot Controller writes slot
records alone (R85); the channel and the reset ask for one write at a time and wait for it (R148); and a part that has
still to be provisioned has no floor (R121, R152). -/
def floorGuarded (s : State) : Bool :=
  (writesInHand s).all (fun w => w.contents.floorOk s.store.floor) &&
  (writesInHand s).all (fun w => decide (w.requester ≠ .slotController) || w.contents.ofSlotRecord) &&
  decide ((otherWrites s).length ≤ 1) && ((otherWrites s).isEmpty || waitsForWrite s.mc.state) &&
  (!provisioningPending s.mc.state || s.store.floor.isNone) &&
  (decide (s.store.lifecycle ≠ .blank) ||
    (s.store.floor.isNone && (writesInHand s).all fun w => !w.contents.raisesFloor))

/-- The part is in lifecycle BLANK (R146). -/
def blank (s : State) : Bool := decide (s.store.lifecycle = .blank)

/-- R85: the writes in hand that the Image Slot Controller asked for. -/
def slotWrites (s : State) : List PendingWrite :=
  (writesInHand s).filter fun w => decide (w.requester = .slotController)

/-- R91: no scan is between its start and its end. -/
def scanAtRest (s : State) : Bool := decide (s.isc.scan.phase = .idle) || decide (s.isc.scan.phase = .ended)

/-- R200, R153: the channel waits for a restart. -/
def restartPending : ChannelState → Bool
  | .working (.restart _) => true
  | _ => false

/-- R155, R156: the channel is at work on an owner token or proof, which a BLANK part never is. -/
def onOwnerToken : ChannelState → Bool
  | .working (.gateDigest _) => true
  | .working (.gateWrite _ _) => true
  | .working (.tokenDigest _) => true
  | _ => false

/-- R93, R94, R101, R104, R133: the item in the scan place is the one the scan's phase asks for: the manifest's or a
segment's during a scan, an event digest or a fold of the boot scan between scans. -/
def scanItemFits (s : State) (i : DigestItem) : Bool :=
  match i.work with
  | .manifest => decide (s.isc.scan.phase = .manifestDigest)
  | .segment => decide (s.isc.scan.phase = .segments)
  | .bootExtend => scanAtRest s && !s.socRun
  | .scanFailureEvent => scanAtRest s && !s.socRun
  | .trialRevertEvent => scanAtRest s && !s.socRun
  | _ => false

/-- R98 to R105: between the hand-over of a scan's manifest to the lanes and the release, the boot scan waits here. -/
def passStage : BootStage → Bool
  | .passWrite => true
  | .segmentFold _ => true
  | _ => false

/-- A write that changes the lifecycle on the owner's behalf (R156, R161). -/
def StoreWrite.ofOwnership : StoreWrite → Bool
  | .takeOwnership _ => true
  | .releaseOwnership => true
  | _ => false

/-- The write of FINISH_PROVISIONING (R153). -/
def StoreWrite.ofProvisioning : StoreWrite → Bool
  | .provisioning _ => true
  | _ => false

/-- A write of the slot map (R5). -/
def StoreWrite.ofSlotMap : StoreWrite → Bool
  | .slotMap _ => true
  | _ => false

/-- R98 to R106, R150: the order of a reset and a boot. A part held by RST_N or being prepared, and a part whose SOC_RUN
is low, has the held table and no operation in flight. A running part has ended its boot scan and scans for staging
alone. A slot record write of the boot scan is the only one and no scan is in hand beside it. A reset's own write is
alone in hand while the part prepares. -/
def bootOk (s : State) : Bool :=
  (!s.rstLow || (decide (s.fp.prep = .heldByPin) && !restartPending s.mc.state)) &&
  (decide (s.fp.prep = .ready) || (!s.socRun && s.de.scan.isNone && scanAtRest s && (slotWrites s).isEmpty)) &&
  (s.socRun || (decide (s.tu.table = heldTable) && s.fp.op.isNone)) &&
  (!s.socRun || (decide (s.isc.stage = .released) && (slotWrites s).isEmpty)) &&
  (scanAtRest s ||
    (if s.socRun then decide (s.isc.scan.owner = .stagedScan) && decide (s.isc.staging.state = .verifying)
      else decide (s.isc.scan.owner = .bootScan))) &&
  s.de.scan.all (scanItemFits s) &&
  ((slotWrites s).isEmpty || (s.de.scan.isNone && scanAtRest s && decide ((slotWrites s).length ≤ 1))) &&
  (!passStage s.isc.stage || scanAtRest s) &&
  (s.writes.current.all fun w => decide (w.requester ≠ .partReset) ||
    (decide (s.fp.prep = .afterWrite) && s.writes.waiting.isNone && decide (s.mc.state = .working .resetWrite))) &&
  (s.writes.waiting.all fun w => decide (w.requester ≠ .partReset))

/-- R5, R146, R153, R156: what a BLANK part has not begun, and which writes lead out of BLANK. -/
def blankOk (s : State) : Bool :=
  (!blank s ||
    (scanAtRest s && s.de.scan.isNone && (decide (s.isc.stage = .idle) || decide (s.isc.stage = .released)) &&
      !onOwnerToken s.mc.state && (writesInHand s).all fun w => !w.contents.ofOwnership)) &&
  ((writesInHand s).all fun w => !w.contents.ofProvisioning || decide (w.requester = .partReset)) &&
  (blank s || (writesInHand s).all fun w => !w.contents.ofSlotMap)

/-- R17, R89: no program or erase right of an entry reaches a slot or the recovery area, STAGING apart: that one maps
into the live-inactive slot. `before` is the end of the entry before. -/
def tableGuarded (m : SlotMap) (before : Nat) : List Region → Bool
  | [] => true
  | e :: rest =>
    (match e.target with
      | .none => true
      | .staging => true
      | .active => !e.granted.p && !e.granted.e
      | .direct =>
        (!e.granted.p && !e.granted.e) ||
          (!overlap (e.base * 4096) ((e.stop - before) * 4096) (m.slotStart .a) m.slotBytes &&
            !overlap (e.base * 4096) ((e.stop - before) * 4096) (m.slotStart .b) m.slotBytes &&
            !overlap (e.base * 4096) ((e.stop - before) * 4096) m.recoveryStart m.recoveryBytes)) &&
      tableGuarded m e.stop rest

/-- R17: an address in the live-selector slot or the recovery area of the slot map. -/
def protectedAddress (s : State) (p : Nat) : Bool :=
  s.store.slotMap.any fun m =>
    (decide (m.slotStart s.tu.selector ≤ p) && decide (p < m.slotStart s.tu.selector + m.slotBytes)) ||
      (decide (m.recoveryStart ≤ p) && decide (p < m.recoveryStart + m.recoveryBytes))

/-- R17: no command of an operation, the one in hand or a later one, reaches the live-selector slot or the recovery
area. -/
def flightGuarded (s : State) (o : FlightOp) : Bool :=
  decide (o.index < o.targets.length) && (decide (o.kind ≠ .eraseSeries) || decide (o.targets.length = 16)) &&
  o.targets.all fun t =>
    s.store.slotMap.all fun m =>
      !overlap t (commandLength o.kind) (m.slotStart s.tu.selector) m.slotBytes &&
        !overlap t (commandLength o.kind) m.recoveryStart m.recoveryBytes

/-- R1, R5, R17, R89: the slot map and the one being written are valid; a manifest past its checks is one that check 7
and check 8 pass; and outside BLANK neither the live table nor the operation in flight reaches a guarded area. -/
def mapGuarded (s : State) : Bool :=
  s.store.slotMap.all SlotMap.valid &&
  ((writesInHand s).all fun w => match w.contents with | .slotMap m => m.valid | _ => true) &&
  (!(decide (s.isc.scan.phase = .segments) || passStage s.isc.stage) ||
    (endsOk 0 (manifestRegions (scanManifest s)) && aliasesOk (slotMapOf s) 0 (manifestRegions (scanManifest s)))) &&
  (blank s || (tableGuarded (slotMapOf s) 0 s.tu.table && s.fp.op.all (flightGuarded s)))

/-- R84: the persistent-active slot is VALID, TRIAL with 0 to 7 attempts, or FAILED; the other slot is EMPTY, REJECTED, or
FALLBACK beside a TRIAL. -/
def SlotRecord.ok (r : SlotRecord) : Bool :=
  (match r.stateOf r.active with
    | .valid => true
    | .trial n => decide (n ≤ 7)
    | .failed => true
    | _ => false) &&
  (match r.stateOf r.active.other with
    | .empty => true
    | .rejected => true
    | .fallback => isTrial (r.stateOf r.active)
    | _ => false)

/-- R99, R101: the record written or waiting is the one the boot scan's step goes on from. -/
def slotWritesAre (s : State) (p : SlotRecord → Bool) : Bool :=
  (slotWrites s).all fun w => match w.contents with | .slotRecord r => p r | _ => false

/-- R99, R101: the other slot of the boot scan has been made persistent-active and VALID. -/
def revertedFrom (x : Slot) (r : SlotRecord) : Bool :=
  decide (r.active = x.other) && decide (r.stateOf r.active = .valid)

/-- R99, R101: a boot scan scans the persistent-active slot, and remembers it where it is TRIAL. -/
def scansActive (s : State) : Bool :=
  let r := slotRecordOf s
  decide (s.isc.scan.slot = r.active) &&
    (!isTrial (r.stateOf r.active) || (decide (s.isc.bootX = r.active) && s.isc.bootXTrial))

/-- R99 to R102: the stages in which the boot scan waits for a slot record write of its own. -/
def writeStage : BootStage → Bool
  | .attemptWrite => true
  | .revertWrite => true
  | .exhaustedWrite => true
  | .failureRevertWrite => true
  | .failedWrite => true
  | .passWrite => true
  | _ => false

/-- R97, R99 to R105, R107: while SOC_RUN is low the boot record is UNVERIFIED, staging is CLOSED, no request changes the
slot record, the boot scan has not begun before the part is prepared (R98), a slot record write of its own is in hand only
where its step waits for one, and the record that step rests on is the one it made. -/
def bootRecordOk (s : State) : Bool :=
  decide (s.isc.boot.outcome = .unverified) && decide (s.isc.staging.state = .closed) &&
  decide (s.mc.state ≠ .working .floorWrite) && ((otherWrites s).all fun w => !w.contents.ofSlotRecord) &&
  (decide (s.fp.prep = .ready) || decide (s.isc.stage = .idle)) && ((slotWrites s).isEmpty || writeStage s.isc.stage) &&
  (match s.isc.stage with
    | .attemptWrite =>
      slotWritesAre s fun r => decide (r.active = s.isc.bootX) && isTrial (r.stateOf r.active) && s.isc.bootXTrial
    | .revertWrite => slotWritesAre s (revertedFrom s.isc.bootX)
    | .failureRevertWrite => slotWritesAre s (revertedFrom s.isc.bootX)
    | .revertDigest => revertedFrom s.isc.bootX (slotRecordOf s)
    | .revertFold => revertedFrom s.isc.bootX (slotRecordOf s)
    | .failureDigest => scansActive s
    | .failureFold => scansActive s
    | _ => true) &&
  (scanAtRest s || scansActive s) &&
  s.de.scan.all fun i =>
    match i.work with
    | .scanFailureEvent => decide (s.isc.stage = .failureDigest)
    | .trialRevertEvent => decide (s.isc.stage = .revertDigest)
    | _ => true

/-- R84, R85: the slot record is present exactly outside BLANK and has the shape of R84, as has every slot record being
written; while SOC_RUN is low it is the one the boot scan's step rests on. -/
def slotOk (s : State) : Bool :=
  (s.store.slotRecord.isSome == !blank s) && s.store.slotRecord.all SlotRecord.ok &&
  ((writesInHand s).all fun w => match w.contents with | .slotRecord r => r.ok && !blank s | _ => true) &&
  (!blank s || decide (s.mc.state ≠ .working .floorWrite)) && (s.socRun || bootRecordOk s)

/-- R152, R162: four key slots, at least one of them ACTIVE outside BLANK, from a FINISH_PROVISIONING on, and after every
key slot write in hand. -/
def keysOk (s : State) : Bool :=
  let active := s.store.keys.any keyActive
  decide (s.store.keys.length = 4) && (blank s || active) && (!provisioningPending s.mc.state || active) &&
  (writesInHand s).all fun w =>
    match w.contents with
    | .provisioning _ => active
    | .keySlot i k => keyActive k || (s.store.keys.set i k).any keyActive
    | _ => true

/-- R131: a lane's value is the fold of its log from 32 zero bytes, and an extend in progress starts from it (R130). -/
def Lane.foldOk (l : Lane) : Bool :=
  decide (l.value = l.log.foldl (fun v x => sha256 (v ++ x.digest)) (List.replicate 32 0)) &&
    l.extending.all fun x => decide (x.oldValue = l.value)

/-- R104, R133: the lane of the boot scan's extend in hand. -/
def stageLane (s : State) : Option Nat :=
  match s.isc.stage with
  | .revertFold => some 0
  | .failureFold => some 0
  | .segmentFold j => (manifestSegment (scanManifest s) j).measuredLane
  | _ => none

/-- R130: lane `k` is being extended, and `item` is the one chunk of its fold. -/
def foldsLane (s : State) (work : DigestWork) (k : Nat) (item : Option DigestItem) : Bool :=
  (s.lanes.getD k .afterReset).extending.any fun x =>
    decide (x.oldValue.length + x.record.digest.length ≤ 256) &&
      decide (item = some (bufferItem work (x.oldValue ++ x.record.digest)))

/-- R130, R131, R133, R135: every lane is the fold of its log; an extend in progress is the boot scan's, of lane 0 to 3, or
that of the EXTEND_LANE in hand, of lane 4 to 7, and the Digest Engine holds its fold. The engine's running states are
eight words, so that every digest has 32 bytes. -/
def foldsOk (s : State) : Bool :=
  s.lanes.all Lane.foldOk &&
  s.de.scan.all (fun i => decide (i.running.length = 8)) &&
  (s.isc.scan.segmentDigests.all fun d => decide (d.length = 32)) &&
  s.de.scan.all (fun i => decide (i.work ≠ .bootExtend) ||
    (stageLane s).any fun k => decide (k < 4) && foldsLane s .bootExtend k s.de.scan) &&
  (match s.mc.state with
    | .working (.laneFold k) => decide (4 ≤ k) && decide (k < 8) && foldsLane s .laneExtend k s.de.channel
    | _ => true) &&
  (List.range 8).all fun k =>
    (s.lanes.getD k .afterReset).extending.isNone || decide (s.mc.state = .working (.laneFold k)) ||
      (s.de.scan.any (fun i => decide (i.work = .bootExtend)) && decide (stageLane s = some k))

/-- R168: the policy of a record is satisfied by the boot record and the lane values as they stand. -/
def policySatisfied (s : State) (c : Credential) : Bool :=
  let booted := decide (s.isc.boot.outcome = .pass) || decide (s.isc.boot.outcome = .fallbackPass)
  match c.binding with
  | .none => true
  | .signer k v =>
    booted && decide (s.isc.boot.signer = some k) && s.isc.boot.version.any fun b => decide (v ≤ b)
  | .lanes mask reference =>
    booted &&
      decide (sha256 ((List.range 8).flatMap fun k =>
        if mask.getLsbD k then (s.lanes.getD k .afterReset).value else []) = reference)

/-- R165, R173: the working copy is the record of its handle as the Protected Store holds it. -/
def holdsStored (s : State) (w : CredWork) : Bool :=
  decide (credentialAt s.store.credentials w.record.handle = some w.record)

/-- R173, R175: a request that uses a credential. -/
def usesCredential (r : Request) : Bool := decide (r = .releaseCredential) || decide (r = .derive)

/-- R158: the write of a failure count. -/
def StoreWrite.ofFailures : StoreWrite → Bool
  | .failures _ => true
  | _ => false

/-- R165 to R175: what a credential request in hand rests on: the record it holds, at the gate; the lane values read and
their digest item, at the lane binding; the policy found satisfied, at the derive digest. A noted extend stands for each. -/
def useInHandOk (s : State) : Bool :=
  match s.mc.state with
  | .working (.gateDigest r) => !usesCredential r || s.cred.any (holdsStored s)
  | .working (.gateWrite r _) =>
    ((otherWrites s).all fun w => w.contents.ofFailures) && (!usesCredential r || s.cred.any (holdsStored s))
  | .working (.laneBinding _) =>
    s.cred.any fun w => holdsStored s w &&
      match w.record.binding with
      | .lanes mask _ => w.boundLaneExtended ||
        (outcomeBooted s.isc.boot.outcome &&
          decide (s.de.channel = some (bufferItem .laneBinding (maskedLaneValues s mask))))
      | _ => true
  | .working .deriveDigest =>
    s.cred.any fun w => holdsStored s w && (w.boundLaneExtended || policySatisfied s w.record)
  | _ => true

/-- R184: a secret response is that of a stored record, named by the handle in its body, whose policy is satisfied by the
boot record and the lane values as they stand, and no lane of its mask is being extended. A response stands only while the
channel is IDLE (R186, R190). -/
def policyOk (s : State) : Bool :=
  (s.mc.response.isNone || decide (s.mc.state = .idle)) && useInHandOk s &&
  s.mc.response.all fun x => !x.secret || s.store.credentials.any fun c =>
    decide (byteAt x.frame 4 = BitVec.ofNat 8 c.handle) && policySatisfied s c &&
      match c.binding with
      | .lanes mask _ => decide (x.boundMask = some mask) &&
        (List.range 8).all fun k => !mask.getLsbD k || (s.lanes.getD k .afterReset).extending.isNone
      | _ => decide (x.boundMask = none)

/-! ### Commands by kind -/

/-- The command that carries a request with its proof and body (R205). -/
def requestInstr (r : Request) (proof : Option Bytes) (body : Bytes) : Instr :=
  match r with
  | .getInfo => .getInfo proof body
  | .getStatus => .getStatus proof body
  | .clearEvents => .clearEvents proof body
  | .setAlertMask => .setAlertMask proof body
  | .restart => .restart proof body
  | .readMap => .readMap proof body
  | .restrictRegion => .restrictRegion proof body
  | .loadSlotMap => .loadSlotMap proof body
  | .generateIdentity => .generateIdentity proof body
  | .loadEndorsement => .loadEndorsement proof body
  | .loadUpdateKey => .loadUpdateKey proof body
  | .finishProvisioning => .finishProvisioning proof body
  | .getIdentity => .getIdentity proof body
  | .quote => .quote proof body
  | .readLane => .readLane proof body
  | .extendLane => .extendLane proof body
  | .openStaging => .openStaging proof body
  | .verifyStaged => .verifyStaged proof body
  | .commitStaged => .commitStaged proof body
  | .confirmActive => .confirmActive proof body
  | .abandonStaging => .abandonStaging proof body
  | .getSlotStatus => .getSlotStatus proof body
  | .takeOwnership => .takeOwnership proof body
  | .changeOwnerToken => .changeOwnerToken proof body
  | .releaseOwnership => .releaseOwnership proof body
  | .addUpdateKey => .addUpdateKey proof body
  | .revokeUpdateKey => .revokeUpdateKey proof body
  | .storeCredential => .storeCredential proof body
  | .releaseCredential => .releaseCredential proof body
  | .derive => .derive proof body
  | .eraseCredential => .eraseCredential proof body
  | .listCredentials => .listCredentials proof body

/-- The rows that are a transaction of the Boot Port from its first byte on (R25). The other rows are events, and the
ends of a read and of a FETCH that an earlier row began. -/
def beginsTransaction : Instr → Bool
  | .powerOn | .pinReset | .rstNRelease | .restartReset | .flashResetRecoveryEnd | .downstreamIdCapture _ _ => false
  | .readTransactionEnd _ _ | .fetchCountReport _ => false
  | .writeVerdict | .operationCompletion | .operationTimeout => false
  | .chunkDelivery | .chunkEnd | .signatureCompletion | .storeWriteEnd | .secretResponseExpiry => false
  | _ => true

/-- R45, R203: the bus command that a row carries in a lane mode, with the clocks received after its command byte; the
clocks of IGNORED_TRANSACTION may spell any. -/
def spells (mode : LaneMode) : Instr → Option (BusCommand × List Clock)
  | .read clocks _ _ => some (.read, clocks)
  | .fastRead clocks _ _ => some (.fastRead, clocks)
  | .quadOutputRead clocks _ _ => some (.quadOutputRead, clocks)
  | .readStatus _ => some (.readStatus, [])
  | .readId _ => some (.readId, [])
  | .writeEnable phases extra => some (.writeEnable, phases ++ extra)
  | .writeDisable phases extra => some (.writeDisable, phases ++ extra)
  | .pageProgram phases extra => some (.pageProgram, phases ++ extra)
  | .sectorErase phases extra => some (.sectorErase, phases ++ extra)
  | .blockErase phases extra => some (.blockErase, phases ++ extra)
  | .chipErase opcode phases extra => some (.chipErase opcode, phases ++ extra)
  | .managementPost phases extra => some (.managementPost, phases ++ extra)
  | .managementFetch _ => some (.managementFetch, [])
  | .resetEnable phases extra => some (.resetEnable, phases ++ extra)
  | .reset phases extra => some (.reset, phases ++ extra)
  | .enterQuadAll phases extra => some (.enterQuadAll, phases ++ extra)
  | .exitQuadAll phases extra => some (.exitQuadAll, phases ++ extra)
  | .ignoredTransaction raw =>
    (commandByte mode raw.clocks).bind fun x => (busCommandOfByte x.1).map fun c => (c, x.2)
  | _ => none

/-- R203: the row of a bus command with the clocks after its command byte; where the part drives data, each of them is a
data clock. -/
def busInstr (c : BusCommand) (clocks : List Clock) (reply : SuspendReply) : Instr :=
  match c with
  | .read => .read clocks 0 reply
  | .fastRead => .fastRead clocks 0 reply
  | .quadOutputRead => .quadOutputRead clocks 0 reply
  | .writeEnable => .writeEnable clocks []
  | .writeDisable => .writeDisable clocks []
  | .readStatus => .readStatus clocks.length
  | .pageProgram => .pageProgram clocks []
  | .managementPost => .managementPost clocks []
  | .managementFetch => .managementFetch clocks.length
  | .sectorErase => .sectorErase clocks []
  | .blockErase => .blockErase clocks []
  | .chipErase opcode => .chipErase opcode clocks []
  | .readId => .readId clocks.length
  | .resetEnable => .resetEnable clocks []
  | .reset => .reset clocks []
  | .enterQuadAll => .enterQuadAll clocks []
  | .exitQuadAll => .exitQuadAll clocks []

/-! ### Part resets -/

/-- Every block holds its part-reset values and SOC_RUN is low (R3, R24, R76, R83, R91, R97, R107, R128). The Flash
Port and the Management Channel, which a reset's own work moves on at once (R65, R150), are stated apart. -/
def blocksReset (s : State) : Bool :=
  decide (s.bp = .afterReset) && decide (s.tu = .afterReset) && decide (s.de = .afterReset) &&
    decide (s.su = .afterReset) && decide (s.isc = .afterReset) && decide (s.lanes = List.replicate 8 .afterReset) &&
    decide (s.cred = none) && !s.socRun

/-! ### Sequences of commands -/

/-- The state after a sequence of commands, each run to its next state. -/
def runCommands : List Instr → State → Option State
  | [], s => some s
  | c :: rest, s =>
    match exec c s with
    | .next t => runCommands rest t
    | _ => none

end Sys2Proof.Machine
end

