-- ==== Sys2Proof/Certificates/Slice0/Obligations.lean ====
section
/-! DEFINITION. The statements for the provers, one `Obligations.<Name>` each, listed in OBLIGATIONS.json. -/

section

open Sys2Proof Sys2Proof.Machine

/-! ### The machine as a whole -/

/-- A step with a command at the front of the queue is that command's meaning on the queue's rest (log 23). -/
def Obligations.StepRunsFrontCommand : Prop :=
  ∀ (c : Instr) (s : State) (rest : List Instr),
    step { s with pending := c :: rest } = exec c { s with pending := rest }

/-- A step on an empty queue is one millisecond of the internal oscillator (log 4): the clock advances, a RUNNING
operation runs for one millisecond more, an operation that reaches its limit of R58 times out, and a secret response
whose 50 ms are over is scrubbed (R182). -/
def Obligations.EmptyQueueIsOneMillisecond : Prop :=
  ∀ s : State, s.pending = [] →
    ((∀ m, s.mc.scrubTimer = some m → s.clock + 1 < m) → (∀ o, s.fp.op = some o → o.phase ≠ .running) →
      step s = .next { s with clock := s.clock + 1, fp.sent := [] }) ∧
    (∀ o, (∀ m, s.mc.scrubTimer = some m → s.clock + 1 < m) → s.fp.op = some o → o.phase = .running →
      o.runningTime + 1 < timeLimit o.kind →
      step s = .next
        { s with
          clock := s.clock + 1
          fp.sent := []
          fp.op := some { o with runningTime := o.runningTime + 1 } }) ∧
    (∀ o, s.fp.op = some o → o.phase = .running → timeLimit o.kind ≤ o.runningTime + 1 →
      ∃ t, step s = .next t ∧ t.clock = s.clock + 1 ∧ t.fp.op = none ∧ t.bp.writeRecord = .none) ∧
    (∀ m r, s.mc.scrubTimer = some m → m ≤ s.clock + 1 → s.mc.response = some r → r.secret = true →
      ∃ t, step s = .next t ∧ t.clock = s.clock + 1 ∧ t.mc.response = none ∧ t.mc.scrubTimer = none) ∧
    timeLimit .program = 20 ∧ timeLimit .sectorErase = 2000 ∧ timeLimit .eraseSeries = 2000 ∧
    timeLimit .blockErase = 8000

/-- No command stops the part, and none touches the queue of the commands behind it (log 23). -/
def Obligations.CommandsAnswerAndKeepQueue : Prop :=
  ∀ (c : Instr) (s : State), ∃ t, exec c s = .next t ∧ t.pending = s.pending

/-- The values the spec gives every item right after a POWER_ON of a part as delivered (R3, R22, R24, R52, R68, R77, R91,
R97, R107, R128, R147, R185, R196), and each invariant that the statements below say every step keeps. -/
def Obligations.ResetStateValues : Prop :=
  let s := State.reset
  s.bp.wel = false ∧ s.bp.writeRecord = .none ∧ s.bp.laneMode = .single ∧ s.bp.resetEnable = false ∧
  s.bp.idManufacturer = 0xFF ∧ s.bp.idType = 0xFF ∧ s.bp.pageBuffer = List.replicate 256 none ∧
  s.bp.intakeCount = 0 ∧ s.bp.intake = [] ∧
  s.tu.table = List.replicate 16 ⟨0, .none, ⟨false, false, false⟩, ⟨false, false, false⟩, 0⟩ ∧ s.tu.selector = .a ∧
  s.tu.violations = 0 ∧ s.tu.firstRefusal = none ∧
  s.fp.run = none ∧ s.fp.op = none ∧ s.fp.chunk = none ∧ s.fp.chunkBuffer = [] ∧ s.fp.prep ≠ .ready ∧
  s.de.scan = none ∧ s.de.channel = none ∧ s.de.absorbing = none ∧ s.de.owed = false ∧
  s.su.scan = none ∧ s.su.channel = none ∧
  s.isc.scan.phase = .idle ∧ s.isc.scan.manifest = none ∧ s.isc.scan.signerKey = none ∧
  s.isc.scan.manifestDigest = List.replicate 32 0 ∧ s.isc.scan.segmentDigests = [] ∧ s.isc.scan.result = none ∧
  s.isc.staging = ⟨.closed, .none, 0, 0, 0⟩ ∧ s.isc.boot = ⟨.unverified, .a, none, none⟩ ∧
  s.lanes = List.replicate 8 ⟨List.replicate 32 0, [], none⟩ ∧
  s.mc.request = [] ∧ s.mc.state = .idle ∧ s.mc.response = none ∧ s.mc.scrubTimer = none ∧
  s.mc.flags = ⟨false, false, false⟩ ∧ s.mc.dropped = false ∧ s.mc.mask = ⟨true, true, true, true⟩ ∧
  s.cred = none ∧ s.writes = ⟨none, none⟩ ∧
  s.store = ⟨.blank, none, .absent, none, none, none, List.replicate 4 .empty, none, 0, []⟩ ∧ s.socRun = false ∧
  s.flash.wf = true ∧ tableOk s = true ∧ secretOk s = true ∧ lanesOk s = true ∧
  violationsOk s = true ∧ flightOk s = true ∧ queueOk s = true ∧ directoryOk s = true ∧
  floorGuarded s = true ∧ bootOk s = true ∧ blankOk s = true ∧ mapGuarded s = true ∧ slotOk s = true ∧
  keysOk s = true ∧ foldsOk s = true ∧ policyOk s = true

/-- Every step keeps the flash contents in their canonical form. -/
def Obligations.FlashContentsStayCanonical : Prop :=
  ∀ s t : State, s.flash.wf = true → step s = .next t → t.flash.wf = true

/-- R1, R2, R3: every step keeps a table of sixteen entries whose ends never decrease and never exceed 4096, whose live
rights lie within their granted rights, and which grants neither P nor E to an ACTIVE entry. It keeps beside it what the
table rests on: the order of resets and boots, what a BLANK part has not begun, and the slot map and the checked manifest.
R17: outside BLANK, over those invariants, no step changes a byte of the live-selector slot or of the recovery area. -/
def Obligations.LiveRightsStayWithinGranted : Prop :=
  (∀ s t : State, tableOk s = true → bootOk s = true → blankOk s = true → mapGuarded s = true → step s = .next t →
    tableOk t = true ∧ bootOk t = true ∧ blankOk t = true ∧ mapGuarded t = true) ∧
  ∀ (s t : State) (p : Nat), mapGuarded s = true → s.store.lifecycle ≠ .blank → step s = .next t →
    protectedAddress s p = true → t.flash.read p = s.flash.read p

/-- R182, R184: every step keeps a secret response within the 50 ms after its ready time, with its timer running. Over the
invariants of LogsRefusalsAndWriteRecordAgree and of the boot, every step keeps a waiting secret response that of a stored
record whose policy the boot record and the lane values of that moment satisfy, with no extend of a bound lane in progress,
and keeps what a credential request in hand rests on until its secret is placed (R165, R168 to R175). -/
def Obligations.SecretResponseLifetime : Prop :=
  (∀ s t : State, secretOk s = true → step s = .next t → secretOk t = true) ∧
  ∀ s t : State, policyOk s = true → directoryOk s = true → foldsOk s = true → slotOk s = true → lanesOk s = true →
    bootOk s = true → floorGuarded s = true → step s = .next t → policyOk t = true

/-- R128, R130, R131: every step keeps eight lanes, each log at 16 records or fewer, at 15 or fewer while an extend is
in progress. R22: every step keeps the violation count at 65535 or below and the first refusal present exactly while the
count is above 0. R55: every step keeps the write record IN_FLIGHT exactly while an in-flight operation exists. R56: every
step leaves an operation QUEUED only while an upstream read transaction holds the flash. R131: every step keeps each lane
the fold of its log from 32 zero bytes. R84, R85: every step keeps the slot record present exactly outside BLANK, with the
persistent-active slot VALID, TRIAL or FAILED and the other EMPTY, REJECTED, or FALLBACK beside a TRIAL, and while SOC_RUN
is low the record the boot scan's step rests on, with a slot record write of its own in hand only where its step waits for
one (R99 to R102) and no step begun before the part is prepared (R98). R162, R152, R164: every step keeps a key slot ACTIVE outside BLANK. Each of
these three rests on the invariants of the boot and of the writes in hand. -/
def Obligations.LogsRefusalsAndWriteRecordAgree : Prop :=
  (∀ s t : State, lanesOk s = true → step s = .next t → lanesOk t = true) ∧
  (∀ s t : State, violationsOk s = true → step s = .next t → violationsOk t = true) ∧
  (∀ s t : State, flightOk s = true → step s = .next t → flightOk t = true) ∧
  (∀ s t : State, queueOk s = true → step s = .next t → queueOk t = true) ∧
  (∀ s t : State, foldsOk s = true → lanesOk s = true → slotOk s = true → bootOk s = true → step s = .next t →
    foldsOk t = true) ∧
  (∀ s t : State, slotOk s = true → bootOk s = true → blankOk s = true → floorGuarded s = true → step s = .next t →
    slotOk t = true) ∧
  ∀ s t : State, keysOk s = true → bootOk s = true → blankOk s = true → floorGuarded s = true → step s = .next t →
    keysOk t = true

/-- R165, R166: every step keeps the credential directory ordered by handle, one record a handle, each within its bounds,
and their lengths together at 2048 or below. The guard of the rollback floor says that the channel has one write in hand
at a time. -/
def Obligations.DirectoryStaysOrdered : Prop :=
  ∀ s t : State, directoryOk s = true → floorGuarded s = true → step s = .next t → directoryOk t = true

/-- R121: the rollback floor never decreases. -/
def Obligations.RollbackFloorNeverFalls : Prop :=
  ∀ s t : State, floorGuarded s = true → step s = .next t →
    floorGuarded t = true ∧ ∀ f, s.store.floor = some f → ∃ g, t.store.floor = some g ∧ f ≤ g

/-- R148, R149: the Protected Store changes only by the whole write in progress: at its end always, at a POWER_ON or PIN
reset perhaps (log 14); a millisecond on an empty queue leaves it. R146: no command leads back to BLANK. R148: a write asked
for while another is in progress waits, as that of the failure count by a wrong proof, and the waiting write begins at the
end of the one in progress; where a restart waited for that end it does not begin (R149). -/
def Obligations.StoreChangesOnlyByWholeWrites : Prop :=
  (∀ (c : Instr) (s t : State), exec c s = .next t →
    (t.store = s.store ∨
      ∃ w, s.writes.current = some w ∧ t.store = s.store.apply w.contents ∧
        (c = .storeWriteEnd ∨ c = .powerOn ∨ c = .pinReset)) ∧
    (c = .storeWriteEnd → ∀ w, s.writes.current = some w → t.store = s.store.apply w.contents) ∧
    (s.store.lifecycle ≠ .blank → t.store.lifecycle ≠ .blank)) ∧
  (∀ s t : State, s.pending = [] → step s = .next t → t.store = s.store) ∧
  (∀ (s : State) (w : PendingWrite) (r : Request) (proof : Bytes), s.writes.current = some w →
    s.mc.state = .working (.gateDigest r) → s.de.absorbing = some .channel →
    s.de.channel = some (bufferItem .ownerProof proof) → proof.length = 32 → s.store.verifier ≠ some (sha256 proof) →
    ∃ t, exec .chunkEnd s = .next t ∧ t.store = s.store ∧
      t.writes = ⟨some w, some ⟨.channel, .failures (s.store.failures + 1)⟩⟩) ∧
  ∀ (s : State) (w v : PendingWrite), s.writes = ⟨some w, some v⟩ →
    ∃ t, exec .storeWriteEnd s = .next t ∧ t.store = s.store.apply w.contents ∧
      ((∀ f, s.mc.state ≠ .working (.restart f)) ∨ s.fp.op ≠ none → t.writes.current = some v) ∧
      ((∃ f, s.mc.state = .working (.restart f)) → s.fp.op = none → t.writes.current = none)

/-- R2, R3, R20: the live table and selector change only by a narrowing, which a RESTRICT_REGION frame asks for, by a
part reset, which installs the held table with SOC_RUN low, or by the installation right before the release of SOC_RUN,
made while SOC_RUN is still low, which leaves every entry's live rights equal to its granted rights. R103, R106: SOC_RUN
rises only at that release, and falls only at a part reset, which leaves the lanes zero, the boot record UNVERIFIED and
staging CLOSED. The invariant says that a part whose SOC_RUN is high has no boot scan in hand. A millisecond on an empty
queue changes none of the three. -/
def Obligations.TableAndSocRunChangeOnlyAsGiven : Prop :=
  (∀ (c : Instr) (s t : State), bootOk s = true → exec c s = .next t →
    let release := (∃ mf ty, c = .downstreamIdCapture mf ty) ∨ c = .chunkEnd ∨ c = .storeWriteEnd
    let reset := c = .powerOn ∨ c = .pinReset ∨ c = .restartReset
    ((t.tu.table = s.tu.table ∧ t.tu.selector = s.tu.selector) ∨
      (t.tu.selector = s.tu.selector ∧ (∃ i mask, t.tu.table = narrowTable s.tu.table i mask) ∧
        ((∃ proof body, c = .restrictRegion proof body) ∨
          ∃ clocks, spells s.bp.laneMode c = some (.managementPost, clocks) ∧
            onBoundary s.bp.laneMode clocks = true)) ∨
      (t.tu.table = List.replicate 16 ⟨0, .none, ⟨false, false, false⟩, ⟨false, false, false⟩, 0⟩ ∧
        t.tu.selector = .a ∧ t.socRun = false ∧ reset) ∨
      (s.socRun = false ∧ t.socRun = true ∧ t.isc.stage = .released ∧ release ∧ t.tu.table.length = 16 ∧
        ∀ e ∈ t.tu.table, e.live = e.granted)) ∧
    (s.socRun = false → t.socRun = true → release ∧ t.isc.stage = .released) ∧
    (s.socRun = true → t.socRun = false →
      reset ∧ t.lanes = List.replicate 8 ⟨List.replicate 32 0, [], none⟩ ∧
        t.isc.boot = ⟨.unverified, .a, none, none⟩ ∧ t.isc.staging = ⟨.closed, .none, 0, 0, 0⟩)) ∧
  ∀ s t : State, s.pending = [] → step s = .next t → t.tu = s.tu ∧ t.socRun = s.socRun

/-- R50, R57, R58, R66: a byte of the flash changes only where it lies in the page, sector or block of the in-flight
operation's command in hand, and only at that command's completion, at its timeout, which a millisecond on an empty queue
can bring as well (log 4), at a POWER_ON or PIN reset, or at a read whose suspend finds the command ended. -/
def Obligations.FlashChangesOnlyInHand : Prop :=
  ∀ (s t : State) (p : Nat), step s = .next t → t.flash.read p ≠ s.flash.read p →
    ∃ o, s.fp.op = some o ∧ inHand o p = true ∧
      ((s.pending = [] ∧ o.phase = .running ∧ timeLimit o.kind ≤ o.runningTime + 1) ∨
        ∃ c rest, s.pending = c :: rest ∧
          (c = .operationCompletion ∨ c = .operationTimeout ∨ c = .powerOn ∨ c = .pinReset ∨
            ∃ clocks n reply, suspendFindsEnded reply = true ∧
              (c = .read clocks n reply ∨ c = .fastRead clocks n reply ∨ c = .quadOutputRead clocks n reply ∨
                c = .readTransactionEnd n reply ∨ c = .ignoredTransaction ⟨clocks, reply⟩)))

/-- R37: WEL rises only by a WRITE_ENABLE taken with the write record NONE, and falls only by a WRITE_DISABLE, a
verdict, a port reset or a part reset. The transaction is the row of its name, or the one that the clocks of an
IGNORED_TRANSACTION spell (log 30). A millisecond on an empty queue leaves it. -/
def Obligations.WriteEnableLatchMoves : Prop :=
  (∀ s t : State, s.pending = [] → step s = .next t → t.bp.wel = s.bp.wel) ∧
  ∀ (c : Instr) (s t : State), exec c s = .next t →
    let taken (b : BusCommand) : Prop :=
      ∃ clocks, spells s.bp.laneMode c = some (b, clocks) ∧ onBoundary s.bp.laneMode clocks = true
    (s.bp.wel = false → t.bp.wel = true → s.bp.writeRecord = .none ∧ taken .writeEnable) ∧
    (s.bp.wel = true → t.bp.wel = false →
      taken .writeDisable ∨ (c = .writeVerdict ∧ ∃ k, s.bp.writeRecord = .deciding k) ∨
      (taken .reset ∧ s.bp.resetEnable = true) ∨ c = .powerOn ∨ c = .pinReset ∨ c = .restartReset)

/-! ### Translation (chapter 1) -/

/-- R9: lookup finds the least entry whose end lies above the address, with the offset and the length the rule gives;
where there is none the address is unmapped. -/
def Obligations.LookupFindsLeastEntry : Prop :=
  ∀ (table : List Region) (a : LogicalAddress),
    (∀ i, i < table.length → a.toNat < (table.getD i .held).stop * 4096 →
      (∀ j, j < i → (table.getD j .held).stop * 4096 ≤ a.toNat) →
      let s := if i = 0 then 0 else (table.getD (i - 1) .held).stop * 4096
      lookup table a = some ⟨i, table.getD i .held, s⟩ ∧ s ≤ a.toNat ∧
        a.toNat - s < (table.getD i .held).stop * 4096 - s) ∧
    ((∀ i, i < table.length → (table.getD i .held).stop * 4096 ≤ a.toNat) →
      lookup table a = none ∧ ∀ selector m, translate table selector m a = none)

/-- R10: the physical address of a byte from its entry's target and base, the live selector and the slot map, and the
guards that make it unmapped. -/
def Obligations.PhysicalAddressOfEntry : Prop :=
  ∀ (table : List Region) (selector : Slot) (m : SlotMap) (a : LogicalAddress) (f : Found),
    lookup table a = some f →
      let o := a.toNat - f.start
      let b := f.region.base * 4096
      let active := (match selector with | .a => m.aBase | .b => m.bBase) * 65536
      let inactive := (match selector with | .a => m.bBase | .b => m.aBase) * 65536
      (f.region.target = .none → translate table selector (some m) a = none) ∧
      (f.region.target = .direct →
        translate table selector (some m) a = if 0x2000000 ≤ b + o then none else some (f, b + o)) ∧
      (f.region.target = .active →
        translate table selector (some m) a =
          if m.slotLength * 65536 ≤ b + o then none else some (f, active + b + o)) ∧
      (f.region.target = .staging →
        translate table selector (some m) a =
          if m.slotLength * 65536 ≤ b + o then none else some (f, inactive + b + o))

/-- R7: the identity table, entry by entry, and what the SoC finds under it. -/
def Obligations.IdentityTable : Prop :=
  identityTable.length = 16 ∧
  identityTable.getD 0 .held = ⟨4096, .direct, ⟨true, true, true⟩, ⟨true, true, true⟩, 0⟩ ∧
  (∀ i, 1 ≤ i → i ≤ 15 →
    identityTable.getD i .held = ⟨4096, .none, ⟨false, false, false⟩, ⟨false, false, false⟩, 0⟩) ∧
  (∀ (selector : Slot) (m : Option SlotMap) (a : LogicalAddress),
    (∃ f, translate identityTable selector m a = some (f, a.toNat) ∧ f.index = 0) ∧
      ∀ f p, translate identityTable selector m a = some (f, p) → p < 0x1000000) ∧
  (∀ (s : State) (a : LogicalAddress), s.tu.table = identityTable → logicalByte s a = s.flash.read a.toNat) ∧
  ∀ (tu : TranslationUnit) (m : Option SlotMap) (staging : StagingState) (c : TakenCommand),
    tu.table = identityTable →
      (c.kind ≠ .chipErase → ∃ targets, decideCommand tu m staging c = .allowed targets false) ∧
      (c.kind = .chipErase → decideCommand tu m staging c = .refused 0 .chipErase)

/-- R8: the recovery table over a valid slot map: the recovery area read-only at the bottom, the whole live-inactive
slot above it, and nothing above that. A program or erase into the slot is allowed while staging is OPEN
or VERIFYING, and one into the recovery area is refused for want of the right. -/
def Obligations.RecoveryTable : Prop :=
  ∀ (m : SlotMap) (selector : Slot) (a : LogicalAddress), m.valid = true →
    let rl := m.recoveryLength
    let sl := m.slotLength
    let inactive := (match selector with | .a => m.bBase | .b => m.aBase) * 65536
    (recoveryTable m).length = 16 ∧
    (recoveryTable m).getD 0 .held =
      ⟨rl * 16, .direct, ⟨true, false, false⟩, ⟨true, false, false⟩, m.recoveryBase * 16⟩ ∧
    (recoveryTable m).getD 1 .held =
      ⟨rl * 16 + sl * 16, .staging, ⟨true, true, true⟩, ⟨true, true, true⟩, 0⟩ ∧
    (∀ i, 2 ≤ i → i ≤ 15 →
      (recoveryTable m).getD i .held =
        ⟨rl * 16 + sl * 16, .none, ⟨false, false, false⟩, ⟨false, false, false⟩, 0⟩) ∧
    (a.toNat < rl * 65536 →
      ∃ f, f.index = 0 ∧
        translate (recoveryTable m) selector (some m) a = some (f, m.recoveryBase * 65536 + a.toNat)) ∧
    (rl * 65536 ≤ a.toNat → a.toNat < (rl + sl) * 65536 →
      ∃ f, f.index = 1 ∧
        translate (recoveryTable m) selector (some m) a = some (f, inactive + (a.toNat - rl * 65536))) ∧
    ((rl + sl) * 65536 ≤ a.toNat → translate (recoveryTable m) selector (some m) a = none) ∧
    ∀ (tu : TranslationUnit) (staging : StagingState) (kind : CommandKind) (page : List (Option Byte)),
      tu.table = recoveryTable m → tu.selector = selector → kind ≠ .chipErase →
      (rl * 65536 ≤ a.toNat → a.toNat < (rl + sl) * 65536 → staging = .opened ∨ staging = .verifying →
        ∃ targets, decideCommand tu (some m) staging ⟨kind, a, page⟩ = .allowed targets true) ∧
      (a.toNat < rl * 65536 → ∃ u, decideCommand tu (some m) staging ⟨kind, a, page⟩ = .refused u .noRight)

/-- R3, R202, R207: installing a manifest table copies end, target and base, grants the manifest's rights less P and E
of an ACTIVE entry, sets the live rights equal to them, and sets the selector, all as one event that changes nothing
else. -/
def Obligations.ManifestTableInstalled : Prop :=
  ∀ (manifest : Bytes) (x : Slot) (s : State),
    let t := installTable (manifestTable manifest) x s
    t = { s with tu.table := t.tu.table, tu.selector := x } ∧ t.tu.table.length = 16 ∧
    ∀ i, i < 16 →
      let e := t.tu.table.getD i .held
      let target := byteAt manifest (32 + 8 * i + 2)
      let rights := byteAt manifest (32 + 8 * i + 3)
      e.stop = leAt manifest (32 + 8 * i) 2 ∧ e.base = leAt manifest (32 + 8 * i + 4) 2 ∧
      (target.toNat ≤ 3 → targetCode e.target = target) ∧ e.live = e.granted ∧
      e.granted.r = rights.getLsbD 0 ∧
      e.granted.p = (rights.getLsbD 1 && decide (e.target ≠ .active)) ∧
      e.granted.e = (rights.getLsbD 2 && decide (e.target ≠ .active))

/-- R20: RESTRICT_REGION with an index of 0 to 15 and a mask of R, P and E removes the mask from that entry's live
rights, changes nothing else of the table, and reports index, granted and live rights; any other two-byte body is
refused with BAD_ARGUMENT, and so is one of another length. R21, R12: taken while a read transaction is in progress (a
frame POSTed before it, log 11), the read goes on, and where the mask removes R each further byte of that entry reads
0xFF. -/
def Obligations.RestrictRegionNarrows : Prop :=
  (∀ (s : State) (proof : Option Bytes) (body : Bytes), channelFree s = true → requestWellFormed proof body = true →
    body.length ≤ 259 →
    let i := (byteAt body 0).toNat
    let mask := byteAt body 1
    let e := s.tu.table.getD i .held
    let live : Rights :=
      ⟨e.live.r && !mask.getLsbD 0, e.live.p && !mask.getLsbD 1, e.live.e && !mask.getLsbD 2⟩
    (body.length = 2 → i ≤ 15 → mask.toNat ≤ 7 →
      exec (.restrictRegion proof body) s =
        .next (answered .restrictRegion .ok [byteAt body 0, rightsByte e.granted, rightsByte live]
          { s with tu.table := s.tu.table.set i { e with live := live } })) ∧
    (body.length ≠ 2 ∨ 15 < i ∨ 7 < mask.toNat →
      exec (.restrictRegion proof body) s = .next (answered .restrictRegion .badArgument [] s))) ∧
  ∀ (s : State) (x : ReadTxn) (proof : Option Bytes) (i mask : Byte), s.rstLow = false → s.bp.readTxn = some x →
    s.bp.fetchTxn = none → s.mc.state = .idle → requestWellFormed proof [i, mask] = true → i.toNat ≤ 15 →
    mask.toNat ≤ 7 →
    let e := s.tu.table.getD i.toNat .held
    let live : Rights :=
      ⟨e.live.r && !mask.getLsbD 0, e.live.p && !mask.getLsbD 1, e.live.e && !mask.getLsbD 2⟩
    ∃ t, exec (.restrictRegion proof [i, mask]) s = .next t ∧ t.bp = s.bp ∧
      t.tu = { s.tu with table := s.tu.table.set i.toNat { e with live := live } } ∧ t.fp = { s.fp with sent := [] } ∧
      holdsAnswer .restrictRegion .ok [i, rightsByte e.granted, rightsByte live] t = true ∧
      ∀ a f p, translate x.table x.selector s.store.slotMap a = some (f, p) → f.index = i.toNat →
        mask.getLsbD 0 = true → txnByte t x a = 0xFF

/-! ### Part resets and the boot path (chapters 3 and 5) -/

/-- R66, R149, R150, R106, R65: POWER_ON and PIN_RESET give every block its part-reset values and void what was in
progress. A write in progress leaves its records as they were or as written; bytes outside the range of a running
command keep their values. The work of a POWER_ON begins at once unless RST_N is low (log 27); a PIN_RESET holds the
part until RST_N_RELEASE. -/
def Obligations.PowerOnAndPinReset : Prop :=
  ∀ s : State,
    (∃ t, exec .powerOn s = .next t ∧ blocksReset t = true ∧ t.rstLow = s.rstLow ∧ t.clock = s.clock ∧
      t.pending = s.pending ∧
      (t.store = s.store ∨ ∃ w, s.writes.current = some w ∧ t.store = s.store.apply w.contents) ∧
      (∀ p, (∀ o, s.fp.op = some o → o.phase ≠ .queued → inHand o p = false) →
        t.flash.read p = s.flash.read p) ∧
      (s.rstLow = true → t.fp = .afterReset ∧ t.writes = ⟨none, none⟩ ∧ t.mc = .afterReset) ∧
      (s.rstLow = false → t.store.failures ≠ 8 →
        t.fp = { FlashPort.afterReset with prep := .recovery, sent := [.resetEnable, .reset] } ∧
        t.writes = ⟨none, none⟩ ∧ t.mc = .afterReset) ∧
      (s.rstLow = false → t.store.failures = 8 →
        t.fp = { FlashPort.afterReset with prep := .afterWrite } ∧
        t.writes = ⟨some ⟨.partReset, .lockoutLowering⟩, none⟩ ∧
        t.mc = { Channel.afterReset with state := .working .resetWrite })) ∧
    ∃ t, exec .pinReset s = .next t ∧ blocksReset t = true ∧ t.rstLow = true ∧ t.clock = s.clock ∧
      t.pending = s.pending ∧
      (t.store = s.store ∨ ∃ w, s.writes.current = some w ∧ t.store = s.store.apply w.contents) ∧
      (∀ p, (∀ o, s.fp.op = some o → o.phase ≠ .queued → inHand o p = false) →
        t.flash.read p = s.flash.read p) ∧
      t.fp = .afterReset ∧ t.writes = ⟨none, none⟩ ∧ t.mc = .afterReset

/-- R106, R150, R65, R98, R103: the way from a held reset to the release in BLANK: RST_N_RELEASE resets the flash (or
first writes the count as 7), FLASH_RESET_RECOVERY_END issues the identification read, and DOWNSTREAM_ID_CAPTURE stores
the two bytes, installs the identity table and releases SOC_RUN. An event that is not due changes nothing (log 5), and
neither happens once a restart is due (log 6). -/
def Obligations.PreparationAndBlankRelease : Prop :=
  ∀ s : State,
    (s.rstLow = true → s.store.failures ≠ 8 →
      exec .rstNRelease s =
        .next { s with rstLow := false, fp.prep := .recovery, fp.sent := [.resetEnable, .reset] }) ∧
    (s.rstLow = true → s.store.failures = 8 →
      exec .rstNRelease s =
        .next
          { s with
            rstLow := false
            fp.prep := .afterWrite
            fp.sent := []
            writes := ⟨some ⟨.partReset, .lockoutLowering⟩, none⟩
            mc.state := .working .resetWrite }) ∧
    (s.rstLow = false → exec .rstNRelease s = .next { s with fp.sent := [] }) ∧
    (s.fp.prep = .recovery → restartDue s = false →
      exec .flashResetRecoveryEnd s =
        .next { s with fp.prep := .identifying, fp.sent := [.readIdentification] }) ∧
    (s.fp.prep ≠ .recovery → exec .flashResetRecoveryEnd s = .next { s with fp.sent := [] }) ∧
    (s.fp.prep ≠ .identifying → ∀ mf ty, exec (.downstreamIdCapture mf ty) s = .next { s with fp.sent := [] }) ∧
    (s.fp.prep = .identifying → s.store.lifecycle = .blank → enginesFree s = true → flashIdle s = true →
      restartDue s = false → ∀ mf ty,
      exec (.downstreamIdCapture mf ty) s =
        .next
          { s with
            bp.idManufacturer := if s.flash.present then mf else 0xFF
            bp.idType := if s.flash.present then ty else 0xFF
            fp.prep := .ready
            fp.sent := []
            tu.table := identityTable
            tu.selector := .a
            isc.boot := ⟨.unverified, .a, none, none⟩
            isc.stage := .released
            socRun := true })

/-- R200, R67, R149, R153: RESTART is taken for a restart with no response; RESTART_RESET makes it once no operation is
in flight and no write in progress, with the provisioning write first where FINISH_PROVISIONING caused it. Where it is not
due it changes nothing: the model's choice (log 5). The end of a record write or of an operation that a restart waited for
does its own effect and starts nothing more before the reset, which is a step of its own by the model's choice (log 6): where
another event of the old state comes between, it changes nothing. -/
def Obligations.RestartMadeWhenNothingRuns : Prop :=
  ∀ s : State,
    (∀ proof, channelFree s = true → requestWellFormed proof [] = true →
      exec (.restart proof []) s = .next (accepted (requestFrame .restart proof []) (.restart none) s)) ∧
    (∀ proof body, channelFree s = true → requestWellFormed proof body = true → body ≠ [] → body.length ≤ 259 →
      exec (.restart proof body) s = .next (answered .restart .badArgument [] s)) ∧
    (s.mc.state = .working (.restart none) → s.fp.op = none → s.writes.current = none →
      exec .restartReset s =
        .next
          { State.reset with
            flash := s.flash
            store := s.store
            rstLow := s.rstLow
            clock := s.clock
            draws := s.draws
            pending := s.pending }) ∧
    (∀ v, s.mc.state = .working (.restart (some v)) → s.fp.op = none → s.writes.current = none →
      exec .restartReset s =
        .next
          { State.reset with
            fp := { FlashPort.afterReset with prep := .afterWrite }
            writes := ⟨some ⟨.partReset, .provisioning v⟩, none⟩
            mc := { Channel.afterReset with state := .working .resetWrite }
            flash := s.flash
            store := s.store
            rstLow := s.rstLow
            clock := s.clock
            draws := s.draws
            pending := s.pending }) ∧
    ((∀ v, s.mc.state ≠ .working (.restart v)) ∨ s.fp.op ≠ none ∨ s.writes.current ≠ none →
      exec .restartReset s = .next { s with fp.sent := [] }) ∧
    (∀ c, restartDue s = true →
      (c ∈ [Instr.flashResetRecoveryEnd, .writeVerdict, .operationCompletion, .operationTimeout, .chunkDelivery, .chunkEnd,
        .signatureCompletion, .storeWriteEnd] ∨ ∃ mf ty, c = .downstreamIdCapture mf ty) →
      exec c s = .next { s with fp.sent := [] }) ∧
    (restartDue s = true ↔
      (∃ v, s.mc.state = .working (.restart v)) ∧ s.fp.op = none ∧ s.writes.current = none) ∧
    ∀ v, s.mc.state = .working (.restart v) →
      (∀ w, s.fp.op = none → s.writes.current = some w →
        exec .storeWriteEnd s =
          .next { s with store := s.store.apply w.contents, writes.current := none, fp.sent := [] }) ∧
      ∀ o, s.fp.op = some o → o.phase = .running → o.kind ≠ .eraseSeries ∨ 15 ≤ o.index →
        s.flash.present = true → s.writes.current = none →
        exec .operationCompletion s =
          .next
            { s with
              flash := s.flash.finish o
              fp.op := none
              fp.sent := [.readBusy]
              bp.writeRecord := .none }

/-- R99, R85, R92: the first step of the boot scan, by the state of the persistent-active slot X and of the other slot:
the slot record write that comes first, or the scan of X at once. -/
def Obligations.BootScanFirstStep : Prop :=
  ∀ (s : State) (r : SlotRecord) (m : SlotMap) (mf ty : Byte),
    s.fp.prep = .identifying → s.store.lifecycle ≠ .blank → s.store.slotRecord = some r →
    s.store.slotMap = some m → enginesFree s = true → flashIdle s = true → storeFree s = true →
    busFree s = true → s.mc.state = .idle →
    let x := r.active
    let y := x.other
    let named : State :=
      { s with
        bp.idManufacturer := if s.flash.present then mf else 0xFF
        bp.idType := if s.flash.present then ty else 0xFF
        fp.prep := .ready
        fp.sent := []
        isc.bootX := x
        isc.bootFallback := false
        isc.bootXTrial := false }
    (∀ n, r.stateOf x = .trial (n + 1) →
      exec (.downstreamIdCapture mf ty) s =
        .next
          { named with
            isc.bootXTrial := true
            isc.stage := .attemptWrite
            writes.current := some ⟨.slotController, .slotRecord (r.withState x (.trial n))⟩ }) ∧
    (r.stateOf x = .trial 0 → r.stateOf y = .fallback →
      exec (.downstreamIdCapture mf ty) s =
        .next
          { named with
            isc.bootXTrial := true
            isc.stage := .revertWrite
            writes.current :=
              some ⟨.slotController,
                .slotRecord { (r.withState x .rejected).withState y .valid with active := y }⟩ }) ∧
    (r.stateOf x = .trial 0 → r.stateOf y ≠ .fallback →
      exec (.downstreamIdCapture mf ty) s =
        .next
          { named with
            isc.bootXTrial := true
            isc.stage := .exhaustedWrite
            writes.current := some ⟨.slotController, .slotRecord (r.withState x .failed)⟩ }) ∧
    (isTrial (r.stateOf x) = false →
      exec (.downstreamIdCapture mf ty) s =
        .next
          { named with
            isc.stage := .scanning
            isc.scan := { ScanRecord.afterReset with owner := .bootScan, slot := x, phase := .manifestRead }
            fp.chunk := some ⟨.bootScan, m.slotStart x, 544, true⟩
            fp.chunkBuffer := []
            fp.sent := [.read (m.slotStart x)] })

/-- R99 to R102, R104, R130, R131, R133, R150: what follows at each end of the boot scan's work. A slot record write leads
to a scan, to the TRIAL_REVERT digest, to recovery, or to the lanes; a reset's own write to the preparation. An event
digest leads to its extend of lane 0: a SCAN_FAILURE tagged with its reason and segment, a TRIAL_REVERT tagged
ATTEMPTS_EXHAUSTED. A fold becomes the lane's value and its record the newest of the log; then the fallback scan follows,
the revert, FAILED or recovery, or the next measured segment and at last the release. -/
def Obligations.BootWritesEnd : Prop :=
  ∀ (s : State) (m : SlotMap), busFree s = true → flashIdle s = true → s.de.channel = none → s.su.scan = none →
    s.su.channel = none → s.writes.waiting = none → s.store.slotMap = some m → s.lanes.length = 8 →
    (∀ w : StoreWrite, s.de.scan = none → s.de.absorbing = none →
      (∀ r, w = .slotRecord r → s.mc.state = .idle → s.writes.current = some ⟨.slotController, w⟩ →
        let written : State := { s with store.slotRecord := some r, writes.current := none, fp.sent := [] }
        (s.isc.stage = .attemptWrite →
          exec .storeWriteEnd s = .next (bootScanBegun m s.isc.bootX false written)) ∧
        (s.isc.stage = .revertWrite →
          exec .storeWriteEnd s =
            .next
              { written with
                isc.stage := .revertDigest
                de.scan := some (bufferItem .trialRevertEvent [slotCode s.isc.bootX, slotCode s.isc.bootX.other])
                de.scanFirst := true
                de.owed := false
                de.absorbing := some .scan }) ∧
        (s.isc.stage = .exhaustedWrite ∨ s.isc.stage = .failedWrite →
          exec .storeWriteEnd s = .next (recoveryEntered m r.active written)) ∧
        (s.isc.stage = .failureRevertWrite →
          exec .storeWriteEnd s = .next (bootScanBegun m s.isc.bootX.other true written)) ∧
        (∀ manifest, s.isc.stage = .passWrite → s.isc.scan.manifest = some manifest → s.cred = none →
          s.mc.response = none →
          ∃ t, exec .storeWriteEnd s = .next t ∧ measuredFrom manifest 0 written t)) ∧
      (s.writes.current = some ⟨.partReset, w⟩ → s.mc.state = .working .resetWrite →
        exec .storeWriteEnd s =
          .next
            { s with
              store := s.store.apply w
              writes.current := none
              mc.state := .idle
              fp.prep := .recovery
              fp.sent := [.resetEnable, .reset] })) ∧
    (∀ r, s.writes.current = none → s.mc.state = .idle → s.cred = none → s.mc.response = none →
      s.store.slotRecord = some r → s.de.absorbing = some .scan →
      let freed : State := { s with de.scan := none, de.absorbing := none, de.owed := false, fp.sent := [] }
      let lane0 := s.lanes.getD 0 .afterReset
      (∀ input reason k, s.isc.stage = .failureDigest → s.de.scan = some (bufferItem .scanFailureEvent input) →
        1 ≤ input.length → input.length ≤ 256 → s.isc.scan.result = some (.failure reason k) →
        lane0.log.length < 16 →
        exec .chunkEnd s =
          .next (foldBegun 0
            ⟨sha256 input, .scanFailure, BitVec.ofNat 32 ((scanReasonCode reason).toNat + 256 * k)⟩ .failureFold
            freed)) ∧
      (∀ input, s.isc.stage = .revertDigest → s.de.scan = some (bufferItem .trialRevertEvent input) →
        1 ≤ input.length → input.length ≤ 256 → lane0.log.length < 16 →
        exec .chunkEnd s = .next (foldBegun 0 ⟨sha256 input, .trialRevert, 0x0B⟩ .revertFold freed)) ∧
      ∀ (k : Nat) (x : PendingExtend), k < 8 → (s.lanes.getD k .afterReset).extending = some x →
        s.de.scan = some (bufferItem .bootExtend (x.oldValue ++ x.record.digest)) →
        x.oldValue.length + x.record.digest.length = 64 →
        let lane := s.lanes.getD k .afterReset
        let folded : State :=
          { freed with
            lanes := s.lanes.set k ⟨sha256 (x.oldValue ++ x.record.digest), lane.log ++ [x.record], none⟩ }
        let y := s.isc.scan.slot
        let reverts := y = s.isc.bootX ∧ s.isc.bootXTrial = true ∧ r.stateOf y.other = .fallback
        (s.isc.stage = .revertFold → k = 0 →
          exec .chunkEnd s = .next (bootScanBegun m s.isc.bootX.other true folded)) ∧
        (s.isc.stage = .failureFold → k = 0 → reverts →
          exec .chunkEnd s =
            .next
              { folded with
                isc.stage := .failureRevertWrite
                writes.current :=
                  some ⟨.slotController,
                    .slotRecord { (r.withState y .rejected).withState y.other .valid with active := y.other }⟩ }) ∧
        (s.isc.stage = .failureFold → k = 0 → ¬ reverts → r.stateOf y = .failed →
          exec .chunkEnd s = .next (recoveryEntered m r.active folded)) ∧
        (s.isc.stage = .failureFold → k = 0 → ¬ reverts → r.stateOf y ≠ .failed →
          exec .chunkEnd s =
            .next
              { folded with
                isc.stage := .failedWrite
                writes.current := some ⟨.slotController, .slotRecord (r.withState y .failed)⟩ }) ∧
        ∀ j manifest, s.isc.stage = .segmentFold j → s.isc.scan.manifest = some manifest →
          (manifestSegment manifest j).measuredLane = some k →
          ∃ t, exec .chunkEnd s = .next t ∧ measuredFrom manifest (j + 1) folded t) ∧
    (∀ r, s.store.apply (.slotRecord r) = { s.store with slotRecord := some r }) ∧
    s.store.apply .lockoutLowering = { s.store with failures := 7 } ∧
    ∀ v, s.store.apply (.provisioning v) =
      { s.store with
        lifecycle := .provisioned
        slotRecord := some ⟨.a, .valid, .empty⟩
        floor := some v
        failures := 0 }

/-! ### The Boot Port (chapter 2) -/

/-- R29, R30, R10, R11, R25: while no operation is in flight and no restart is due, the three reads deliver the same
bytes: byte k is that of the logical address a + k, with the wrap after 0xFFFFFF, on the lines of R43, one for each byte
time that the clocks after the address, and the dummy byte where there is one, begin. A transaction whose leading bytes are
not whole delivers nothing. A read changes only what serves it. R63, R108: where the first byte is readable, a READING
chunk request is preempted. Once a restart is due a read delivers nothing: R67 makes the reset at once, and that a read can
fall between the due moment and RESTART_RESET at all is the model's choice (log 6). -/
def Obligations.ReadsDeliverLogicalBytes : Prop :=
  ∀ (s : State) (clocks : List Clock) (n : Nat) (reply : SuspendReply), busFree s = true → s.fp.op = none →
    let mode := s.bp.laneMode
    let perByte := clocksPerByte (receiveLines mode)
    let sent := receivedBytes mode clocks
    let data (leading : Nat) (lines : Lines) :=
      (List.range (bytesBegun lines (clocks.length - leading * perByte + n))).map fun k =>
        logicalByte s (addressOf sent + BitVec.ofNat 24 k)
    let served (t : State) (bytes : Bytes) (lines : Lines) : Prop :=
      t = { s with
            bp := { s.bp with out := bytes, outLines := lines, readTxn := t.bp.readTxn }
            fp := { s.fp with run := t.fp.run, chunk := t.fp.chunk, chunkBuffer := t.fp.chunkBuffer, sent := t.fp.sent }
            isc := { s.isc with staging := { s.isc.staging with preemptions := t.isc.staging.preemptions } }
            draws := t.draws } ∧
        t.bp.readTxn.isSome = true ∧
        (∀ f p, 3 ≤ sent.length → restartDue s = false →
          translate s.tu.table s.tu.selector s.store.slotMap (addressOf sent) = some (f, p) → f.region.live.r = true →
          chunkPreempted s t) ∧
        ((∀ c, s.fp.chunk = some c → c.reading = false) → t.fp.chunk = s.fp.chunk ∧ t.isc.staging = s.isc.staging)
    (restartDue s = false →
      (3 ≤ sent.length →
        ∃ t, exec (.read clocks n reply) s = .next t ∧
          served t (data 3 (dataOutLines mode false)) (dataOutLines mode false)) ∧
      (4 ≤ sent.length →
        (∃ t, exec (.fastRead clocks n reply) s = .next t ∧
          served t (data 4 (dataOutLines mode false)) (dataOutLines mode false)) ∧
        ∃ t, exec (.quadOutputRead clocks n reply) s = .next t ∧
          served t (data 4 (dataOutLines mode true)) (dataOutLines mode true))) ∧
    (sent.length < 3 ∨ restartDue s = true →
      ∃ t, exec (.read clocks n reply) s = .next t ∧ served t [] (dataOutLines mode false)) ∧
    (sent.length < 4 ∨ restartDue s = true →
      (∃ t, exec (.fastRead clocks n reply) s = .next t ∧ served t [] (dataOutLines mode false)) ∧
      ∃ t, exec (.quadOutputRead clocks n reply) s = .next t ∧ served t [] (dataOutLines mode true))

/-- R30, R54, R60, R12, R31, R51: READ_TRANSACTION_END clocks further bytes, which follow those already driven, each with
the table and selector of the transaction's start and the live rights as they stand, and the transaction ends: no read is
in progress and the run is over. While an operation is SUSPENDED a byte of its page, sector or block is any that R51 allows,
and every other byte, as every byte while it is QUEUED, is the flash's; the operation runs on from the end. A transaction
that never held the flash ends without any other step; with none in progress nothing happens (log 5). Once a restart is due
an open read supplies no further byte (log 6), so the first clause is about the time before it. R53, R57, R59, R67: an open
read that has met no readable byte leaves a RUNNING operation alone to its end; the first readable byte of the further ones
suspends it, as ReadSuspendsAndEndResumes says of a read's own bytes, and the end resumes it or starts its next step. -/
def Obligations.ReadTransactionEndReleases : Prop :=
  ∀ (s : State) (n : Nat) (reply : SuspendReply),
    (∀ x, s.bp.readTxn = some x → s.fp.op = none → restartDue s = false → x.streaming = true → x.dataPhase = true →
      ∃ t, exec (.readTransactionEnd n reply) s = .next t ∧
        t.bp.out = s.bp.out ++
          (List.range (bytesBegun x.dataLines (x.dataClocks + n) - bytesBegun x.dataLines x.dataClocks)).map
            (fun k => txnByte s x (x.nextAddress + BitVec.ofNat 24 k)) ∧
        t.bp.readTxn = none ∧ t.bp.resetEnable = false ∧ t.fp.run = none ∧ t.fp.op = none ∧
        t.flash = s.flash ∧ t.store = s.store ∧ t.tu = s.tu ∧ t.bp.wel = s.bp.wel ∧
        t.bp.writeRecord = s.bp.writeRecord ∧ t.mc = s.mc ∧ t.lanes = s.lanes) ∧
    (∀ x o, s.bp.readTxn = some x → s.fp.op = some o → o.phase ≠ .running → x.streaming = true → x.dataPhase = true →
      let count := bytesBegun x.dataLines (x.dataClocks + n) - bytesBegun x.dataLines x.dataClocks
      ∃ t bytes, exec (.readTransactionEnd n reply) s = .next t ∧ t.bp.out = s.bp.out ++ bytes ∧
        bytes.length = count ∧
        (∀ k, k < count → shownByte s x.table x.selector o (x.nextAddress + BitVec.ofNat 24 k) (bytes.getD k 0)) ∧
        t.bp.readTxn = none ∧ t.fp.run = none ∧ t.flash = s.flash ∧ t.store = s.store ∧ t.tu = s.tu ∧
        t.bp.writeRecord = s.bp.writeRecord ∧
        (x.holdsFlash = true →
          t.fp.op = some { o with phase := .running, runningTime := if o.phase = .queued then 0 else o.runningTime })) ∧
    (∀ x o, s.bp.readTxn = some x → s.fp.op = some o → o.phase = .running → x.holdsFlash = false → s.fp.run = none →
      x.streaming = true → x.dataPhase = true →
      let count := bytesBegun x.dataLines (x.dataClocks + n) - bytesBegun x.dataLines x.dataClocks
      let address (k : Nat) := x.nextAddress + BitVec.ofNat 24 k
      let readableAt (k p : Nat) : Prop :=
        ∃ f, translate x.table x.selector s.store.slotMap (address k) = some (f, p) ∧
          (s.tu.table.getD f.index .held).live.r = true
      ((∀ k p, k < count → ¬ readableAt k p) →
        exec (.readTransactionEnd n reply) s =
          .next
            { s with
              bp.readTxn := none
              bp.resetEnable := false
              bp.out := s.bp.out ++ List.replicate count 0xFF
              fp.run := none
              fp.sent := [] }) ∧
      ∀ j p undecided last, j < count → readableAt j p → (∀ k q, k < j → ¬ readableAt k q) →
        suspendAnswer s reply undecided last →
        let ended := last.suspended.getLsbD 7 = false
        let final := ended ∧ (o.kind ≠ .eraseSeries ∨ 15 ≤ o.index)
        let asked := suspendCommands undecided last
        let resets := (∃ v, s.mc.state = .working (.restart v)) ∧ s.writes.current = none ∧ final
        ∃ t bytes, exec (.readTransactionEnd n reply) s = .next t ∧ t.bp.out = s.bp.out ++ bytes ∧
          t.bp.readTxn = none ∧ t.fp.run = none ∧ t.store = s.store ∧ t.tu = s.tu ∧
          t.flash = (if ended then s.flash.finish o else s.flash) ∧
          (final → t.fp.op = none ∧ t.bp.writeRecord = .none) ∧
          (resets → t.fp.sent = asked ∧ bytes = List.replicate j 0xFF) ∧
          (¬ resets → asked ++ [FpCommand.read p] <+: t.fp.sent ∧ bytes.length = count) ∧
          (¬ ended →
            t.fp.op = some { o with phase := .running } ∧ t.bp.writeRecord = s.bp.writeRecord ∧
            [FpCommand.resume] <:+ t.fp.sent ∧
            ∀ k, k < count →
              shownByte s x.table x.selector { o with phase := .suspended } (address k) (bytes.getD k 0)) ∧
          (ended → ¬ resets →
            ∀ k, k < count → bytes.getD k 0 = txnByte { s with flash := s.flash.finish o } x (address k)) ∧
          (ended → ¬ final →
            t.fp.op = some { o with index := o.index + 1, phase := .running, runningTime := 0 } ∧
            [FpCommand.writeEnable, .sectorErase (o.targets.getD (o.index + 1) 0)] <:+ t.fp.sent)) ∧
    (∀ x, s.bp.readTxn = some x → x.holdsFlash = false → x.streaming = false ∨ x.dataPhase = false →
      exec (.readTransactionEnd n reply) s =
        .next { s with bp.readTxn := none, bp.resetEnable := false, fp.run := none, fp.sent := [] }) ∧
    (s.bp.readTxn = none → exec (.readTransactionEnd n reply) s = .next { s with fp.sent := [] })

/-- R53, R59, R60, R57, R203, R31, R51: each of the three reads suspends a RUNNING operation where its first readable byte
begins a run, which is at once where that is the byte of the address, and reads both status bytes, again and again until a
pair decides: bit 7 of the second set shows the command suspended, else bit 0 of the first clear shows it ended. An absent
flash shows it suspended at once. A suspended operation stays so for the transaction and resumes at its end; a byte of its
page, sector or block reads as R51 allows, every other byte as the flash holds it. An ended one completes, or a series moves
to its next step, which starts at the end of the transaction, and the bytes are those it left. A read that supplies no
readable byte suspends nothing. R67: where the end is the one a pending restart waited for, with no write in progress, the
read begins no run and delivers nothing further; the reset itself is the later RESTART_RESET by the model's choice (log 6).
While the restart waits for a record write, the read goes on as at any other time. -/
def Obligations.ReadSuspendsAndEndResumes : Prop :=
  ∀ (s : State) (clocks : List Clock) (n k : Nat) (reply reply' : SuspendReply) (o : FlightOp),
    let mode := s.bp.laneMode
    let sent := receivedBytes mode clocks
    let address (j : Nat) := addressOf sent + BitVec.ofNat 24 j
    let readableAt (j p : Nat) : Prop :=
      ∃ f, translate s.tu.table s.tu.selector s.store.slotMap (address j) = some (f, p) ∧ f.region.live.r = true
    busFree s = true → 3 ≤ sent.length → s.fp.op = some o → o.phase = .running →
    ∀ (c : Instr) (leading : Nat) (lines : Lines),
      (c, leading, lines) ∈
        [(Instr.read clocks n reply, 3, dataOutLines mode false), (.fastRead clocks n reply, 4, dataOutLines mode false),
          (.quadOutputRead clocks n reply, 4, dataOutLines mode true)] →
      let count :=
        if leading ≤ sent.length then
          bytesBegun lines (clocks.length - leading * clocksPerByte (receiveLines mode) + n)
        else 0
      ((∀ j p, j = 0 ∨ j < count → ¬ readableAt j p) →
        ∃ t, exec c s = .next t ∧ t.bp.out = List.replicate count 0xFF ∧ t.fp.op = some o ∧ t.fp.sent = [] ∧
          t.fp.chunk = s.fp.chunk ∧ t.flash = s.flash ∧ t.bp.writeRecord = s.bp.writeRecord ∧ t.store = s.store ∧
          t.tu = s.tu ∧ t.mc = s.mc) ∧
      ∀ i p undecided last, i = 0 ∨ i < count → readableAt i p → (∀ j q, j < i → ¬ readableAt j q) →
        suspendAnswer s reply undecided last →
        let ended := last.suspended.getLsbD 7 = false
        let final := ended ∧ (o.kind ≠ .eraseSeries ∨ 15 ≤ o.index)
        let asked := suspendCommands undecided last
        let resets := (∃ v, s.mc.state = .working (.restart v)) ∧ s.writes.current = none ∧ final
        (¬ resets →
          ∃ t u, exec c s = .next t ∧ exec (.readTransactionEnd k reply') t = .next u ∧
            u.bp.readTxn = none ∧ u.fp.run = none ∧ asked ++ [FpCommand.read p] <+: t.fp.sent ∧
            t.bp.out.length = count ∧
            (¬ ended →
              t.fp.op = some { o with phase := .suspended } ∧ t.bp.writeRecord = s.bp.writeRecord ∧ t.flash = s.flash ∧
              (∀ j, j < count →
                shownByte s s.tu.table s.tu.selector { o with phase := .suspended } (address j) (t.bp.out.getD j 0)) ∧
              u.fp.op = some { o with phase := .running } ∧ u.flash = s.flash ∧ [FpCommand.resume] <:+ u.fp.sent) ∧
            (ended →
              ∀ j, j < count → t.bp.out.getD j 0 = logicalByte { s with flash := s.flash.finish o } (address j)) ∧
            (final →
              t.fp.op = none ∧ t.bp.writeRecord = .none ∧ t.flash = s.flash.finish o ∧ u.fp.op = none ∧
              FpCommand.resume ∉ u.fp.sent) ∧
            (ended → ¬ final →
              t.fp.op = some { o with index := o.index + 1, phase := .queued } ∧ t.flash = s.flash.finish o ∧
              u.fp.op = some { o with index := o.index + 1, phase := .running, runningTime := 0 } ∧
              [FpCommand.writeEnable, .sectorErase (o.targets.getD (o.index + 1) 0)] <:+ u.fp.sent)) ∧
        (resets →
          ∃ t, exec c s = .next t ∧ t.fp.sent = asked ∧ t.bp.out = List.replicate i 0xFF ∧
            t.fp.run = (if i = 0 then s.fp.run else none) ∧ t.fp.op = none ∧ t.bp.writeRecord = .none ∧
            t.flash = s.flash.finish o)

/-- R39, R40, R203: READ_STATUS returns the status byte for each byte time its clocks begin: BUSY at bit 0, WEL at bit 1,
EVENT at bit 5, RSP_READY at bit 6, MGMT_BUSY at bit 7, and zero at the remaining positions. That all bytes of one READ_STATUS
are equal is the model's (log 20): each is composed at its own byte time, and no other command falls between. -/
def Obligations.StatusByteShowsFiveIndications : Prop :=
  ∀ (s : State) (n : Nat), busFree s = true →
    exec (.readStatus n) s =
      .next
        { afterTransaction s with
          bp.out := List.replicate (bytesBegun (dataOutLines s.bp.laneMode false) n) (statusByte s)
          bp.outLines := dataOutLines s.bp.laneMode false } ∧
    (statusByte s).getLsbD 0 = decide (s.bp.writeRecord ≠ .none) ∧ (statusByte s).getLsbD 1 = s.bp.wel ∧
    (statusByte s).getLsbD 2 = false ∧ (statusByte s).getLsbD 3 = false ∧ (statusByte s).getLsbD 4 = false ∧
    (statusByte s).getLsbD 5 = (s.mc.flags.scanDone || s.mc.flags.violation || s.mc.flags.bootNotice) ∧
    (statusByte s).getLsbD 6 = s.mc.response.isSome ∧ (statusByte s).getLsbD 7 = decide (s.mc.state ≠ .idle)

/-- R41: READ_ID returns the manufacturer byte, the type byte and 0x18, then 0xFF for every further byte, and changes
nothing (but that, like every transaction, it clears the reset-enable state, R46). -/
def Obligations.ReadIdReturnsThreeBytes : Prop :=
  ∀ (s : State) (n : Nat), busFree s = true →
    ∃ out, out.length = bytesBegun (dataOutLines s.bp.laneMode false) n ∧
      (∀ k, k < out.length →
        out.getD k 0 =
          if k = 0 then s.bp.idManufacturer else if k = 1 then s.bp.idType else if k = 2 then 0x18 else 0xFF) ∧
      exec (.readId n) s =
        .next { afterTransaction s with bp.out := out, bp.outLines := dataOutLines s.bp.laneMode false }

/-- R37, R38, R44: on a byte boundary WRITE_ENABLE sets WEL with the write record NONE and is ignored otherwise;
WRITE_DISABLE clears it in any state; ENTER_QUAD_ALL and EXIT_QUAD_ALL set the lane mode in any state. R25, R43, R45: what
carries them. Bytes go over BP_IO0 in eight clocks, high bit first, or over BP_IO0 to 3 in two, high group first, as the
lane mode says, and the first byte is the command byte. High lines spell 0xFF, EXIT_QUAD_ALL, in either mode; a byte sent on
one line is read in QUAD_ALL as another byte with six clocks over. R26, R203: the eighteen command bytes, and a
transaction whose clocks spell one acts as its row (log 30). -/
def Obligations.LatchAndLaneModeCommands : Prop :=
  (∀ (s : State) (phases extra : List Clock), busFree s = true → onBoundary s.bp.laneMode (phases ++ extra) = true →
    (s.bp.writeRecord = .none →
      exec (.writeEnable phases extra) s = .next { afterTransaction s with bp.wel := true }) ∧
    (s.bp.writeRecord ≠ .none → exec (.writeEnable phases extra) s = .next (afterTransaction s)) ∧
    exec (.writeDisable phases extra) s = .next { afterTransaction s with bp.wel := false } ∧
    exec (.enterQuadAll phases extra) s = .next { afterTransaction s with bp.laneMode := .quadAll } ∧
    exec (.exitQuadAll phases extra) s = .next { afterTransaction s with bp.laneMode := .single }) ∧
  (∀ (mode : LaneMode) (bytes : Bytes),
    receivedBytes mode (sendClocks mode bytes) = bytes ∧ onBoundary mode (sendClocks mode bytes) = true ∧
    ∀ b rest, bytes = b :: rest → commandByte mode (sendClocks mode bytes) = some (b, sendClocks mode rest)) ∧
  (∀ b : Byte,
    (sendClocks .single [b]).map (fun c => c.getLsbD 0) = (List.range 8).map (fun i => b.getLsbD (7 - i)) ∧
    (sendClocks .quadAll [b]).map BitVec.toNat = [b.toNat / 16, b.toNat % 16] ∧
    commandByte .single (sendClocks .quadAll [b]) = none ∧
    commandByte .quadAll (sendClocks .single [b]) =
      some ((if b.getLsbD 7 then 0x10 else 0) + (if b.getLsbD 6 then 0x01 else 0), (sendClocks .single [b]).drop 2)) ∧
  (∀ mode, commandByte mode (List.replicate (if mode = .single then 8 else 2) 0xF) = some (0xFF, [])) ∧
  ([(0x03, .read), (0x0B, .fastRead), (0x6B, .quadOutputRead), (0x06, .writeEnable), (0x04, .writeDisable),
    (0x05, .readStatus), (0x9F, .readId), (0x02, .pageProgram), (0x20, .sectorErase), (0xD8, .blockErase),
    (0xC7, .chipErase 0xC7), (0x60, .chipErase 0x60), (0x66, .resetEnable), (0x99, .reset), (0x38, .enterQuadAll),
    (0xFF, .exitQuadAll), (0xD1, .managementPost), (0xD2, .managementFetch)] : List (Byte × BusCommand)).all
    (fun x => busCommandOfByte x.1 = some x.2) = true ∧
  (∀ b : Byte, (busCommandOfByte b).isSome = true →
    b ∈ ([0x03, 0x0B, 0x6B, 0x06, 0x04, 0x05, 0x9F, 0x02, 0x20, 0xD8, 0xC7, 0x60, 0x66, 0x99, 0x38, 0xFF, 0xD1, 0xD2] :
      Bytes)) ∧
  ∀ (s : State) (clocks rest : List Clock) (reply : SuspendReply) (b : Byte) (c : BusCommand),
    commandByte s.bp.laneMode clocks = some (b, rest) → busCommandOfByte b = some c →
    exec (.ignoredTransaction ⟨clocks, reply⟩) s = exec (busInstr c rest reply) s

/-- R47, R46: a RESET taken with the reset-enable state set clears WEL, the lane mode and the reset-enable state, leaves
the page buffer and the intake empty, and changes nothing else; with the state clear it is ignored. RESET_ENABLE sets
the state, and any other transaction between the two undoes it, whatever the transaction is: a RESET after it makes no
port reset. -/
def Obligations.PortResetNeedsConsecutivePair : Prop :=
  ∀ (s : State) (phases extra : List Clock), busFree s = true → onBoundary s.bp.laneMode (phases ++ extra) = true →
    exec (.resetEnable phases extra) s = .next { afterTransaction s with bp.resetEnable := true } ∧
    (s.bp.resetEnable = true →
      exec (.reset phases extra) s =
        .next
          { afterTransaction s with
            bp.wel := false
            bp.laneMode := .single
            bp.resetEnable := false
            bp.pageBuffer := List.replicate 256 none
            bp.intakeCount := 0
            bp.intake := [] }) ∧
    (s.bp.resetEnable = false → exec (.reset phases extra) s = .next (afterTransaction s)) ∧
    ∀ (c : Instr) (phases' extra' : List Clock), beginsTransaction c = true →
      (∀ x, spells s.bp.laneMode c ≠ some (.resetEnable, x)) → (∀ x, spells s.bp.laneMode c ≠ some (.reset, x)) →
      ∃ u v, runCommands [.resetEnable phases extra, c] s = some u ∧ exec (.reset phases' extra') u = .next v ∧
        v.bp.resetEnable = false ∧ v.bp.wel = u.bp.wel ∧ v.bp.laneMode = u.bp.laneMode ∧
        v.bp.pageBuffer = u.bp.pageBuffer ∧ v.bp.intakeCount = u.bp.intakeCount ∧ v.bp.intake = u.bp.intake ∧
        v.bp.writeRecord = u.bp.writeRecord

/-- R106: while RST_N is low the Boot Port takes and serves nothing (log 9). R26, R27, R33: an ignored transaction, a
taken command that does not end well formed, and a program or erase with WEL clear or BUSY shown have no effect but the
clearing of the reset-enable state; a program leaves the page buffer empty. A transaction is ignored whose command byte is
not whole or names no command. -/
def Obligations.NotTakenChangesNothing : Prop :=
  (∀ (c : Instr) (s : State), s.rstLow = true → beginsTransaction c = true →
    exec c s = .next { s with fp.sent := [] }) ∧
  ∀ (s : State) (phases extra : List Clock) (reply : SuspendReply) (op : Byte), busFree s = true →
    let clocks := phases ++ extra
    let mode := s.bp.laneMode
    let sent := receivedBytes mode clocks
    let off := onBoundary mode clocks = false
    let closed := s.bp.wel = false ∨ s.bp.writeRecord ≠ .none
    (commandByte mode clocks = none ∨
        (∃ b rest, commandByte mode clocks = some (b, rest) ∧ busCommandOfByte b = none) →
      exec (.ignoredTransaction ⟨clocks, reply⟩) s = .next (afterTransaction s)) ∧
    (off →
      exec (.writeEnable phases extra) s = .next (afterTransaction s) ∧
      exec (.writeDisable phases extra) s = .next (afterTransaction s) ∧
      exec (.enterQuadAll phases extra) s = .next (afterTransaction s) ∧
      exec (.exitQuadAll phases extra) s = .next (afterTransaction s) ∧
      exec (.resetEnable phases extra) s = .next (afterTransaction s) ∧
      exec (.reset phases extra) s = .next (afterTransaction s) ∧
      exec (.managementPost phases extra) s = .next (afterTransaction s)) ∧
    (sent.length < 3 ∨ off ∨ closed →
      exec (.sectorErase phases extra) s = .next (afterTransaction s) ∧
      exec (.blockErase phases extra) s = .next (afterTransaction s)) ∧
    (off ∨ closed → exec (.chipErase op phases extra) s = .next (afterTransaction s)) ∧
    (sent.length < 4 ∨ off ∨ closed →
      exec (.pageProgram phases extra) s = .next { afterTransaction s with bp.pageBuffer := List.replicate 256 none })

/-- R32, R33, R34, R24: a program or erase that ends on a byte boundary with its address whole, and for a program with a
data byte, is taken with WEL set and the write record NONE: the record becomes DECIDING with the kind, the address and, for
a program, the page: at each position the last data byte given for it, or empty. WEL stays set. -/
def Obligations.ProgramsAndErasesAreHandedOver : Prop :=
  ∀ (s : State) (phases extra : List Clock), busFree s = true → s.bp.wel = true → s.bp.writeRecord = .none →
    onBoundary s.bp.laneMode (phases ++ extra) = true →
    let sent := receivedBytes s.bp.laneMode (phases ++ extra)
    let a := addressOf sent
    let data := sent.drop 3
    (4 ≤ sent.length →
      ∃ page : List (Option Byte), page.length = 256 ∧
        (∀ i, i < 256 →
          page.getD i none =
            ((List.range data.length).reverse.find? fun k => (a.toNat % 256 + k) % 256 = i).map
              fun k => data.getD k 0) ∧
        exec (.pageProgram phases extra) s =
          .next
            { afterTransaction s with
              bp.writeRecord := .deciding ⟨.program, a, page⟩
              bp.pageBuffer := List.replicate 256 none }) ∧
    (3 ≤ sent.length →
      exec (.sectorErase phases extra) s =
        .next
          { afterTransaction s with
            bp.writeRecord := .deciding ⟨.sectorErase, a, List.replicate 256 none⟩ } ∧
      exec (.blockErase phases extra) s =
        .next
          { afterTransaction s with
            bp.writeRecord := .deciding ⟨.blockErase, a, List.replicate 256 none⟩ })

/-- R19, R22, R33, R34, R194: a chip erase taken with WEL set and the write record NONE becomes DECIDING, with BUSY and WEL
shown, and its verdict refuses it, with either opcode, in every lifecycle, under every table and in every staging state:
recorded address 0, kind and reason CHIP_ERASE. It clears BUSY and WEL, sets VIOLATION and touches nothing
else. That the verdict comes at WRITE_VERDICT is log 7, and that none comes once a restart is due log 6. -/
def Obligations.ChipEraseIsAlwaysRefused : Prop :=
  ∀ (s : State) (op : Byte) (phases extra : List Clock), busFree s = true → s.bp.wel = true → s.bp.writeRecord = .none →
    onBoundary s.bp.laneMode (phases ++ extra) = true → restartDue s = false →
    let taken : State :=
      { afterTransaction s with bp.writeRecord := .deciding ⟨.chipErase, 0, List.replicate 256 none⟩ }
    exec (.chipErase op phases extra) s = .next taken ∧ (statusByte taken).getLsbD 0 = true ∧
    (statusByte taken).getLsbD 1 = true ∧
    exec .writeVerdict taken =
      .next
        { afterTransaction s with
          bp.wel := false
          tu.violations := if s.tu.violations < 65535 then s.tu.violations + 1 else s.tu.violations
          tu.firstRefusal :=
            if s.tu.violations = 0 then some ⟨0, .chipErase, .chipErase⟩ else s.tu.firstRefusal
          mc.flags.violation := true }

/-- R13, R14, R16, R17, R22, R34, R55, R56: the verdict on a page program or a sector erase. Its one unit is the page or
sector of its address. Unmapped, without the live right, or STAGING outside OPEN and VERIFYING, it is refused for that
reason, the first that fails; otherwise it becomes the in-flight operation at the translated address, started at once
unless a read transaction holds the flash. R63: the start preempts a READING chunk request. Once a restart is due no verdict
comes before it (log 6). -/
def Obligations.VerdictOnOneUnit : Prop :=
  ∀ (s : State) (c : TakenCommand), s.bp.writeRecord = .deciding c → restartDue s = false →
    (c.kind = .program ∨ c.kind = .sectorErase) →
    let size := if c.kind = .program then 256 else 4096
    let unit : LogicalAddress := BitVec.ofNat 24 (c.address.toNat / size * size)
    let found := translate s.tu.table s.tu.selector s.store.slotMap unit
    let refusedFor (reason : RefusalReason) : Prop :=
      exec .writeVerdict s =
        .next
          { s with
            bp := { s.bp with writeRecord := .none, wel := false }
            fp := { s.fp with sent := [] }
            mc := { s.mc with flags.violation := true }
            tu :=
              { s.tu with
                violations := if s.tu.violations < 65535 then s.tu.violations + 1 else s.tu.violations
                firstRefusal :=
                  if s.tu.violations = 0 then
                    some ⟨if c.kind = .program then c.address else unit, c.kind, reason⟩
                  else s.tu.firstRefusal } }
    (found = none → refusedFor .unmapped) ∧
    ∀ f p, found = some (f, p) →
      let right := if c.kind = .program then f.region.live.p else f.region.live.e
      let open' := s.isc.staging.state = .opened ∨ s.isc.staging.state = .verifying
      (right = false → refusedFor .noRight) ∧
      (right = true → f.region.target = .staging → ¬ open' → refusedFor .stagingClosed) ∧
      (right = true → (f.region.target = .staging → open') →
        ∃ t, exec .writeVerdict s = .next t ∧ t.bp = { s.bp with writeRecord := .inFlight, wel := false } ∧
          t.tu = s.tu ∧ t.flash = s.flash ∧ t.store = s.store ∧ t.lanes = s.lanes ∧ t.socRun = s.socRun ∧
          t.fp.op =
            some ⟨if c.kind = .program then .program else .sectorErase, [p],
              if c.kind = .program then c.page.map fun b => b.getD 0xFF else [], 0,
              if flashHeld s then .queued else .running, 0⟩ ∧
          (flashHeld s = false →
            t.fp.sent =
              [.writeEnable,
                if c.kind = .program then .pageProgram p (c.page.map fun b => b.getD 0xFF) else .sectorErase p]) ∧
          (flashHeld s = false → f.region.target ≠ .staging → (∀ i, s.de.scan = some i → i.chunkSlot = none) →
            chunkPreempted s t))

/-- R15, R16, R17, R22, R34, R55: the verdict on a block erase. With every one of its sixteen sectors allowed, it
becomes one downstream block erase where the sixteen translated sectors are one aligned 64 KiB run, and a series of
sixteen sector erases otherwise; with any refused it is refused whole, for the reason and at the address of the lowest
refused sector. Once a restart is due no verdict comes before it (log 6). -/
def Obligations.VerdictOnBlockErase : Prop :=
  ∀ (s : State) (c : TakenCommand), s.bp.writeRecord = .deciding c → c.kind = .blockErase →
    restartDue s = false →
    let sector (k : Nat) : LogicalAddress := BitVec.ofNat 24 (c.address.toNat / 65536 * 65536 + 4096 * k)
    let check (k : Nat) := checkUnit s.tu s.store.slotMap s.isc.staging.state .sectorErase (sector k)
    (∀ targets : Nat → Nat, (∀ k, k < 16 → ∃ st, check k = .ok (targets k, st)) →
      ∃ t, exec .writeVerdict s = .next t ∧ t.bp = { s.bp with writeRecord := .inFlight, wel := false } ∧
        t.tu = s.tu ∧ t.flash = s.flash ∧ t.store = s.store ∧ t.lanes = s.lanes ∧ t.socRun = s.socRun ∧
        ((targets 0 % 65536 = 0 ∧ ∀ k, k < 16 → targets k = targets 0 + 4096 * k) →
          t.fp.op =
            some ⟨.blockErase, [targets 0], [], 0, if flashHeld s then .queued else .running, 0⟩) ∧
        (¬ (targets 0 % 65536 = 0 ∧ ∀ k, k < 16 → targets k = targets 0 + 4096 * k) →
          t.fp.op =
            some ⟨.eraseSeries, (List.range 16).map targets, [], 0, if flashHeld s then .queued else .running,
              0⟩)) ∧
    ∀ k reason, k < 16 → check k = .error reason → (∀ j, j < k → ∃ r, check j = .ok r) →
      ∃ t, exec .writeVerdict s = .next t ∧ t.bp = { s.bp with writeRecord := .none, wel := false } ∧
        t.mc = { s.mc with flags.violation := true } ∧
        t.tu =
          { s.tu with
            violations := if s.tu.violations < 65535 then s.tu.violations + 1 else s.tu.violations
            firstRefusal :=
              if s.tu.violations = 0 then some ⟨sector k, .blockErase, reason⟩ else s.tu.firstRefusal } ∧
        t.flash = s.flash ∧ t.store = s.store ∧ t.lanes = s.lanes ∧ t.isc.staging.state = s.isc.staging.state ∧
        t.socRun = s.socRun

/-- R114, R18, R64, R75, R82, R194: an allowed program or sector erase into a STAGING entry while VERIFYING, or an allowed
block erase with one or more of its sixteen sectors in STAGING entries, ends the staged scan STALE: its chunk request,
digest item and VERIFY are withdrawn, staging is OPEN, the counts stay, SCAN_DONE is set, and the write goes on. Once a
restart is due no verdict comes before it (log 6). -/
def Obligations.StagingWriteMakesScanStale : Prop :=
  ∀ (s : State) (c : TakenCommand), s.bp.writeRecord = .deciding c → s.isc.staging.state = .verifying →
    restartDue s = false →
    let stale (t : State) : Prop :=
      t.isc = { s.isc with
                scan.phase := .ended
                scan.result := some .stale
                staging.state := .opened
                staging.outcome := .stale } ∧
      t.mc = { s.mc with flags.scanDone := true } ∧ t.fp.chunk = none ∧ t.fp.chunkBuffer = [] ∧ t.de.scan = none ∧
      t.de.owed = false ∧ t.su.scan = none ∧
      t.bp = { s.bp with writeRecord := .inFlight, wel := false } ∧ t.tu = s.tu ∧ t.flash = s.flash ∧
      t.store = s.store
    (∀ (f : Found) (p : Nat), (c.kind = .program ∨ c.kind = .sectorErase) →
      translate s.tu.table s.tu.selector s.store.slotMap
        (BitVec.ofNat 24 (if c.kind = .program then c.address.toNat / 256 * 256
          else c.address.toNat / 4096 * 4096)) = some (f, p) →
      f.region.target = .staging → (if c.kind = .program then f.region.live.p else f.region.live.e) = true →
      ∃ t, exec .writeVerdict s = .next t ∧ stale t ∧ ∃ o, t.fp.op = some o ∧ o.targets = [p]) ∧
    ∀ (founds : Nat → Found) (targets : Nat → Nat), c.kind = .blockErase →
      (∀ k, k < 16 →
        translate s.tu.table s.tu.selector s.store.slotMap
          (BitVec.ofNat 24 (c.address.toNat / 65536 * 65536 + 4096 * k)) = some (founds k, targets k) ∧
        (founds k).region.live.e = true) →
      (∃ k, k < 16 ∧ (founds k).region.target = .staging) →
      ∃ t, exec .writeVerdict s = .next t ∧ stale t ∧
        ∃ o, t.fp.op = some o ∧
          ((o.kind = .blockErase ∧ o.targets = [targets 0]) ∨
            (o.kind = .eraseSeries ∧ o.targets = (List.range 16).map targets))

/-! ### The Flash Port (chapter 3) -/

/-- R50, R57, R35: OPERATION_COMPLETION ends the RUNNING command: the programmed bytes lose the bits that are zero in
the image, erased bytes are 0xFF, every other byte stays. A single command or the sixteenth sector completes the
operation and clears the write record; an earlier sector moves the series on. An absent flash shows busy for ever
(log 26), and where no command runs nothing happens (log 5). R58: OPERATION_TIMEOUT resets the flash and ends the whole
operation; of the bytes of the page, sector or block in hand nothing is claimed (log 13). R58 places this end at the limit
of the running time; that the command makes it whatever the running time is the model's choice (log 4). -/
def Obligations.RunningCommandCompletesOrTimesOut : Prop :=
  (∀ s : State,
    (∀ o, s.fp.op = some o → o.phase = .running → s.flash.present = true →
      ∃ t, exec .operationCompletion s = .next t ∧
        (∀ p, t.flash.read p =
          if o.target ≤ p ∧ p < o.target + commandLength o.kind then
            (if o.kind = .program then s.flash.read p &&& byteAt o.image (p - o.target) else 0xFF)
          else s.flash.read p) ∧
        t.tu = s.tu ∧ t.mc = s.mc ∧ t.store = s.store ∧ t.lanes = s.lanes ∧ t.socRun = s.socRun ∧
        t.isc.staging.state = s.isc.staging.state ∧
        (o.kind ≠ .eraseSeries ∨ 15 ≤ o.index →
          t.fp.op = none ∧ t.bp = { s.bp with writeRecord := .none }) ∧
        (o.kind = .eraseSeries → o.index < 15 → t.bp = s.bp ∧
          t.fp.op =
            some { o with
              index := o.index + 1
              phase := if flashHeld s then .queued else .running
              runningTime := if flashHeld s then o.runningTime else 0 })) ∧
    (∀ o, s.fp.op = some o → o.phase = .running → s.flash.present = false →
      exec .operationCompletion s = .next { s with fp.sent := [.readBusy] }) ∧
    ((∀ o, s.fp.op = some o → o.phase ≠ .running) →
      exec .operationCompletion s = .next { s with fp.sent := [] })) ∧
  ∀ s : State,
    (∀ o, s.fp.op = some o → o.phase = .running →
      ∃ t, exec .operationTimeout s = .next t ∧ t.fp.op = none ∧ t.bp = { s.bp with writeRecord := .none } ∧
        [FpCommand.resetEnable, .reset] <+: t.fp.sent ∧
        (∀ p, p < o.target ∨ o.target + commandLength o.kind ≤ p → t.flash.read p = s.flash.read p) ∧
        t.tu = s.tu ∧ t.mc = s.mc ∧ t.store = s.store ∧ t.lanes = s.lanes ∧ t.isc.staging = s.isc.staging) ∧
    ((∀ o, s.fp.op = some o → o.phase ≠ .running) → exec .operationTimeout s = .next { s with fp.sent := [] }) ∧
    commandLength .program = 256 ∧ commandLength .sectorErase = 4096 ∧ commandLength .eraseSeries = 4096 ∧
    commandLength .blockErase = 65536

/-! ### The Management Channel (chapter 10) -/

/-- R186, R188, R189, R190, R204, R205: a POST of the frame of a request, with or without bytes after it, runs exactly
that request, for each of the 32 requests, every proof and every body the frame can carry. R21: under an open read, a
request stands for the channel's step on a frame POSTed before it (log 11): the read goes on as it was, and the request
does to the channel, the Translation Unit, the store, the credential unit and the lanes what it does without one. -/
def Obligations.PostOfFrameRunsItsRequest : Prop :=
  ∀ (r : Request) (proof : Option Bytes) (body : Bytes) (s : State), requestWellFormed proof body = true →
    (s.rstLow = true ∨ (s.bp.readTxn = none ∧ s.bp.fetchTxn = none) →
      ∀ (beyond : Bytes) (phases extra : List Clock), onBoundary s.bp.laneMode (phases ++ extra) = true →
        receivedBytes s.bp.laneMode (phases ++ extra) = requestFrame r proof body ++ beyond →
        exec (.managementPost phases extra) s = exec (requestInstr r proof body) s) ∧
    (s.rstLow = false → s.bp.readTxn.isSome = true → s.bp.fetchTxn = none →
      ∃ t u, exec (requestInstr r proof body) s = .next t ∧
        exec (requestInstr r proof body) { s with bp.readTxn := none } = .next u ∧ t.bp = s.bp ∧
        t.mc = u.mc ∧ t.tu = u.tu ∧ t.store = u.store ∧ t.writes = u.writes ∧ t.cred = u.cred ∧
        t.lanes = u.lanes ∧ t.su = u.su ∧ t.flash = u.flash)

/-- R186: a POST while the channel is WORKING, with fewer than two bytes, with a length field outside 2 to 290 or with
fewer bytes than the length says is dropped: DROPPED is set, the intake is empty and nothing else changes. R188, R189
steps 1 and 2: an accepted frame with a flags bit other than proof-present, too short for its proof or with a body above
259 bytes is answered BAD_FRAME; a code that is not in the table is answered UNKNOWN_REQUEST. The response echoes the
code. -/
def Obligations.UnfitPostsAreDroppedOrRefused : Prop :=
  (∀ (s : State) (phases extra : List Clock), busFree s = true → onBoundary s.bp.laneMode (phases ++ extra) = true →
    let sent := receivedBytes s.bp.laneMode (phases ++ extra)
    s.mc.state ≠ .idle ∨ sent.length < 2 ∨ frameLength sent < 2 ∨ 290 < frameLength sent ∨
      sent.length < 2 + frameLength sent →
    exec (.managementPost phases extra) s =
      .next { afterTransaction s with bp.intakeCount := 0, bp.intake := [], mc.dropped := true }) ∧
  ∀ (s : State) (frame beyond : Bytes) (phases extra : List Clock), channelFree s = true →
    onBoundary s.bp.laneMode (phases ++ extra) = true → receivedBytes s.bp.laneMode (phases ++ extra) = frame ++ beyond →
    4 ≤ frame.length → frame.length ≤ 292 → frameLength frame + 2 = frame.length →
    let refused (status : Status) : State :=
      { accepted [] .taken s with
        cred := none
        mc.state := .idle
        mc.response := some ⟨[2, 0, byteAt frame 2, statusCode status], false, false, none, none⟩ }
    let bodyLength := if (byteAt frame 3).getLsbD 0 then frame.length - 36 else frame.length - 4
    let bad := 1 < (byteAt frame 3).toNat ∨ ((byteAt frame 3).getLsbD 0 = true ∧ frame.length < 36) ∨ 259 < bodyLength
    (bad → exec (.managementPost phases extra) s = .next (refused .badFrame)) ∧
    (¬ bad → (∀ r, requestCode r ≠ byteAt frame 2) →
      exec (.managementPost phases extra) s = .next (refused .unknownRequest))

/-- R49, R192, R193, R180: a FETCH delivers the response fixed at its start from its first byte, then 0xFF; with an empty
buffer the length 0, then 0xFF. The report of its count of whole bytes sets the delivered flag of a non-secret response that
was delivered whole and scrubs a secret one; a count below the frame length changes neither. -/
def Obligations.FetchDeliversAndCounts : Prop :=
  ∀ (s : State) (n k : Nat), busFree s = true →
    let lines := dataOutLines s.bp.laneMode false
    let fetch (frame : Bytes) (len : Option Nat) (present : Bool) : State :=
      { s with
        bp.fetchTxn := some ⟨len, present, n⟩
        bp.out := (List.range (bytesBegun lines n)).map fun i => frame.getD i 0xFF
        bp.outLines := lines
        fp.sent := [] }
    let ended (frame : Bytes) (response : Option Response) (timer : Option Nat) : State :=
      { s with
        bp.out := (List.range (bytesBegun lines (n + k))).map fun i => frame.getD i 0xFF
        bp.outLines := lines
        bp.resetEnable := false
        fp.sent := []
        mc.response := response
        mc.scrubTimer := timer }
    (s.mc.response = none →
      exec (.managementFetch n) s = .next (fetch [0, 0] none false) ∧
      exec (.fetchCountReport k) (fetch [0, 0] none false) = .next (ended [0, 0] none s.mc.scrubTimer)) ∧
    (∀ r, s.mc.response = some r →
      exec (.managementFetch n) s = .next (fetch r.frame (some r.frame.length) true) ∧
      (wholeBytes lines (n + k) < r.frame.length →
        exec (.fetchCountReport k) (fetch r.frame (some r.frame.length) true) =
          .next (ended r.frame (some r) s.mc.scrubTimer)) ∧
      (r.frame.length ≤ wholeBytes lines (n + k) → r.secret = false →
        exec (.fetchCountReport k) (fetch r.frame (some r.frame.length) true) =
          .next (ended r.frame (some { r with delivered := true }) s.mc.scrubTimer)) ∧
      (r.frame.length ≤ wholeBytes lines (n + k) → r.secret = true →
        exec (.fetchCountReport k) (fetch r.frame (some r.frame.length) true) =
          .next (ended r.frame none none)))

/-- R180, R181, R182: the expiry of a secret response empties the buffer with its record and stops the timer; a FETCH in
progress finds the response gone. Two choices of the model: an expiry that comes before the oscillator has reached its
moment moves the oscillator there (log 4), and with the timer stopped nothing expires (log 5). -/
def Obligations.SecretResponseExpires : Prop :=
  ∀ s : State,
    (∀ m r, s.mc.scrubTimer = some m → s.mc.response = some r → r.secret = true →
      exec .secretResponseExpiry s =
        .next
          { s with
            clock := max s.clock m
            fp.sent := []
            mc.response := none
            mc.scrubTimer := none
            bp.fetchTxn := s.bp.fetchTxn.map fun t => { t with stillPresent := false } }) ∧
    (s.mc.scrubTimer = none → exec .secretResponseExpiry s = .next { s with fp.sent := [] }) ∧
    ∀ n x, s.bp.fetchTxn = some x → x.stillPresent = false → x.fixedLength.isSome = true →
      let lines := dataOutLines s.bp.laneMode false
      ∃ t, exec (.fetchCountReport n) s = .next t ∧ t.mc = s.mc ∧
        t.bp.out = s.bp.out ++
          List.replicate (bytesBegun lines (x.dataClocks + n) - bytesBegun lines x.dataClocks) 0xFF

/-- R126, R136, R141, R177, R197, R198, R199, R202, R206: the seven reports answer OK at their taking with a picture of one
moment, field by field, and change nothing but the response; GET_STATUS also clears DROPPED after reporting it. A body of
another length is answered BAD_ARGUMENT, after the state checks of GET_SLOT_STATUS (BLANK) and GET_IDENTITY (no key), which
answer BAD_STATE whatever the body. -/
def Obligations.ReportsAnswerAtTheirTaking : Prop :=
  ∀ (s : State) (proof : Option Bytes), channelFree s = true → requestWellFormed proof [] = true →
    let yes (b : Bool) : Byte := if b then 1 else 0
    let rights (x : Rights) : Byte := yes x.r + 2 * yes x.p + 4 * yes x.e
    let version (x : Option Word32) : Bytes := leBytes 4 ((x.map BitVec.toNat).getD 0)
    let signer (x : Option Nat) : Byte := (x.map (BitVec.ofNat 8)).getD 0xFF
    let slots : Bytes :=
      match s.store.slotRecord with
      | none => [0xFF, 0xFF, 0xFF, 0xFF]
      | some r =>
        [slotCode r.active, slotStateCode r.stateA, slotStateCode r.stateB,
          match r.stateOf r.active with
          | .trial n => BitVec.ofNat 8 n
          | _ => 0xFF]
    let totals : Bytes :=
      BitVec.ofNat 8 s.store.credentials.length ::
        leBytes 2 (s.store.credentials.map fun c => c.secret.length).sum
    let info : Bytes :=
      [0x16, 0x04, 1, lifecycleCode s.store.lifecycle, bootOutcomeCode s.isc.boot.outcome, slotCode s.isc.boot.slot] ++
      version s.isc.boot.version ++ [signer s.isc.boot.signer, yes s.store.slotRecord.isSome] ++ slots ++
      [yes s.store.floor.isSome] ++ version s.store.floor ++
      (List.range 4).map (fun i => keySlotCode (s.store.keys.getD i .empty)) ++ totals ++
      [BitVec.ofNat 8 s.store.failures]
    let refusal : Bytes :=
      match s.tu.firstRefusal with
      | none => [0, 0, 0, 0, 0]
      | some f => leBytes 3 f.address.toNat ++ [commandKindCode f.kind, refusalReasonCode f.reason]
    let status : Bytes :=
      [yes s.mc.flags.scanDone + 2 * yes s.mc.flags.violation + 4 * yes s.mc.flags.bootNotice, yes s.mc.dropped] ++
      leBytes 2 s.tu.violations ++ refusal ++
      [stagingStateCode s.isc.staging.state,
        yes s.mc.mask.rsp + 2 * yes s.mc.mask.scan + 4 * yes s.mc.mask.viol + 8 * yes s.mc.mask.boot]
    let region : Bytes :=
      (List.range 16).flatMap (fun i =>
        let e := s.tu.table.getD i .held
        leBytes 2 e.stop ++ [targetCode e.target, rights e.granted, rights e.live, 0] ++ leBytes 2 e.base) ++
      [slotCode s.tu.selector, yes s.store.slotMap.isSome] ++
      match s.store.slotMap with
      | none => List.replicate 8 0
      | some m =>
        leBytes 2 m.aBase ++ leBytes 2 m.bBase ++ [BitVec.ofNat 8 m.slotLength] ++ leBytes 2 m.recoveryBase ++
          [BitVec.ofNat 8 m.recoveryLength]
    let g := s.isc.staging
    let rejected : Bytes :=
      match g.outcome with
      | .rejected reason k => [scanReasonCode reason, BitVec.ofNat 8 k]
      | _ => [0, 0]
    let verified : Bytes :=
      match g.outcome with
      | .pass v key label => leBytes 4 v.toNat ++ [BitVec.ofNat 8 key] ++ label
      | _ => [0, 0, 0, 0, 0xFF] ++ List.replicate 16 0
    let slotStatus : Bytes :=
      slots ++ version s.store.floor ++ [stagingStateCode g.state, stagingOutcomeCode g.outcome] ++ rejected ++
        verified ++ leBytes 4 g.chunksDone ++ leBytes 4 g.chunksTotal ++ leBytes 2 g.preemptions
    exec (.getInfo proof []) s = .next (answered .getInfo .ok info s) ∧ info.length = 29 ∧
    exec (.getStatus proof []) s =
      .next (answered .getStatus .ok status { s with mc.dropped := false }) ∧ status.length = 11 ∧
    exec (.readMap proof []) s = .next (answered .readMap .ok region s) ∧ region.length = 138 ∧
    exec (.listCredentials proof []) s =
      .next (answered .listCredentials .ok
        (totals ++ s.store.credentials.flatMap fun c =>
          [BitVec.ofNat 8 c.handle, credClassCode c.cls, yes (!c.exportable), yes c.gated, bindingCode c.binding,
            BitVec.ofNat 8 c.secret.length]) s) ∧
    (s.store.lifecycle ≠ .blank →
      exec (.getSlotStatus proof []) s = .next (answered .getSlotStatus .ok slotStatus s) ∧
      ((∀ v key label, g.outcome = .pass v key label → label.length = 16) → slotStatus.length = 43)) ∧
    (∀ k, s.store.identity = some k →
      (∀ declared bytes, s.store.endorsement = .complete declared bytes →
        exec (.getIdentity proof []) s =
          .next (answered .getIdentity .ok (k.publicKey ++ leBytes 2 declared ++ bytes) s)) ∧
      ((∀ declared bytes, s.store.endorsement ≠ .complete declared bytes) →
        exec (.getIdentity proof []) s = .next (answered .getIdentity .ok (k.publicKey ++ [0, 0]) s))) ∧
    (∀ k start : Byte, k.toNat ≤ 7 →
      let l := s.lanes.getD k.toNat .afterReset
      let records := (l.log.drop start.toNat).take 8
      exec (.readLane proof [k, start]) s =
        .next (answered .readLane .ok
          ([k] ++ l.value ++ [BitVec.ofNat 8 l.log.length, BitVec.ofNat 8 records.length] ++
            records.flatMap fun x => x.digest ++ [logSourceCode x.source] ++ leBytes 4 x.tag.toNat) s)) ∧
    (∀ k start : Byte, 7 < k.toNat →
      exec (.readLane proof [k, start]) s = .next (answered .readLane .badArgument [] s)) ∧
    ∀ body, body.length ≤ 259 → requestWellFormed proof body = true →
      (s.store.lifecycle = .blank →
        exec (.getSlotStatus proof body) s = .next (answered .getSlotStatus .badState [] s)) ∧
      (s.store.identity = none → exec (.getIdentity proof body) s = .next (answered .getIdentity .badState [] s)) ∧
      (body.length ≠ 2 → exec (.readLane proof body) s = .next (answered .readLane .badArgument [] s)) ∧
      (body ≠ [] →
        exec (.getInfo proof body) s = .next (answered .getInfo .badArgument [] s) ∧
        exec (.getStatus proof body) s = .next (answered .getStatus .badArgument [] s) ∧
        exec (.readMap proof body) s = .next (answered .readMap .badArgument [] s) ∧
        exec (.listCredentials proof body) s = .next (answered .listCredentials .badArgument [] s) ∧
        (s.store.lifecycle ≠ .blank →
          exec (.getSlotStatus proof body) s = .next (answered .getSlotStatus .badArgument [] s)) ∧
        (s.store.identity.isSome = true →
          exec (.getIdentity proof body) s = .next (answered .getIdentity .badArgument [] s)))

/-- R23, R195, R196: CLEAR_EVENTS clears the flags of its mask, with the violation record for the VIOLATION bit, and
reports the flags after; SET_ALERT_MASK sets the four bits and reports them. A mask with another bit is refused, and so is a
body that is not one byte long, with BAD_ARGUMENT and nothing changed. ALERT_N is
driven low exactly while a response waits undelivered under RSP, SCAN_DONE is set under SCAN, VIOLATION under VIOL, or
BOOT_NOTICE under BOOT. -/
def Obligations.ClearEventsAndSetAlertMask : Prop :=
  (∀ (s : State) (proof : Option Bytes) (mask : Byte), channelFree s = true →
    requestWellFormed proof [mask] = true →
    let flags : EventFlags :=
      ⟨s.mc.flags.scanDone && !mask.getLsbD 0, s.mc.flags.violation && !mask.getLsbD 1,
        s.mc.flags.bootNotice && !mask.getLsbD 2⟩
    (mask.toNat ≤ 7 → mask.getLsbD 1 = false →
      exec (.clearEvents proof [mask]) s =
        .next (answered .clearEvents .ok [eventFlagsByte flags] { s with mc.flags := flags })) ∧
    (mask.toNat ≤ 7 → mask.getLsbD 1 = true →
      exec (.clearEvents proof [mask]) s =
        .next (answered .clearEvents .ok [eventFlagsByte flags]
          { s with mc.flags := flags, tu.violations := 0, tu.firstRefusal := none })) ∧
    (7 < mask.toNat → exec (.clearEvents proof [mask]) s = .next (answered .clearEvents .badArgument [] s)) ∧
    (mask.toNat ≤ 15 →
      exec (.setAlertMask proof [mask]) s =
        .next (answered .setAlertMask .ok [mask]
          { s with mc.mask := ⟨mask.getLsbD 0, mask.getLsbD 1, mask.getLsbD 2, mask.getLsbD 3⟩ })) ∧
    (15 < mask.toNat →
      exec (.setAlertMask proof [mask]) s = .next (answered .setAlertMask .badArgument [] s))) ∧
  (∀ (s : State) (proof : Option Bytes) (body : Bytes), channelFree s = true → requestWellFormed proof body = true →
    body.length ≤ 259 → body.length ≠ 1 →
    exec (.clearEvents proof body) s = .next (answered .clearEvents .badArgument [] s) ∧
    exec (.setAlertMask proof body) s = .next (answered .setAlertMask .badArgument [] s)) ∧
  ∀ s : State,
    alertAsserted s = true ↔
      (s.mc.mask.rsp = true ∧ ∃ r, s.mc.response = some r ∧ r.delivered = false) ∨
      (s.mc.mask.scan = true ∧ s.mc.flags.scanDone = true) ∨
      (s.mc.mask.viol = true ∧ s.mc.flags.violation = true) ∨
      (s.mc.mask.boot = true ∧ s.mc.flags.bootNotice = true)

/-! ### Updates (chapter 6) -/

/-- R109, R110, R116: OPEN_STAGING opens staging on an EMPTY or REJECTED live-inactive slot; VERIFY_STAGED answers
ACCEPTED and starts the staged scan with its manifest read; ABANDON_STAGING closes staging. R116, R64, R75, R82, R194: an
ABANDON_STAGING during a staged scan withdraws the scan's chunk request, digest item and VERIFY, ends it ABANDONED with
the counts kept, and sets SCAN_DONE. Refusals, whatever the body: BAD_STATE in BLANK, for OPEN and VERIFY while the boot scan
runs (SOC_RUN low), and in another staging or slot state; with these checks passed a body that is not empty is answered
BAD_ARGUMENT. -/
def Obligations.StagingRequests : Prop :=
  (∀ (s : State) (proof : Option Bytes) (m : SlotMap), ready s = true → requestWellFormed proof [] = true →
    s.store.lifecycle ≠ .blank → s.socRun = true → s.store.slotMap = some m →
    let inactive := s.tu.selector.other
    let state := (slotRecordOf s).stateOf inactive
    (s.isc.staging.state = .closed → state = .empty ∨ state = .rejected →
      exec (.openStaging proof []) s =
        .next (answered .openStaging .ok [slotCode inactive] { s with isc.staging.state := .opened })) ∧
    (s.isc.staging.state ≠ .closed ∨ (state ≠ .empty ∧ state ≠ .rejected) →
      exec (.openStaging proof []) s = .next (answered .openStaging .badState [] s)) ∧
    (s.isc.staging.state = .opened →
      exec (.verifyStaged proof []) s =
        .next
          { answered .verifyStaged .accepted [] s with
            isc.staging := ⟨.verifying, .none, 0, 0, 0⟩
            isc.scan :=
              { ScanRecord.afterReset with owner := .stagedScan, slot := inactive, phase := .manifestRead }
            fp.chunk := some ⟨.stagedScan, m.slotStart inactive, 544, true⟩
            fp.chunkBuffer := []
            fp.sent := [.read (m.slotStart inactive)] }) ∧
    (s.isc.staging.state ≠ .opened →
      exec (.verifyStaged proof []) s = .next (answered .verifyStaged .badState [] s)) ∧
    (s.isc.staging.state = .opened ∨ s.isc.staging.state = .verified →
      exec (.abandonStaging proof []) s =
        .next (answered .abandonStaging .ok [] { s with isc.staging.state := .closed })) ∧
    (s.isc.staging.state = .closed →
      exec (.abandonStaging proof []) s = .next (answered .abandonStaging .badState [] s))) ∧
  (∀ (s : State) (proof : Option Bytes) (body : Bytes), channelFree s = true → requestWellFormed proof body = true →
    body.length ≤ 259 →
    let inactive := s.tu.selector.other
    let opens (status : Status) : Prop := exec (.openStaging proof body) s = .next (answered .openStaging status [] s)
    let verifies (status : Status) : Prop :=
      exec (.verifyStaged proof body) s = .next (answered .verifyStaged status [] s)
    let abandons (status : Status) : Prop :=
      exec (.abandonStaging proof body) s = .next (answered .abandonStaging status [] s)
    (s.store.lifecycle = .blank → opens .badState ∧ verifies .badState ∧ abandons .badState) ∧
    (s.socRun = false → opens .badState ∧ verifies .badState) ∧
    (s.isc.staging.state ≠ .closed → opens .badState) ∧ (s.isc.staging.state ≠ .opened → verifies .badState) ∧
    (s.isc.staging.state = .closed → abandons .badState) ∧
    (∀ r, s.store.slotRecord = some r → r.stateOf inactive ≠ .empty → r.stateOf inactive ≠ .rejected → opens .badState) ∧
    (s.store.lifecycle ≠ .blank → body ≠ [] →
      (∀ r, s.socRun = true → s.isc.staging.state = .closed → s.store.slotRecord = some r →
        r.stateOf inactive = .empty ∨ r.stateOf inactive = .rejected → opens .badArgument) ∧
      (s.socRun = true → s.isc.staging.state = .opened → verifies .badArgument) ∧
      (s.isc.staging.state ≠ .closed → abandons .badArgument))) ∧
  ∀ (s : State) (proof : Option Bytes), channelFree s = true → requestWellFormed proof [] = true →
    s.store.lifecycle ≠ .blank → s.isc.staging.state = .verifying →
    ∃ t, exec (.abandonStaging proof []) s = .next t ∧ holdsAnswer .abandonStaging .ok [] t = true ∧
      t.isc = { s.isc with
                scan.phase := .ended
                scan.result := some .abandoned
                staging.state := .closed
                staging.outcome := .abandoned } ∧
      t.mc.flags = { s.mc.flags with scanDone := true } ∧ t.fp.chunk = none ∧ t.fp.chunkBuffer = [] ∧
      t.de.scan = none ∧ t.de.owed = false ∧ t.su.scan = none ∧ t.store = s.store ∧ t.writes = s.writes ∧
      t.tu = s.tu ∧ t.flash = s.flash ∧ t.lanes = s.lanes

/-- R118, R119, R122, R123: COMMIT_STAGED closes staging at its taking and writes the staged slot as TRIAL and
persistent-active with the clamped attempts, the old one as FALLBACK if VALID and EMPTY if FAILED. CONFIRM_ACTIVE
writes the floor where the booted version is above it, then the persistent-active slot as VALID and a FALLBACK as
EMPTY. COMMIT_STAGED is refused with BAD_STATE in BLANK, with staging other than VERIFIED, and with a persistent-active slot
neither VALID nor FAILED; CONFIRM_ACTIVE in BLANK, with an outcome other than PASS, with another slot booted, and with a
persistent-active slot not TRIAL; either, with these passed, with BAD_ARGUMENT for a body of another length. -/
def Obligations.CommitAndConfirm : Prop :=
  (∀ (s : State) (proof : Option Bytes) (body : Bytes), channelFree s = true → requestWellFormed proof body = true →
    body.length ≤ 259 →
    let commits (status : Status) : Prop := exec (.commitStaged proof body) s = .next (answered .commitStaged status [] s)
    let confirms (status : Status) : Prop :=
      exec (.confirmActive proof body) s = .next (answered .confirmActive status [] s)
    (s.store.lifecycle = .blank → commits .badState ∧ confirms .badState) ∧
    (s.isc.staging.state ≠ .verified → commits .badState) ∧ (s.isc.boot.outcome ≠ .pass → confirms .badState) ∧
    ∀ r, s.store.slotRecord = some r →
      (r.stateOf r.active ≠ .valid → r.stateOf r.active ≠ .failed → commits .badState) ∧
      (s.isc.boot.slot ≠ r.active → confirms .badState) ∧
      (isTrial (r.stateOf r.active) = false → confirms .badState) ∧
      (s.store.lifecycle ≠ .blank → s.isc.staging.state = .verified →
        r.stateOf r.active = .valid ∨ r.stateOf r.active = .failed → body.length ≠ 1 → commits .badArgument) ∧
      (s.store.lifecycle ≠ .blank → s.isc.boot.outcome = .pass → s.isc.boot.slot = r.active →
        isTrial (r.stateOf r.active) = true → body ≠ [] → confirms .badArgument)) ∧
  ∀ (s : State) (proof : Option Bytes) (r : SlotRecord), ready s = true → s.store.lifecycle ≠ .blank →
    s.store.slotRecord = some r →
    let inactive := s.tu.selector.other
    (∀ attempts : Byte, requestWellFormed proof [attempts] = true → s.isc.staging.state = .verified →
      r.stateOf r.active = .valid ∨ r.stateOf r.active = .failed →
      let a := if attempts.toNat = 0 then 1 else if attempts.toNat ≤ 7 then attempts.toNat else 7
      let old : SlotState := if r.stateOf r.active = .valid then .fallback else .empty
      let r' : SlotRecord := { (r.withState r.active old).withState inactive (.trial a) with active := inactive }
      ∃ t, exec (.commitStaged proof [attempts]) s = .next t ∧ t.isc.staging.state = .closed ∧
        t.store = s.store ∧ t.writes.current = some ⟨.channel, .slotRecord r'⟩ ∧
        exec .storeWriteEnd t =
          .next (answered .commitStaged .ok [slotCode inactive, BitVec.ofNat 8 a]
            { s with isc.staging.state := .closed, store.slotRecord := some r' })) ∧
    (requestWellFormed proof [] = true → s.isc.boot.outcome = .pass → s.isc.boot.slot = r.active →
      isTrial (r.stateOf r.active) = true →
      let y := r.active.other
      let r' : SlotRecord :=
        (r.withState r.active .valid).withState y (if r.stateOf y = .fallback then .empty else r.stateOf y)
      (∀ f v, s.store.floor = some f → s.isc.boot.version = some v → f < v →
        ∃ t u, exec (.confirmActive proof []) s = .next t ∧ t.store = s.store ∧
          t.writes.current = some ⟨.channel, .floor v⟩ ∧ exec .storeWriteEnd t = .next u ∧
          u.store = { s.store with floor := some v } ∧ u.writes.current = some ⟨.channel, .slotRecord r'⟩ ∧
          exec .storeWriteEnd u =
            .next (answered .confirmActive .ok (leBytes 4 v.toNat)
              { s with store.floor := some v, store.slotRecord := some r' })) ∧
      (∀ f, s.store.floor = some f → s.isc.boot.version = some f →
        ∃ t, exec (.confirmActive proof []) s = .next t ∧ t.store = s.store ∧
          t.writes.current = some ⟨.channel, .slotRecord r'⟩ ∧
          exec .storeWriteEnd t =
            .next (answered .confirmActive .ok (leBytes 4 f.toNat) { s with store.slotRecord := some r' })))

/-! ### Provisioning, ownership and keys (chapters 7 and 8) -/

/-- R4, R5, R139, R140, R151, R205: the provisioning requests that ask for one record write: LOAD_SLOT_MAP of A base, B base,
slot length, recovery base and recovery length, in range, within 512 units, pairwise disjoint and with both lengths at most
256 together, else BAD_ARGUMENT; LOAD_ENDORSEMENT with part 0 or 1; LOAD_UPDATE_KEY into any key slot. The stored record
stands until the write ends, then the response is placed. Outside BLANK each is refused with BAD_STATE. In BLANK,
LOAD_UPDATE_KEY is refused with BAD_ARGUMENT for another length or an index above 3, and LOAD_ENDORSEMENT, in this order, with
BAD_STATE without an identity key, with BAD_ARGUMENT for a body below three bytes, a part above 1, a declared length outside
1 to 512 or a wrong count of part bytes, and with BAD_STATE for a part 1 that does not continue a stored part 0 of the same
declared length. -/
def Obligations.ProvisioningWrites : Prop :=
  ∀ (s : State) (proof : Option Bytes) (body : Bytes), ready s = true → requestWellFormed proof body = true →
    let aBase := leAt body 0 2
    let bBase := leAt body 2 2
    let slotLength := (byteAt body 4).toNat
    let recoveryBase := leAt body 5 2
    let recoveryLength := (byteAt body 7).toNat
    let apart (x n y m : Nat) : Prop := ∀ u, ¬ (x ≤ u ∧ u < x + n ∧ y ≤ u ∧ u < y + m)
    let valid : Prop :=
      body.length = 8 ∧ aBase ≤ 511 ∧ bBase ≤ 511 ∧ 1 ≤ slotLength ∧ slotLength ≤ 255 ∧ recoveryBase ≤ 511 ∧
      1 ≤ recoveryLength ∧ recoveryLength ≤ 16 ∧ aBase + slotLength ≤ 512 ∧ bBase + slotLength ≤ 512 ∧
      recoveryBase + recoveryLength ≤ 512 ∧ apart aBase slotLength bBase slotLength ∧
      apart aBase slotLength recoveryBase recoveryLength ∧ apart bBase slotLength recoveryBase recoveryLength ∧
      recoveryLength + slotLength ≤ 256
    let loaded : SlotMap := ⟨aBase, bBase, slotLength, recoveryBase, recoveryLength⟩
    (s.store.lifecycle = .blank → valid →
      ∃ t, exec (.loadSlotMap proof body) s = .next t ∧ t.store = s.store ∧
        t.writes.current = some ⟨.channel, .slotMap loaded⟩ ∧
        exec .storeWriteEnd t = .next (answered .loadSlotMap .ok [] { s with store.slotMap := some loaded })) ∧
    (s.store.lifecycle = .blank → body.length ≤ 259 → ¬ valid →
      exec (.loadSlotMap proof body) s = .next (answered .loadSlotMap .badArgument [] s)) ∧
    (s.store.lifecycle = .blank → body.length = 65 → (byteAt body 0).toNat ≤ 3 → s.store.keys.length = 4 →
      ∃ t, exec (.loadUpdateKey proof body) s = .next t ∧ t.store = s.store ∧
        exec .storeWriteEnd t =
          .next (answered .loadUpdateKey .ok [byteAt body 0, 0x01]
            { s with store.keys := s.store.keys.set (byteAt body 0).toNat (.active (body.drop 1)) })) ∧
    (s.store.lifecycle = .blank → s.store.identity.isSome = true → 3 < body.length → byteAt body 0 = 0 →
      leAt body 1 2 ≤ 512 → (body.drop 3).length = min 256 (leAt body 1 2) →
      let declared := leAt body 1 2
      let e : Endorsement :=
        if declared ≤ 256 then .complete declared (body.drop 3) else .part declared (body.drop 3)
      ∃ t, exec (.loadEndorsement proof body) s = .next t ∧ t.store = s.store ∧
        exec .storeWriteEnd t =
          .next (answered .loadEndorsement .ok ((if declared ≤ 256 then 2 else 1) :: leBytes 2 declared)
            { s with store.endorsement := e })) ∧
    (∀ first, s.store.lifecycle = .blank → s.store.identity.isSome = true → 3 < body.length → byteAt body 0 = 1 →
      let declared := leAt body 1 2
      256 < declared → declared ≤ 512 → (body.drop 3).length = declared - 256 →
      s.store.endorsement = .part declared first →
      ∃ t, exec (.loadEndorsement proof body) s = .next t ∧ t.store = s.store ∧
        exec .storeWriteEnd t =
          .next (answered .loadEndorsement .ok (2 :: leBytes 2 declared)
            { s with store.endorsement := .complete declared (first ++ body.drop 3) })) ∧
    (s.store.lifecycle = .blank → body.length ≤ 259 → body.length ≠ 65 ∨ 3 < (byteAt body 0).toNat →
      exec (.loadUpdateKey proof body) s = .next (answered .loadUpdateKey .badArgument [] s)) ∧
    (s.store.lifecycle = .blank → body.length ≤ 259 →
      let loads (status : Status) : Prop :=
        exec (.loadEndorsement proof body) s = .next (answered .loadEndorsement status [] s)
      let part := (byteAt body 0).toNat
      let declared := leAt body 1 2
      let count := body.length - 3
      let wrong : Prop :=
        body.length < 3 ∨ 1 < part ∨ declared = 0 ∨ 512 < declared ∨ (part = 0 ∧ count ≠ min 256 declared) ∨
          (part = 1 ∧ (declared ≤ 256 ∨ count ≠ declared - 256))
      (s.store.identity = none → loads .badState) ∧ (s.store.identity.isSome = true → wrong → loads .badArgument) ∧
      (s.store.identity.isSome = true → ¬ wrong → part = 1 →
        (∀ first, s.store.endorsement ≠ .part declared first) → loads .badState)) ∧
    (s.store.lifecycle ≠ .blank → body.length ≤ 259 →
      exec (.loadSlotMap proof body) s = .next (answered .loadSlotMap .badState [] s) ∧
      exec (.loadUpdateKey proof body) s = .next (answered .loadUpdateKey .badState [] s) ∧
      exec (.loadEndorsement proof body) s = .next (answered .loadEndorsement .badState [] s))

/-- R138, R80, R81: GENERATE_IDENTITY places a GENERATE. At its end the unit draws a number of the random source (log 15):
one from 1 to the order less one is the private key, and the write of the key pair without an endorsement is asked for, at
whose end the public key is the response. Any other draw is discarded: the operation has not ended, and draws again. Outside
BLANK it is refused with BAD_STATE, and in BLANK with BAD_ARGUMENT for a body that is not empty. -/
def Obligations.GenerateIdentityMakesKey : Prop :=
  (∀ (s : State) (proof : Option Bytes) (body : Bytes), channelFree s = true → requestWellFormed proof body = true →
    body.length ≤ 259 →
    (s.store.lifecycle ≠ .blank →
      exec (.generateIdentity proof body) s = .next (answered .generateIdentity .badState [] s)) ∧
    (s.store.lifecycle = .blank → body ≠ [] →
      exec (.generateIdentity proof body) s = .next (answered .generateIdentity .badArgument [] s))) ∧
  ∀ (s : State) (proof : Option Bytes), ready s = true → requestWellFormed proof [] = true →
    s.store.lifecycle = .blank →
    ∃ t u, exec (.generateIdentity proof []) s = .next t ∧ t.su.channel = some ⟨.generate, true⟩ ∧ t.store = s.store ∧
      t.draws = s.draws ∧ exec .signatureCompletion t = .next u ∧ u.store = s.store ∧ u.draws = s.draws + 1 ∧
      let secret := Config.randomNumber s.draws
      if 1 ≤ secret ∧ secret < p256Order then
        u.su.channel = none ∧ u.writes.current = some ⟨.channel, .identityKey ⟨secret, publicKeyOf secret⟩⟩ ∧
        ∃ v, exec .storeWriteEnd u = .next v ∧
          v.store = { s.store with identity := some ⟨secret, publicKeyOf secret⟩, endorsement := .absent } ∧
          holdsAnswer .generateIdentity .ok (publicKeyOf secret) v = true ∧ v.tu = s.tu ∧ v.flash = s.flash ∧
          v.lanes = s.lanes ∧ v.isc = s.isc ∧ v.writes = s.writes
      else u.su.channel = some ⟨.generate, true⟩ ∧ u.mc = t.mc ∧ u.writes = s.writes

/-- R152, R153, R150, R84: FINISH_PROVISIONING on a part with a slot map, an identity key, no PARTIAL endorsement and an
ACTIVE key slot restarts the part; the provisioning write is the first work of the reset and makes the part PROVISIONED
with slot A VALID and active, slot B EMPTY and the floor of the request; then the flash is prepared. Outside BLANK, or with
one of these records wanting, it is refused with BAD_STATE whatever the body; with them, a body that is not four bytes long is
answered BAD_ARGUMENT. -/
def Obligations.FinishProvisioningChain : Prop :=
  (∀ (s : State) (proof : Option Bytes) (body : Bytes), channelFree s = true → requestWellFormed proof body = true →
    body.length ≤ 259 →
    let finishes (status : Status) : Prop :=
      exec (.finishProvisioning proof body) s = .next (answered .finishProvisioning status [] s)
    let complete := s.store.lifecycle = .blank ∧ s.store.slotMap.isSome = true ∧ s.store.identity.isSome = true ∧
      (∀ declared bytes, s.store.endorsement ≠ .part declared bytes) ∧ ∃ key, .active key ∈ s.store.keys
    (¬ complete → finishes .badState) ∧ (complete → body.length ≠ 4 → finishes .badArgument)) ∧
  ∀ (s : State) (proof : Option Bytes) (b0 b1 b2 b3 : Byte), ready s = true →
    requestWellFormed proof [b0, b1, b2, b3] = true → s.store.lifecycle = .blank →
    let floor := BitVec.ofNat 32 (b0.toNat + 256 * b1.toNat + 65536 * b2.toNat + 16777216 * b3.toNat)
    let complete := s.store.slotMap.isSome && s.store.identity.isSome &&
      !endorsementPartial s.store.endorsement && s.store.keys.any keyActive
    complete = true →
      ∃ t u, exec (.finishProvisioning proof [b0, b1, b2, b3]) s = .next t ∧
        t.mc.state = .working (.restart (some floor)) ∧ t.store = s.store ∧
        exec .restartReset t = .next u ∧ u.store = s.store ∧ blocksReset u = true ∧
        u.writes.current = some ⟨.partReset, .provisioning floor⟩ ∧
        exec .storeWriteEnd u =
          .next
            { State.reset with
              flash := s.flash
              store :=
                { s.store with
                  lifecycle := .provisioned
                  slotRecord := some ⟨.a, .valid, .empty⟩
                  floor := some floor
                  failures := 0 }
              rstLow := s.rstLow
              clock := s.clock
              draws := s.draws
              pending := s.pending }

/-- R156: TAKE_OWNERSHIP digests the token and writes the part OWNED with the digest as the verifier and a failure count of
0; the token is zeroed in the request buffer when it has been digested. Outside PROVISIONED it is refused with BAD_STATE
whatever the body, and in PROVISIONED with BAD_ARGUMENT for a body that is not 32 bytes long. -/
def Obligations.TakeOwnershipChain : Prop :=
  (∀ (s : State) (proof : Option Bytes) (body : Bytes), channelFree s = true → requestWellFormed proof body = true →
    body.length ≤ 259 →
    (s.store.lifecycle ≠ .provisioned →
      exec (.takeOwnership proof body) s = .next (answered .takeOwnership .badState [] s)) ∧
    (s.store.lifecycle = .provisioned → body.length ≠ 32 →
      exec (.takeOwnership proof body) s = .next (answered .takeOwnership .badArgument [] s))) ∧
  ∀ (s : State) (proof : Option Bytes) (token : Bytes), ready s = true → token.length = 32 →
    requestWellFormed proof token = true →
    s.store.lifecycle = .provisioned →
      ∃ t u, exec (.takeOwnership proof token) s = .next t ∧
        t.de.channel = some (bufferItem .newToken token) ∧ t.de.absorbing = some .channel ∧ t.store = s.store ∧
        exec .chunkEnd t = .next u ∧ u.store = s.store ∧ u.de.channel = none ∧
        frameBody u.mc.request = List.replicate 32 0 ∧
        u.writes.current = some ⟨.channel, .takeOwnership (sha256 token)⟩ ∧
        exec .storeWriteEnd u =
          .next
            { answered .takeOwnership .ok [] s with
              store :=
                { s.store with lifecycle := .owned, verifier := some (sha256 token), failures := 0 }
              de.scanFirst := false }

/-- R157, R158, R160, R161, R163, R164, R162, R166, R171, R172, R176: the six owner-gated requests with the right proof and
a failure count of 0: the proof is digested and the request's own checks are made. Where they pass, its record is written as
one write and OK is answered. Where one fails, the answer comes without a write: BAD_ARGUMENT; BAD_STATE for a key slot
that is not EMPTY (ADD) or not ACTIVE (REVOKE); KEY_IN_USE for the booted signer and for the only ACTIVE slot; NO_SPACE above
2048 bytes; NOT_FOUND where no record is to be erased. That the working copy holds the new record during the write of
STORE_CREDENTIAL is the model's choice (log 32). -/
def Obligations.GatedRequestsWithRightProof : Prop :=
  ∀ (s : State) (proof : Bytes), ready s = true → proofRight s proof = true → s.store.failures = 0 →
    let done (r : Request) (body : Bytes) (store : Store) : State :=
      { answered r .ok body s with store := store, de.scanFirst := false }
    let refused (r : Request) (body : Bytes) (status : Status) : Prop :=
      ∃ t, exec (requestInstr r (some proof) body) s = .next t ∧
        exec .chunkEnd t = .next { answered r status [] s with de.scanFirst := false }
    let used (c : Credential) :=
      ((s.store.credentials.filter fun d => d.handle != c.handle).map fun d => d.secret.length).sum + c.secret.length
    let totals (l : List Credential) : Bytes :=
      [BitVec.ofNat 8 l.length] ++ leBytes 2 (l.map fun d => d.secret.length).sum
    (∀ token : Bytes, token.length = 32 →
      ∃ t u v, exec (.changeOwnerToken (some proof) token) s = .next t ∧ exec .chunkEnd t = .next u ∧
        u.de.channel = some (bufferItem .newToken token) ∧ exec .chunkEnd u = .next v ∧ v.store = s.store ∧
        v.writes.current = some ⟨.channel, .verifier (sha256 token)⟩ ∧
        exec .storeWriteEnd v =
          .next (done .changeOwnerToken [] { s.store with verifier := some (sha256 token) })) ∧
    (∃ t u, exec (.releaseOwnership (some proof) []) s = .next t ∧ exec .chunkEnd t = .next u ∧
      u.store = s.store ∧ u.writes.current = some ⟨.channel, .releaseOwnership⟩ ∧
      exec .storeWriteEnd u =
        .next (done .releaseOwnership []
          { s.store with lifecycle := .provisioned, verifier := none, failures := 0, credentials := [] })) ∧
    (∀ (i : Byte) (key : Bytes), key.length = 64 → i.toNat ≤ 3 → s.store.keys.length = 4 →
      s.store.keys.getD i.toNat .empty = .empty →
      ∃ t u, exec (.addUpdateKey (some proof) (i :: key)) s = .next t ∧ exec .chunkEnd t = .next u ∧
        u.store = s.store ∧ u.writes.current = some ⟨.channel, .keySlot i.toNat (.active key)⟩ ∧
        exec .storeWriteEnd u =
          .next (done .addUpdateKey [i, 0x01]
            { s.store with keys := s.store.keys.set i.toNat (.active key) })) ∧
    (∀ (i : Byte) (key : Bytes), i.toNat ≤ 3 → s.store.keys.length = 4 →
      s.store.keys.getD i.toNat .empty = .active key → s.isc.boot.signer ≠ some i.toNat →
      (s.store.keys.filter keyActive).length ≠ 1 →
      ∃ t u, exec (.revokeUpdateKey (some proof) [i]) s = .next t ∧ exec .chunkEnd t = .next u ∧
        u.store = s.store ∧ u.writes.current = some ⟨.channel, .keySlot i.toNat (.revoked key)⟩ ∧
        exec .storeWriteEnd u =
          .next (done .revokeUpdateKey [i, 0x02]
            { s.store with keys := s.store.keys.set i.toNat (.revoked key) })) ∧
    (∀ (body : Bytes) (c : Credential), storeBodyOf body c → directoryOk s = true → used c ≤ 2048 →
      let after :=
        (s.store.credentials.filter fun d => decide (d.handle < c.handle)) ++
          c :: s.store.credentials.filter fun d => decide (c.handle < d.handle)
      ∃ t u, exec (.storeCredential (some proof) body) s = .next t ∧ exec .chunkEnd t = .next u ∧
        u.store = s.store ∧ u.writes.current = some ⟨.channel, .putCredential c⟩ ∧
        u.cred = some ⟨c, none, none, false⟩ ∧ (∀ b ∈ u.mc.request.drop (36 + 44), b = 0) ∧
        exec .storeWriteEnd u =
          .next (done .storeCredential ([BitVec.ofNat 8 c.handle] ++ totals after)
            { s.store with credentials := after })) ∧
    (∀ (h : Byte) (c : Credential), h.toNat ≤ 31 → credentialAt s.store.credentials h.toNat = some c →
      ∃ t u, exec (.eraseCredential (some proof) [h]) s = .next t ∧ exec .chunkEnd t = .next u ∧
        u.store = s.store ∧ u.writes.current = some ⟨.channel, .removeCredential h.toNat⟩ ∧
        u.cred = some ⟨c, none, none, false⟩ ∧
        exec .storeWriteEnd u =
          .next (done .eraseCredential
            ([h] ++ totals (s.store.credentials.filter fun d => d.handle != h.toNat))
            { s.store with credentials := s.store.credentials.filter fun d => d.handle != h.toNat })) ∧
    ∀ body : Bytes, body.length ≤ 256 →
      let i := (byteAt body 0).toNat
      let slot := s.store.keys.getD i .empty
      (body.length ≠ 32 → refused .changeOwnerToken body .badArgument) ∧
      (body ≠ [] → refused .releaseOwnership body .badArgument) ∧
      (body.length ≠ 65 ∨ 3 < i → refused .addUpdateKey body .badArgument) ∧
      (body.length = 65 → i ≤ 3 → slot ≠ .empty → refused .addUpdateKey body .badState) ∧
      (body.length ≠ 1 ∨ 3 < i → refused .revokeUpdateKey body .badArgument) ∧
      (body.length = 1 → i ≤ 3 → (∀ key, slot ≠ .active key) → refused .revokeUpdateKey body .badState) ∧
      (∀ key, body.length = 1 → i ≤ 3 → slot = .active key →
        s.isc.boot.signer = some i ∨ (s.store.keys.filter keyActive).length = 1 →
        refused .revokeUpdateKey body .keyInUse) ∧
      ((∀ c, ¬ storeBodyOf body c) → refused .storeCredential body .badArgument) ∧
      (∀ c, storeBodyOf body c → 2048 < used c → refused .storeCredential body .noSpace) ∧
      (body.length ≠ 1 ∨ 31 < i → refused .eraseCredential body .badArgument) ∧
      (body.length = 1 → i ≤ 31 → credentialAt s.store.credentials i = none → refused .eraseCredential body .notFound)

/-- R157, R158, R159: the owner gate of the six requests that are gated whatever they name. Without a proof it answers
DENIED, at a failure count of 8 LOCKED_OUT; a wrong proof raises the count by one and is answered DENIED; a right proof
with a count of 1 to 7 first writes the count as 0. A POWER_ON or PIN reset lowers a count of 8 to 7. Outside OWNED each is
refused with BAD_STATE and never reaches the gate, whatever its proof and body. -/
def Obligations.OwnerGateCountsWrongProofs : Prop :=
  ∀ r ∈ [Request.changeOwnerToken, .releaseOwnership, .addUpdateKey, .revokeUpdateKey, .storeCredential,
      .eraseCredential],
  (∀ (s : State) (proof : Option Bytes) (body : Bytes), channelFree s = true → requestWellFormed proof body = true →
    body.length ≤ 259 → s.store.lifecycle ≠ .owned →
    exec (requestInstr r proof body) s = .next (answered r .badState [] s)) ∧
  ∀ (s : State) (body : Bytes), ready s = true → s.store.lifecycle = .owned → body.length ≤ 256 →
    exec (requestInstr r none body) s = .next (answered r .denied [] s) ∧
    ∀ proof : Bytes, proof.length = 32 →
      (s.store.failures = 8 →
        exec (requestInstr r (some proof) body) s = .next (answered r .lockedOut [] s) ∧
        (∃ t, runCommands [.pinReset, .rstNRelease, .storeWriteEnd] s = some t ∧
          t.store = { s.store with failures := 7 }) ∧
        ∃ t, runCommands [.powerOn, .storeWriteEnd] s = some t ∧ t.store = { s.store with failures := 7 }) ∧
      (s.store.failures < 8 → s.store.verifier ≠ some (sha256 proof) →
        ∃ t u, exec (requestInstr r (some proof) body) s = .next t ∧ t.store = s.store ∧
          t.de.channel = some (bufferItem .ownerProof proof) ∧ exec .chunkEnd t = .next u ∧ u.store = s.store ∧
          slice u.mc.request 4 32 = List.replicate 32 0 ∧
          exec .storeWriteEnd u =
            .next
              { answered r .denied [] s with
                store := { s.store with failures := s.store.failures + 1 }
                de.scanFirst := false }) ∧
      (s.store.failures < 8 → s.store.failures ≠ 0 → s.store.verifier = some (sha256 proof) →
        ∃ t u v, exec (requestInstr r (some proof) body) s = .next t ∧ exec .chunkEnd t = .next u ∧
          u.store = s.store ∧ u.writes.current = some ⟨.channel, .failures 0⟩ ∧
          u.mc.state = .working (.gateWrite r true) ∧ exec .storeWriteEnd u = .next v ∧
          v.store = { s.store with failures := 0 } ∧
          runCommands [requestInstr r (some proof) body, .chunkEnd] { s with store := { s.store with failures := 0 } } =
            some v)

/-! ### Credentials (chapter 9) -/

/-- R165 to R175, R179, R182, R183, R132, R157, R158: RELEASE_CREDENTIAL and DERIVE. Outside OWNED each answers BAD_STATE;
arguments out of range and the release of an INTERNAL record BAD_ARGUMENT; a missing record NOT_FOUND. An owner-gated record
is used only past the gate: no proof DENIED, a count of 8 LOCKED_OUT, a wrong proof counted and DENIED, a right proof with a
count of 1 to 7 first writes the count as 0 and goes on as with a count of 0. With a NONE binding,
or a SIGNER binding that the boot record satisfies, the release places the secret and DERIVE the digest of the secret and
the context, as secret responses with no bound mask; a SIGNER binding not satisfied is answered POLICY. A LANES binding is
answered POLICY under RECOVERY or UNVERIFIED; after a pass the values of the lanes of the mask, in ascending order, are
digested, and where the digest is the reference the use goes on with the mask as bound mask, else POLICY. The begin of an
extend of a bound lane scrubs such a response, and turns a use in hand to POLICY; that this answer stands at the completion
of the digest in hand, and not at the extend itself, is the model's choice (log 22). -/
def Obligations.CredentialUse : Prop :=
  (∀ (s : State) (proof : Option Bytes) (body : Bytes), ready s = true → requestWellFormed proof body = true →
    body.length ≤ 259 →
    let h := (byteAt body 0).toNat
    let found := credentialAt s.store.credentials h
    (s.store.lifecycle ≠ .owned →
      exec (.releaseCredential proof body) s = .next (answered .releaseCredential .badState [] s) ∧
      exec (.derive proof body) s = .next (answered .derive .badState [] s)) ∧
    (s.store.lifecycle = .owned →
      (body.length ≠ 1 ∨ 31 < h →
        exec (.releaseCredential proof body) s = .next (answered .releaseCredential .badArgument [] s)) ∧
      (body.length = 1 → h ≤ 31 → found = none →
        exec (.releaseCredential proof body) s = .next (answered .releaseCredential .notFound [] s)) ∧
      (∀ c, body.length = 1 → h ≤ 31 → found = some c → c.exportable = false →
        exec (.releaseCredential proof body) s = .next (answered .releaseCredential .badArgument [] s)) ∧
      (body.length < 2 ∨ 65 < body.length ∨ 31 < h →
        exec (.derive proof body) s = .next (answered .derive .badArgument [] s)) ∧
      (2 ≤ body.length → body.length ≤ 65 → h ≤ 31 → found = none →
        exec (.derive proof body) s = .next (answered .derive .notFound [] s)))) ∧
  (∀ (s : State) (proof : Option Bytes) (h : Byte) (context : Bytes) (c : Credential), ready s = true →
    s.store.lifecycle = .owned → requestWellFormed proof (h :: context) = true → h.toNat ≤ 31 →
    1 ≤ context.length → context.length ≤ 64 → credentialAt s.store.credentials h.toNat = some c →
    1 ≤ c.secret.length → c.secret.length ≤ 128 →
    let uses (r : Request) (body : Bytes) :=
      (r = .releaseCredential ∧ body = [h] ∧ c.exportable = true) ∨ (r = .derive ∧ body = h :: context)
    (c.gated = true → ∀ r body, uses r body →
      (proof = none → exec (requestInstr r proof body) s = .next (answered r .denied [] s)) ∧
      ∀ p, proof = some p →
        (s.store.failures = 8 → exec (requestInstr r proof body) s = .next (answered r .lockedOut [] s)) ∧
        (s.store.failures < 8 → s.store.verifier ≠ some (sha256 p) →
          runCommands [requestInstr r proof body, .chunkEnd, .storeWriteEnd] s =
            some
              { answered r .denied [] s with
                store := { s.store with failures := s.store.failures + 1 }
                de.scanFirst := false }) ∧
        (s.store.failures < 8 → s.store.failures ≠ 0 → s.store.verifier = some (sha256 p) →
          ∃ u v, runCommands [requestInstr r proof body, .chunkEnd] s = some u ∧ u.store = s.store ∧
            u.writes.current = some ⟨.channel, .failures 0⟩ ∧ u.cred = some ⟨c, none, none, false⟩ ∧
            exec .storeWriteEnd u = .next v ∧ v.store = { s.store with failures := 0 } ∧
            runCommands [requestInstr r proof body, .chunkEnd] { s with store := { s.store with failures := 0 } } =
              some v)) ∧
    (c.gated = false ∨ (∃ p, proof = some p ∧ proofRight s p = true) ∧ s.store.failures = 0 →
      let run (i : Instr) (ends : List Instr) := runCommands (i :: (if c.gated then [.chunkEnd] else []) ++ ends) s
      let policy (r : Request) (body : Bytes) : Prop :=
        run (requestInstr r proof body) [] =
          some { answered r .policy [] s with de.scanFirst := if c.gated then false else s.de.scanFirst }
      let booted := s.isc.boot.outcome = .pass ∨ s.isc.boot.outcome = .fallbackPass
      let signed (k : Nat) (v : Word32) : Prop :=
        booted ∧ s.isc.boot.signer = some k ∧ ∃ b, s.isc.boot.version = some b ∧ v ≤ b
      let released := [BitVec.ofNat 8 c.handle, credClassCode c.cls, BitVec.ofNat 8 c.secret.length] ++ c.secret
      let derived := [BitVec.ofNat 8 c.handle] ++ sha256 (c.secret ++ context)
      let stands (u : State) : Prop := u.store = s.store ∧ u.cred = none ∧ u.clock = s.clock ∧ u.lanes = s.lanes ∧ u.tu = s.tu
      ((c.binding = .none ∨ ∃ k v, c.binding = .signer k v ∧ signed k v) →
        (c.exportable = true →
          ∃ u, run (.releaseCredential proof [h]) [] = some u ∧
            holdsSecret .releaseCredential none released u = true ∧ stands u) ∧
        ∃ t u, run (.derive proof (h :: context)) [] = some t ∧
          t.de.channel = some (bufferItem .derive (c.secret ++ context)) ∧
          t.cred = some ⟨c, some s.isc.boot, none, false⟩ ∧ exec .chunkEnd t = .next u ∧
          holdsSecret .derive none derived u = true ∧ u.de.channel = none ∧ stands u) ∧
      (∀ k v r body, c.binding = .signer k v → ¬ signed k v → uses r body → policy r body) ∧
      ∀ mask reference, c.binding = .lanes mask reference →
        (¬ booted → ∀ r body, uses r body → policy r body) ∧
        (booted → mask ≠ 0 → (∀ k, k < 8 → (s.lanes.getD k .afterReset).value.length = 32) →
          let values := (List.range 8).flatMap fun k =>
            if mask.getLsbD k then (s.lanes.getD k .afterReset).value else []
          ∀ r body, uses r body →
            ∃ t u, run (requestInstr r proof body) [] = some t ∧
              t.de.channel = some (bufferItem .laneBinding values) ∧
              t.cred = some ⟨c, some s.isc.boot, some values, false⟩ ∧ exec .chunkEnd t = .next u ∧
              u.store = s.store ∧
              (sha256 values ≠ reference → holdsAnswer r .policy [] u = true ∧ stands u) ∧
              (sha256 values = reference → r = .releaseCredential →
                holdsSecret .releaseCredential (some mask) released u = true ∧ stands u) ∧
              (sha256 values = reference → r = .derive →
                u.de.channel = some (bufferItem .derive (c.secret ++ context)) ∧ u.cred = t.cred ∧
                  ∃ v, exec .chunkEnd u = .next v ∧ holdsSecret .derive (some mask) derived v = true ∧
                    stands v)))) ∧
  (∀ (s t : State) (k : Nat) (record : LogRecord), beginExtend k record s = some t →
    (∀ x mask, s.mc.response = some x → x.secret = true → x.boundMask = some mask → mask.getLsbD k = true →
      t.mc.response = none ∧ t.mc.scrubTimer = none) ∧
    (∀ x, s.mc.response = some x →
      x.secret = false ∨ (∀ mask, x.boundMask = some mask → mask.getLsbD k = false) → t.mc = s.mc) ∧
    ∀ w mask reference, s.cred = some w → w.record.binding = .lanes mask reference → mask.getLsbD k = true →
      t.cred = some { w with boundLaneExtended := true }) ∧
  ∀ (s : State) (w : CredWork) (mask : Byte) (reference input : Bytes) (work : DigestWork), s.cred = some w →
    w.boundLaneExtended = true → w.record.binding = .lanes mask reference → 1 ≤ input.length → input.length ≤ 256 →
    s.de.absorbing = some .channel → s.de.channel = some (bufferItem work input) →
    (∃ r, s.mc.state = .working (.laneBinding r)) ∨ s.mc.state = .working .deriveDigest →
    ∃ t, exec .chunkEnd s = .next t ∧ t.cred = none ∧ t.mc.state = .idle ∧
      t.mc.response = some ⟨responseFrame (byteAt s.mc.request 2) .policy [], false, false, none, none⟩

/-! ### Lanes and attestation (chapter 7) -/

/-- R130, R131, R134, R135: EXTEND_LANE of lane 4 to 7 with room in its log: the lane stands until the fold's digest
completes; then its value is the digest of the old value and the event digest, the record is the newest of its log, and
value and count are answered. A full log is answered LOG_FULL; lanes 0 to 3, an index above 7 and a body of another length are
answered BAD_ARGUMENT, with no lane changed. -/
def Obligations.ExtendLaneFoldsDigest : Prop :=
  (∀ (s : State) (proof : Option Bytes) (body : Bytes), channelFree s = true → requestWellFormed proof body = true →
    body.length ≤ 259 → body.length ≠ 37 →
    exec (.extendLane proof body) s = .next (answered .extendLane .badArgument [] s)) ∧
  ∀ (s : State) (proof : Option Bytes) (k : Byte) (digest : Bytes) (t0 t1 t2 t3 : Byte), ready s = true →
    digest.length = 32 → s.lanes.length = 8 →
    requestWellFormed proof ([k] ++ digest ++ [t0, t1, t2, t3]) = true →
    let lane := s.lanes.getD k.toNat .afterReset
    let record : LogRecord := ⟨digest, .request, t3 ++ t2 ++ t1 ++ t0⟩
    let value := sha256 (lane.value ++ digest)
    (4 ≤ k.toNat → k.toNat ≤ 7 → lane.log.length < 16 → lane.value.length = 32 → lane.extending = none →
      ∃ t u, exec (.extendLane proof ([k] ++ digest ++ [t0, t1, t2, t3])) s = .next t ∧
        t.lanes = s.lanes.set k.toNat { lane with extending := some ⟨lane.value, record⟩ } ∧
        t.de.channel = some (bufferItem .laneExtend (lane.value ++ digest)) ∧ exec .chunkEnd t = .next u ∧
        u.lanes = s.lanes.set k.toNat ⟨value, lane.log ++ [record], none⟩ ∧
        holdsAnswer .extendLane .ok ([k] ++ value ++ [BitVec.ofNat 8 (lane.log.length + 1)]) u = true ∧
        u.store = s.store ∧ u.tu = s.tu ∧ u.isc = s.isc ∧ u.flash = s.flash ∧ u.writes = s.writes ∧
        u.de.channel = none ∧ u.mc.flags = s.mc.flags) ∧
    (4 ≤ k.toNat → k.toNat ≤ 7 → 16 ≤ lane.log.length →
      exec (.extendLane proof ([k] ++ digest ++ [t0, t1, t2, t3])) s = .next (answered .extendLane .logFull [] s)) ∧
    (k.toNat ≤ 3 ∨ 7 < k.toNat →
      exec (.extendLane proof ([k] ++ digest ++ [t0, t1, t2, t3])) s =
        .next (answered .extendLane .badArgument [] s))

/-- R142, R143, R144, R79: QUOTE composes its body at the taking, digests it, and signs the digest with the identity
key. At the end of the SIGN the unit draws a number of the random source (log 15): with one from 1 to the order less one
the response is the body with the signature of its digest made with that number. A number outside that range, or one that
yields r or s of 0, is discarded: the operation has not ended, and draws again. Without an identity key it is refused
with BAD_STATE whatever the body, and with one, with BAD_ARGUMENT for a body of another length or a lane mask of 0. -/
def Obligations.QuoteSignsItsBody : Prop :=
  (∀ (s : State) (proof : Option Bytes) (body : Bytes), channelFree s = true → requestWellFormed proof body = true →
    body.length ≤ 259 →
    (s.store.identity = none → exec (.quote proof body) s = .next (answered .quote .badState [] s)) ∧
    (s.store.identity.isSome = true → body.length ≠ 33 ∨ byteAt body 32 = 0 →
      exec (.quote proof body) s = .next (answered .quote .badArgument [] s))) ∧
  ∀ (s : State) (proof : Option Bytes) (nonce : Bytes) (mask : Byte) (key : IdentityKey), ready s = true →
    nonce.length = 32 → requestWellFormed proof (nonce ++ [mask]) = true → s.store.identity = some key →
    mask ≠ 0 → (∀ k, k < 8 → (s.lanes.getD k .afterReset).value.length = 32) →
    let values := (List.range 8).flatMap fun k =>
      if mask.getLsbD k then (s.lanes.getD k .afterReset).value else []
    let body :=
      [0x01, lifecycleCode s.store.lifecycle, bootOutcomeCode s.isc.boot.outcome, slotCode s.isc.boot.slot, mask,
        0, 0, 0] ++ leBytes 4 ((s.isc.boot.version.map BitVec.toNat).getD 0) ++
        leBytes 4 ((s.store.floor.map BitVec.toNat).getD 0) ++ nonce ++ values
    ∃ t u v, exec (.quote proof (nonce ++ [mask])) s = .next t ∧ t.mc.state = .working (.quoteDigest body) ∧
      t.de.channel = some (bufferItem .quoteBody body) ∧
      runCommands (List.replicate (chunkCount body.length) .chunkEnd) t = some u ∧
      u.su.channel = some ⟨.sign (sha256 body) key.secret, true⟩ ∧ u.draws = s.draws ∧
      exec .signatureCompletion u = .next v ∧ v.store = s.store ∧ v.lanes = s.lanes ∧ v.tu = s.tu ∧
      v.isc = s.isc ∧ v.draws = s.draws + 1 ∧
      let number := Config.randomNumber s.draws
      match (if 1 ≤ number ∧ number < p256Order then ecdsaSign key.secret (beNat (sha256 body)) number else none) with
      | some (r, s') =>
        v.su.channel = none ∧ holdsAnswer .quote .ok (body ++ leBytes 32 r ++ leBytes 32 s') v = true
      | none => v.su.channel = some ⟨.sign (sha256 body) key.secret, true⟩ ∧ v.mc = u.mc

/-! ### The Digest Engine and the scan (chapters 4 and 5) -/

/-- R70, R72, R73, R74: a BUFFER item in the free engine holds it for one CHUNK_END a chunk, in either place, and at its
last chunk hands over the SHA-256 digest of its input, however many chunks it has; where no operation is QUEUED without
a read that holds the flash (an invariant, stated in LogsRefusalsAndWriteRecordAgree) the scan's records stand
meanwhile; a channel item's end sets the owed mark of a segment in the scan place. A SEGMENT item fed its chunks in
order yields the digest of the segment. The free engine starts an owed segment chunk first, then a BUFFER item, of two
the one placed first, then a segment chunk, else nothing. Once a restart is due no chunk ends (log 6). -/
def Obligations.ChunkedDigestIsSha256 : Prop :=
  (∀ (work : DigestWork) (input : Bytes), input ≠ [] →
    let item (n : Nat) : DigestItem := (DigestItem.absorbed)^[n] (bufferItem work input)
    (∀ n, (item n).lastChunk = decide (chunkCount input.length ≤ n + 1)) ∧
    shaOutput (item (chunkCount input.length)).running = sha256 input ∧
    ∀ (s : State) (n : Nat), restartDue s = false →
      (s.de.absorbing = some .channel → s.de.channel = some (item n) →
        (n + 1 < chunkCount input.length →
          ∃ t, exec .chunkEnd s = .next t ∧ t.de.channel = some (item (n + 1)) ∧ t.de.absorbing = some .channel ∧
            t.mc = s.mc ∧ t.store = s.store ∧ t.lanes = s.lanes) ∧
        (n + 1 = chunkCount input.length →
          exec .chunkEnd s =
            .next (settle (channelDigest (sha256 input)
              { s with
                fp.sent := []
                de.channel := none
                de.absorbing := none
                de.owed := s.de.owed || s.de.scan.any fun i => decide (i.kind = .segment) })))) ∧
      (s.de.absorbing = some .scan → s.de.scan = some (item n) →
        (n + 1 < chunkCount input.length →
          ∃ t, exec .chunkEnd s = .next t ∧ t.de.scan = some (item (n + 1)) ∧ t.de.absorbing = some .scan ∧
            t.mc = s.mc ∧ t.store = s.store ∧ t.lanes = s.lanes ∧ (queueOk s = true → t.isc = s.isc)) ∧
        (n + 1 = chunkCount input.length →
          exec .chunkEnd s =
            .next (settle (scanDigest work (sha256 input)
              { s with fp.sent := [], de.scan := none, de.absorbing := none, de.owed := false }))))) ∧
  (∀ data : Bytes, data ≠ [] →
    shaOutput ((List.range (chunkCount data.length)).foldl
      (fun i j => ({ i with inHand := slice data (256 * j) 256 } : DigestItem).absorbed)
      (segmentItem data.length)).running = sha256 data) ∧
  ∀ s : State,
    (∀ i, (placeScanItem i s).de.scanFirst = s.de.channel.isNone) ∧
    (∀ i, (placeChannelItem i s).de.scanFirst = s.de.scan.isSome) ∧
    (s.de.absorbing.isSome = true → startAbsorption s = s) ∧
    (s.de.absorbing = none →
      (∀ i c, s.de.scan = some i → i.kind = .segment → i.chunkSlot = some c → s.de.owed = true ∨ s.de.channel = none →
        let t := startAbsorption s
        t.de =
          { s.de with
            scan := some { i with chunkSlot := none, inHand := c }
            absorbing := some .scan
            owed := false }) ∧
      (∀ i, s.de.scan = some i → i.kind = .buffer → s.de.channel = none ∨ s.de.scanFirst = true →
        startAbsorption s = { s with de.absorbing := some .scan }) ∧
      (∀ j, s.de.channel = some j →
        (∀ i, s.de.scan = some i →
          (i.kind = .buffer ∧ s.de.scanFirst = false) ∨
            (i.kind = .segment ∧ (i.chunkSlot = none ∨ s.de.owed = false))) →
        startAbsorption s = { s with de.absorbing := some .channel }) ∧
      (s.de.channel = none → (∀ i, s.de.scan = some i → i.kind = .segment ∧ i.chunkSlot = none) →
        startAbsorption s = s))

/-- R62, R87, R88, R92, R96: the CHUNK_DELIVERY of a manifest reads its 544 bytes and makes checks 1 to 4 in order: a
failure ends a staged scan with that reason (R113), and a boot scan goes on to the event digest of its SCAN_FAILURE record
(R101, R104); a pass copies the signer's key and digests bytes 0 to 479, with either owner. R71, R94: the delivery of a
segment's chunk reaches the item's chunk slot, and stays there while the engine is busy; the free engine takes it at once,
and the request for the next chunk of the segment follows, if there is one. With no chunk read in progress nothing happens
(log 5), and once a restart is due none is delivered (log 6). -/
def Obligations.ManifestDelivery : Prop :=
  (∀ s : State, (∀ c, s.fp.chunk = some c → c.reading = false) → exec .chunkDelivery s = .next { s with fp.sent := [] }) ∧
  (∀ (s : State) (address : Nat), enginesFree s = true → busFree s = true → s.fp.op = none → restartDue s = false →
    s.fp.chunk = some ⟨s.isc.scan.owner, address, 544, true⟩ → s.isc.scan.phase = .manifestRead →
    let manifest := (List.range 544).map fun i => s.flash.read (address + i)
    let signer := s.store.keys.getD (byteAt manifest 5).toNat .empty
    let delivered : State :=
      { s with fp.chunk := none, fp.chunkBuffer := [], fp.sent := [], isc.scan.manifest := some manifest }
    let failed (reason : ScanReason) (code : Byte) : State := scanFailed s.isc.scan.owner reason code delivered
    let magic := manifest.take 4 = [0x46, 0x4D, 0x4E, 0x31]
    let format :=
      byteAt manifest 4 = 1 ∧ (byteAt manifest 5).toNat ≤ 3 ∧ 1 ≤ (byteAt manifest 6).toNat ∧
      (byteAt manifest 6).toNat ≤ 8 ∧ byteAt manifest 7 = 0 ∧ (∀ j, 12 ≤ j → j < 16 → byteAt manifest j = 0) ∧
      (∀ j, j < 16 → (byteAt manifest (34 + 8 * j)).toNat ≤ 3 ∧ (byteAt manifest (35 + 8 * j)).toNat ≤ 7 ∧
        byteAt manifest (38 + 8 * j) = 0 ∧ byteAt manifest (39 + 8 * j) = 0) ∧
      ∀ j, j < (byteAt manifest 6).toNat → byteAt manifest (163 + 40 * j) = 0
    (¬ magic → exec .chunkDelivery s = .next (failed .badMagic 0x01)) ∧
    (magic → ¬ format → exec .chunkDelivery s = .next (failed .badFormat 0x02)) ∧
    (magic → format → signer = .empty → exec .chunkDelivery s = .next (failed .signerEmpty 0x03)) ∧
    (∀ key, magic → format → signer = .revoked key →
      exec .chunkDelivery s = .next (failed .signerRevoked 0x04)) ∧
    ∀ key, magic → format → signer = .active key →
      exec .chunkDelivery s =
        .next
          { delivered with
            isc.scan.signerKey := some key
            isc.scan.phase := .manifestDigest
            de.scan := some (bufferItem .manifest (manifest.take 480))
            de.scanFirst := true
            de.owed := false
            de.absorbing := some .scan }) ∧
  ∀ (s : State) (owner : ScanOwner) (address length : Nat) (item : DigestItem) (manifest : Bytes) (m : SlotMap),
    busFree s = true → s.fp.op = none → restartDue s = false → s.su.scan = none → s.su.channel = none →
    s.fp.chunk = some ⟨owner, address, length, true⟩ → s.isc.scan.phase = .segments → s.de.scan = some item →
    item.kind = .segment → item.chunkSlot = none → s.isc.scan.manifest = some manifest → s.store.slotMap = some m →
    let bytes := (List.range length).map fun i => s.flash.read (address + i)
    let g := manifestSegment manifest s.isc.scan.segmentIndex
    let j := s.isc.scan.nextChunk
    let start := m.slotStart s.isc.scan.slot + g.offset * 4096
    let delivered : State := { s with fp.chunk := none, fp.chunkBuffer := [], fp.sent := [] }
    let taken : State :=
      { delivered with
        de.scan := some { item with inHand := bytes }
        de.absorbing := some .scan
        de.owed := false }
    (s.de.absorbing.isSome = true →
      exec .chunkDelivery s = .next { delivered with de.scan := some { item with chunkSlot := some bytes } }) ∧
    (s.de.absorbing = none → s.de.channel = none →
      (chunkCount g.length ≤ j → exec .chunkDelivery s = .next taken) ∧
      (j < chunkCount g.length →
        exec .chunkDelivery s =
          .next
            { taken with
              isc.scan.nextChunk := j + 1
              fp.chunk := some ⟨s.isc.scan.owner, start + 256 * j, min 256 (g.length - 256 * j), true⟩
              fp.sent := [.read (start + 256 * j)] }))

/-- R93: at the completion of the MANIFEST digest the digest is stored, the VERIFY is placed with it, the copied key and
signature bytes 480 to 543, and the phase is SIGNATURE; the VERIFY runs at once, or waits while the channel's operation runs.
R78, R81, R87, R89, R90, R94, R108: the completion of the VERIFY: an INVALID one ends the scan with BAD_SIGNATURE; then check 6
compares the version with the floor, check 7 looks at the ends and bases of the region entries, check 8 at where each
non-empty one maps, check 9 at the offsets, lengths, lanes and spans of the segments. The first that fails ends a staged scan
with its reason (R113), and a boot scan goes on to the event digest of its SCAN_FAILURE record (R101, R104). Otherwise the
chunk total of a staged scan is counted, and with either owner segment 0 begins with its digest item and the read of its first
chunk. An operation that waited in the other place becomes RUNNING at the completion. Once a restart is due neither ends
(log 6). -/
def Obligations.VerifyCompletionDecidesScan : Prop :=
  (∀ (s : State) (input key manifest : Bytes) (n : Nat), input ≠ [] → n + 1 = chunkCount input.length → s.fp.op = none →
    s.fp.chunk = none → s.de.channel = none → s.de.absorbing = some .scan → restartDue s = false →
    s.de.scan = some ((DigestItem.absorbed)^[n] (bufferItem .manifest input)) → s.isc.scan.signerKey = some key →
    s.isc.scan.manifest = some manifest →
    let placed (first running : Bool) : State :=
      { s with
        fp.sent := []
        de := { s.de with scan := none, absorbing := none, owed := false }
        isc.scan.manifestDigest := sha256 input
        isc.scan.phase := .signature
        su :=
          { s.su with
            scan := some ⟨.verify (sha256 input) key ((manifest.drop 480).take 64), running⟩
            scanFirst := first } }
    (s.su.channel = none → exec .chunkEnd s = .next (placed true true)) ∧
    ∀ op, s.su.channel = some ⟨op, true⟩ → exec .chunkEnd s = .next (placed false false)) ∧
  (∀ (s : State) (digest key signature manifest : Bytes) (m : SlotMap), busFree s = true → s.fp.op = none →
    s.fp.chunk = none → s.de.scan = none → s.de.channel = none → s.de.absorbing = none → s.su.channel = none →
    s.su.scan = some ⟨.verify digest key signature, true⟩ → s.isc.scan.phase = .signature →
    s.isc.scan.manifest = some manifest → s.store.slotMap = some m → s.mc.state = .idle →
    let valid := ecdsaVerify (leAt key 0 32) (leAt key 32 32) (beNat digest) (leAt signature 0 32) (leAt signature 32 32)
    let ended : State := { s with su.scan := none, fp.sent := [] }
    let failed (reason : ScanReason) (code : Byte) : State := scanFailed s.isc.scan.owner reason code ended
    let stop (j : Nat) := leAt manifest (32 + 8 * j) 2
    let target (j : Nat) := (byteAt manifest (34 + 8 * j)).toNat
    let base (j : Nat) := leAt manifest (36 + 8 * j) 2 * 4096
    let before (j : Nat) := if j = 0 then 0 else stop (j - 1)
    let size (j : Nat) := (stop j - before j) * 4096
    let inSlot := m.slotLength * 65536
    let meet (a la b lb : Nat) : Prop := ∃ p, a ≤ p ∧ p < a + la ∧ b ≤ p ∧ p < b + lb
    let count := (byteAt manifest 6).toNat
    let offset (k : Nat) := leAt manifest (160 + 40 * k) 2 * 4096
    let lane (k : Nat) := (byteAt manifest (162 + 40 * k)).toNat
    let length (k : Nat) := leAt manifest (164 + 40 * k) 4
    let below : Prop := ∃ f, s.store.floor = some f ∧ leAt manifest 8 4 < f.toNat
    let badTable : Prop := ∃ j, j < 16 ∧ (stop j < before j ∨ 4096 < stop j ∨ 8191 < leAt manifest (36 + 8 * j) 2)
    let aliased : Prop :=
      ∃ j, j < 16 ∧ stop j ≠ before j ∧
        ((target j = 1 ∧
            (0x2000000 < base j + size j ∨ meet (base j) (size j) (m.aBase * 65536) inSlot ∨
              meet (base j) (size j) (m.bBase * 65536) inSlot ∨
              meet (base j) (size j) (m.recoveryBase * 65536) (m.recoveryLength * 65536))) ∨
          ((target j = 2 ∨ target j = 3) ∧ inSlot < base j + size j))
    let badSegment : Prop :=
      ∃ k, k < count ∧
        (offset k = 0 ∨ length k = 0 ∨ inSlot < offset k + length k ∨ (3 < lane k ∧ lane k ≠ 0xFF) ∨
          ∃ l, l < count ∧ l ≠ k ∧ meet (offset k) (length k) (offset l) (length l))
    let total := ((List.range count).map fun k => (length k + 255) / 256).sum
    let first := m.slotStart s.isc.scan.slot + offset 0
    (valid = false → exec .signatureCompletion s = .next (failed .badSignature 0x05)) ∧
    (valid = true → below → exec .signatureCompletion s = .next (failed .versionBelowFloor 0x06)) ∧
    (valid = true → ¬ below → badTable → exec .signatureCompletion s = .next (failed .badRegionTable 0x07)) ∧
    (valid = true → ¬ below → ¬ badTable → aliased → exec .signatureCompletion s = .next (failed .regionAlias 0x08)) ∧
    (valid = true → ¬ below → ¬ badTable → ¬ aliased → badSegment →
      exec .signatureCompletion s = .next (failed .badSegment 0x09)) ∧
    (valid = true → ¬ below → ¬ badTable → ¬ aliased → ¬ badSegment →
      exec .signatureCompletion s =
        .next
          { ended with
            isc.staging.chunksTotal := if s.isc.scan.owner = .stagedScan then total else s.isc.staging.chunksTotal
            isc.scan.phase := .segments
            isc.scan.segmentIndex := 0
            isc.scan.nextChunk := 1
            de.scan := some (segmentItem (length 0))
            de.scanFirst := true
            de.owed := false
            fp.chunk := some ⟨s.isc.scan.owner, first, min 256 (length 0), true⟩
            fp.chunkBuffer := []
            fp.sent := [.read first] })) ∧
  ∀ (s : State) (digest key signature : Bytes) (op : SigOp), restartDue s = false →
    s.su.scan = some ⟨.verify digest key signature, true⟩ → s.su.channel = some ⟨op, false⟩ →
    ∃ t, exec .signatureCompletion s = .next t ∧ t.su.scan = none ∧ t.su.channel = some ⟨op, true⟩

/-- R95, R96, R100, R101, R103, R104, R112, R113, R3: the end of a segment's digest. A mismatch ends the scan
SEGMENT_MISMATCH with the segment's index: a staged one is REJECTED, a boot scan goes on to its SCAN_FAILURE digest. A match
before the last segment begins the next one, with either owner. A match on the last segment ends a staged scan VERIFIED with the manifest's
version, signer slot and label; a boot scan of a FAILED slot writes it VALID first, and of any other goes on to the lanes:
with no measured segment it installs the manifest table with the scanned slot as selector and releases SOC_RUN. Once a restart
is due no chunk ends (log 6). -/
def Obligations.LastSegmentEndsScan : Prop :=
  ∀ (s : State) (item : DigestItem) (manifest : Bytes), busFree s = true → s.fp.op = none → s.fp.chunk = none →
    s.de.channel = none → s.su.scan = none → s.su.channel = none → s.de.absorbing = some .scan →
    s.de.scan = some item → item.work = .segment → item.kind = .segment → item.lastChunk = true →
    s.isc.scan.manifest = some manifest → restartDue s = false →
    let k := s.isc.scan.segmentIndex
    let isLast := k + 1 = manifestSegmentCount manifest
    let digest := shaOutput item.absorbed.running
    let expected := (manifestSegment manifest k).digest
    let y := s.isc.scan.slot
    let freed : State :=
      { s with de.scan := none, de.absorbing := none, de.owed := false, fp.sent := [], isc.scan.phase := .ended }
    let counted : State := { freed with isc.staging.chunksDone := s.isc.staging.chunksDone + 1 }
    let passed : State :=
      { freed with isc.scan.segmentDigests := s.isc.scan.segmentDigests ++ [digest], isc.scan.result := some .pass }
    (s.isc.scan.owner = .stagedScan → digest ≠ expected →
      exec .chunkEnd s =
        .next
          { counted with
            isc.scan.result := some (.failure .segmentMismatch k)
            isc.staging.state := .opened
            isc.staging.outcome := .rejected .segmentMismatch k
            mc.flags.scanDone := true }) ∧
    (s.isc.scan.owner = .stagedScan → digest = expected → isLast →
      exec .chunkEnd s =
        .next
          { counted with
            isc.scan.segmentDigests := s.isc.scan.segmentDigests ++ [digest]
            isc.scan.result := some .pass
            isc.staging.state := .verified
            isc.staging.outcome :=
              .pass (manifestVersion manifest) (manifestSigner manifest) (manifestLabel manifest)
            mc.flags.scanDone := true }) ∧
    (∀ m, digest = expected → k + 1 < manifestSegmentCount manifest → s.store.slotMap = some m →
      let g := manifestSegment manifest (k + 1)
      exec .chunkEnd s =
        .next
          { (if s.isc.scan.owner = .stagedScan then counted else freed) with
            isc.scan.phase := .segments
            isc.scan.segmentDigests := s.isc.scan.segmentDigests ++ [digest]
            isc.scan.segmentIndex := k + 1
            isc.scan.nextChunk := 1
            de.scan := some (segmentItem g.length)
            de.scanFirst := true
            fp.chunk := some ⟨s.isc.scan.owner, m.slotStart y + g.offset * 4096, min 256 g.length, true⟩
            fp.chunkBuffer := []
            fp.sent := [.read (m.slotStart y + g.offset * 4096)] }) ∧
    (s.isc.scan.owner = .bootScan → s.mc.state = .idle →
      (digest ≠ expected →
        exec .chunkEnd s =
          .next
            { freed with
              isc.scan.result := some (.failure .segmentMismatch k)
              isc.stage := .failureDigest
              de.scan := some (bufferItem .scanFailureEvent ([slotCode y, 0x0A] ++ s.isc.scan.manifestDigest))
              de.scanFirst := true
              de.absorbing := some .scan }) ∧
      ∀ r, digest = expected → isLast → s.store.slotRecord = some r →
        (r.stateOf y = .failed → s.writes.current = none →
          exec .chunkEnd s =
            .next
              { passed with
                isc.stage := .passWrite
                writes.current := some ⟨.slotController, .slotRecord (r.withState y .valid)⟩ }) ∧
        (r.stateOf y ≠ .failed → s.cred = none → s.mc.response = none → s.lanes.length = 8 →
          ∃ t, exec .chunkEnd s = .next t ∧ measuredFrom manifest 0 passed t)) ∧
    (∀ r, s.isc.scan.owner = .bootScan → digest = expected → isLast → s.store.slotRecord = some r →
      r.stateOf y ≠ .failed →
      (∀ j, j < manifestSegmentCount manifest → (manifestSegment manifest j).measuredLane = none) →
      exec .chunkEnd s =
        .next
          { freed with
            isc.scan.segmentDigests := s.isc.scan.segmentDigests ++ [digest]
            isc.scan.result := some .pass
            tu.table := manifestTable manifest
            tu.selector := y
            isc.boot :=
              ⟨if s.isc.bootFallback then .fallbackPass else .pass, y,
                some (manifestVersion manifest), some (manifestSigner manifest)⟩
            isc.stage := .released
            mc.flags.bootNotice := s.mc.flags.bootNotice || s.isc.bootFallback
            socRun := true })

end
end

