-- ==== Sys2Proof/Laws/State.lean ====
section
/-! SUPPORT. What each named update of the state leaves and sets, one lemma per field, true by definition. -/

namespace Sys2Proof.Machine

/-! ### emptyResponse -/

@[simp] theorem emptyResponse_tu (s : State) : (emptyResponse s).tu = s.tu := rfl
@[simp] theorem emptyResponse_fp (s : State) : (emptyResponse s).fp = s.fp := rfl
@[simp] theorem emptyResponse_flash (s : State) : (emptyResponse s).flash = s.flash := rfl
@[simp] theorem emptyResponse_de (s : State) : (emptyResponse s).de = s.de := rfl
@[simp] theorem emptyResponse_su (s : State) : (emptyResponse s).su = s.su := rfl
@[simp] theorem emptyResponse_isc (s : State) : (emptyResponse s).isc = s.isc := rfl
@[simp] theorem emptyResponse_lanes (s : State) : (emptyResponse s).lanes = s.lanes := rfl
@[simp] theorem emptyResponse_store (s : State) : (emptyResponse s).store = s.store := rfl
@[simp] theorem emptyResponse_writes (s : State) : (emptyResponse s).writes = s.writes := rfl
@[simp] theorem emptyResponse_cred (s : State) : (emptyResponse s).cred = s.cred := rfl
@[simp] theorem emptyResponse_socRun (s : State) : (emptyResponse s).socRun = s.socRun := rfl
@[simp] theorem emptyResponse_rstLow (s : State) : (emptyResponse s).rstLow = s.rstLow := rfl
@[simp] theorem emptyResponse_clock (s : State) : (emptyResponse s).clock = s.clock := rfl
@[simp] theorem emptyResponse_draws (s : State) : (emptyResponse s).draws = s.draws := rfl
@[simp] theorem emptyResponse_pending (s : State) : (emptyResponse s).pending = s.pending := rfl
@[simp] theorem emptyResponse_bp_wel (s : State) : (emptyResponse s).bp.wel = s.bp.wel := rfl
@[simp] theorem emptyResponse_bp_writeRecord (s : State) : (emptyResponse s).bp.writeRecord = s.bp.writeRecord := rfl
@[simp] theorem emptyResponse_bp_laneMode (s : State) : (emptyResponse s).bp.laneMode = s.bp.laneMode := rfl
@[simp] theorem emptyResponse_bp_resetEnable (s : State) : (emptyResponse s).bp.resetEnable = s.bp.resetEnable := rfl
@[simp] theorem emptyResponse_bp_idManufacturer (s : State) : (emptyResponse s).bp.idManufacturer = s.bp.idManufacturer := rfl
@[simp] theorem emptyResponse_bp_idType (s : State) : (emptyResponse s).bp.idType = s.bp.idType := rfl
@[simp] theorem emptyResponse_bp_pageBuffer (s : State) : (emptyResponse s).bp.pageBuffer = s.bp.pageBuffer := rfl
@[simp] theorem emptyResponse_bp_intakeCount (s : State) : (emptyResponse s).bp.intakeCount = s.bp.intakeCount := rfl
@[simp] theorem emptyResponse_bp_intake (s : State) : (emptyResponse s).bp.intake = s.bp.intake := rfl
@[simp] theorem emptyResponse_bp_readTxn (s : State) : (emptyResponse s).bp.readTxn = s.bp.readTxn := rfl
@[simp] theorem emptyResponse_bp_out (s : State) : (emptyResponse s).bp.out = s.bp.out := rfl
@[simp] theorem emptyResponse_bp_outLines (s : State) : (emptyResponse s).bp.outLines = s.bp.outLines := rfl
@[simp] theorem emptyResponse_mc_request (s : State) : (emptyResponse s).mc.request = s.mc.request := rfl
@[simp] theorem emptyResponse_mc_state (s : State) : (emptyResponse s).mc.state = s.mc.state := rfl
@[simp] theorem emptyResponse_mc_flags (s : State) : (emptyResponse s).mc.flags = s.mc.flags := rfl
@[simp] theorem emptyResponse_mc_dropped (s : State) : (emptyResponse s).mc.dropped = s.mc.dropped := rfl
@[simp] theorem emptyResponse_mc_mask (s : State) : (emptyResponse s).mc.mask = s.mc.mask := rfl
@[simp] theorem emptyResponse_bp_fetchTxn (s : State) :
    (emptyResponse s).bp.fetchTxn = s.bp.fetchTxn.map fun t => { t with stillPresent := false } := rfl
@[simp] theorem emptyResponse_mc_response (s : State) :
    (emptyResponse s).mc.response = none := rfl
@[simp] theorem emptyResponse_mc_scrubTimer (s : State) :
    (emptyResponse s).mc.scrubTimer = none := rfl

/-! ### respond -/

@[simp] theorem respond_bp (st : Status) (b : Bytes) (s : State) : (respond st b s).bp = s.bp := rfl
@[simp] theorem respond_tu (st : Status) (b : Bytes) (s : State) : (respond st b s).tu = s.tu := rfl
@[simp] theorem respond_fp (st : Status) (b : Bytes) (s : State) : (respond st b s).fp = s.fp := rfl
@[simp] theorem respond_flash (st : Status) (b : Bytes) (s : State) : (respond st b s).flash = s.flash := rfl
@[simp] theorem respond_de (st : Status) (b : Bytes) (s : State) : (respond st b s).de = s.de := rfl
@[simp] theorem respond_su (st : Status) (b : Bytes) (s : State) : (respond st b s).su = s.su := rfl
@[simp] theorem respond_isc (st : Status) (b : Bytes) (s : State) : (respond st b s).isc = s.isc := rfl
@[simp] theorem respond_lanes (st : Status) (b : Bytes) (s : State) : (respond st b s).lanes = s.lanes := rfl
@[simp] theorem respond_store (st : Status) (b : Bytes) (s : State) : (respond st b s).store = s.store := rfl
@[simp] theorem respond_writes (st : Status) (b : Bytes) (s : State) : (respond st b s).writes = s.writes := rfl
@[simp] theorem respond_socRun (st : Status) (b : Bytes) (s : State) : (respond st b s).socRun = s.socRun := rfl
@[simp] theorem respond_rstLow (st : Status) (b : Bytes) (s : State) : (respond st b s).rstLow = s.rstLow := rfl
@[simp] theorem respond_clock (st : Status) (b : Bytes) (s : State) : (respond st b s).clock = s.clock := rfl
@[simp] theorem respond_draws (st : Status) (b : Bytes) (s : State) : (respond st b s).draws = s.draws := rfl
@[simp] theorem respond_pending (st : Status) (b : Bytes) (s : State) : (respond st b s).pending = s.pending := rfl
@[simp] theorem respond_mc_scrubTimer (st : Status) (b : Bytes) (s : State) : (respond st b s).mc.scrubTimer = s.mc.scrubTimer := rfl
@[simp] theorem respond_mc_flags (st : Status) (b : Bytes) (s : State) : (respond st b s).mc.flags = s.mc.flags := rfl
@[simp] theorem respond_mc_dropped (st : Status) (b : Bytes) (s : State) : (respond st b s).mc.dropped = s.mc.dropped := rfl
@[simp] theorem respond_mc_mask (st : Status) (b : Bytes) (s : State) : (respond st b s).mc.mask = s.mc.mask := rfl
@[simp] theorem respond_cred (st : Status) (b : Bytes) (s : State) :
    (respond st b s).cred = none := rfl
@[simp] theorem respond_mc_request (st : Status) (b : Bytes) (s : State) :
    (respond st b s).mc.request = [] := rfl
@[simp] theorem respond_mc_state (st : Status) (b : Bytes) (s : State) :
    (respond st b s).mc.state = .idle := rfl
@[simp] theorem respond_mc_response (st : Status) (b : Bytes) (s : State) :
    (respond st b s).mc.response = some ⟨responseFrame (frameCode s.mc.request) st b, false, false, none, none⟩ := rfl

/-! ### respondSecret -/

@[simp] theorem respondSecret_bp (m : Option Byte) (b : Bytes) (s : State) : (respondSecret m b s).bp = s.bp := rfl
@[simp] theorem respondSecret_tu (m : Option Byte) (b : Bytes) (s : State) : (respondSecret m b s).tu = s.tu := rfl
@[simp] theorem respondSecret_fp (m : Option Byte) (b : Bytes) (s : State) : (respondSecret m b s).fp = s.fp := rfl
@[simp] theorem respondSecret_flash (m : Option Byte) (b : Bytes) (s : State) : (respondSecret m b s).flash = s.flash := rfl
@[simp] theorem respondSecret_de (m : Option Byte) (b : Bytes) (s : State) : (respondSecret m b s).de = s.de := rfl
@[simp] theorem respondSecret_su (m : Option Byte) (b : Bytes) (s : State) : (respondSecret m b s).su = s.su := rfl
@[simp] theorem respondSecret_isc (m : Option Byte) (b : Bytes) (s : State) : (respondSecret m b s).isc = s.isc := rfl
@[simp] theorem respondSecret_lanes (m : Option Byte) (b : Bytes) (s : State) : (respondSecret m b s).lanes = s.lanes := rfl
@[simp] theorem respondSecret_store (m : Option Byte) (b : Bytes) (s : State) : (respondSecret m b s).store = s.store := rfl
@[simp] theorem respondSecret_writes (m : Option Byte) (b : Bytes) (s : State) : (respondSecret m b s).writes = s.writes := rfl
@[simp] theorem respondSecret_socRun (m : Option Byte) (b : Bytes) (s : State) : (respondSecret m b s).socRun = s.socRun := rfl
@[simp] theorem respondSecret_rstLow (m : Option Byte) (b : Bytes) (s : State) : (respondSecret m b s).rstLow = s.rstLow := rfl
@[simp] theorem respondSecret_clock (m : Option Byte) (b : Bytes) (s : State) : (respondSecret m b s).clock = s.clock := rfl
@[simp] theorem respondSecret_draws (m : Option Byte) (b : Bytes) (s : State) : (respondSecret m b s).draws = s.draws := rfl
@[simp] theorem respondSecret_pending (m : Option Byte) (b : Bytes) (s : State) : (respondSecret m b s).pending = s.pending := rfl
@[simp] theorem respondSecret_mc_flags (m : Option Byte) (b : Bytes) (s : State) : (respondSecret m b s).mc.flags = s.mc.flags := rfl
@[simp] theorem respondSecret_mc_dropped (m : Option Byte) (b : Bytes) (s : State) : (respondSecret m b s).mc.dropped = s.mc.dropped := rfl
@[simp] theorem respondSecret_mc_mask (m : Option Byte) (b : Bytes) (s : State) : (respondSecret m b s).mc.mask = s.mc.mask := rfl
@[simp] theorem respondSecret_cred (m : Option Byte) (b : Bytes) (s : State) :
    (respondSecret m b s).cred = none := rfl
@[simp] theorem respondSecret_mc_request (m : Option Byte) (b : Bytes) (s : State) :
    (respondSecret m b s).mc.request = [] := rfl
@[simp] theorem respondSecret_mc_state (m : Option Byte) (b : Bytes) (s : State) :
    (respondSecret m b s).mc.state = .idle := rfl
@[simp] theorem respondSecret_mc_response (m : Option Byte) (b : Bytes) (s : State) :
    (respondSecret m b s).mc.response = some ⟨responseFrame (frameCode s.mc.request) .ok b, false, true, m, some s.clock⟩ := rfl
@[simp] theorem respondSecret_mc_scrubTimer (m : Option Byte) (b : Bytes) (s : State) :
    (respondSecret m b s).mc.scrubTimer = some (s.clock + expiryDelay) := rfl

/-! ### waitFor -/

@[simp] theorem waitFor_bp (j : Job) (s : State) : (waitFor j s).bp = s.bp := rfl
@[simp] theorem waitFor_tu (j : Job) (s : State) : (waitFor j s).tu = s.tu := rfl
@[simp] theorem waitFor_fp (j : Job) (s : State) : (waitFor j s).fp = s.fp := rfl
@[simp] theorem waitFor_flash (j : Job) (s : State) : (waitFor j s).flash = s.flash := rfl
@[simp] theorem waitFor_de (j : Job) (s : State) : (waitFor j s).de = s.de := rfl
@[simp] theorem waitFor_su (j : Job) (s : State) : (waitFor j s).su = s.su := rfl
@[simp] theorem waitFor_isc (j : Job) (s : State) : (waitFor j s).isc = s.isc := rfl
@[simp] theorem waitFor_lanes (j : Job) (s : State) : (waitFor j s).lanes = s.lanes := rfl
@[simp] theorem waitFor_store (j : Job) (s : State) : (waitFor j s).store = s.store := rfl
@[simp] theorem waitFor_writes (j : Job) (s : State) : (waitFor j s).writes = s.writes := rfl
@[simp] theorem waitFor_cred (j : Job) (s : State) : (waitFor j s).cred = s.cred := rfl
@[simp] theorem waitFor_socRun (j : Job) (s : State) : (waitFor j s).socRun = s.socRun := rfl
@[simp] theorem waitFor_rstLow (j : Job) (s : State) : (waitFor j s).rstLow = s.rstLow := rfl
@[simp] theorem waitFor_clock (j : Job) (s : State) : (waitFor j s).clock = s.clock := rfl
@[simp] theorem waitFor_draws (j : Job) (s : State) : (waitFor j s).draws = s.draws := rfl
@[simp] theorem waitFor_pending (j : Job) (s : State) : (waitFor j s).pending = s.pending := rfl
@[simp] theorem waitFor_mc_request (j : Job) (s : State) : (waitFor j s).mc.request = s.mc.request := rfl
@[simp] theorem waitFor_mc_response (j : Job) (s : State) : (waitFor j s).mc.response = s.mc.response := rfl
@[simp] theorem waitFor_mc_scrubTimer (j : Job) (s : State) : (waitFor j s).mc.scrubTimer = s.mc.scrubTimer := rfl
@[simp] theorem waitFor_mc_flags (j : Job) (s : State) : (waitFor j s).mc.flags = s.mc.flags := rfl
@[simp] theorem waitFor_mc_dropped (j : Job) (s : State) : (waitFor j s).mc.dropped = s.mc.dropped := rfl
@[simp] theorem waitFor_mc_mask (j : Job) (s : State) : (waitFor j s).mc.mask = s.mc.mask := rfl
@[simp] theorem waitFor_mc_state (j : Job) (s : State) :
    (waitFor j s).mc.state = .working j := rfl

/-! ### setScanDone -/

@[simp] theorem setScanDone_bp (s : State) : (setScanDone s).bp = s.bp := rfl
@[simp] theorem setScanDone_tu (s : State) : (setScanDone s).tu = s.tu := rfl
@[simp] theorem setScanDone_fp (s : State) : (setScanDone s).fp = s.fp := rfl
@[simp] theorem setScanDone_flash (s : State) : (setScanDone s).flash = s.flash := rfl
@[simp] theorem setScanDone_de (s : State) : (setScanDone s).de = s.de := rfl
@[simp] theorem setScanDone_su (s : State) : (setScanDone s).su = s.su := rfl
@[simp] theorem setScanDone_isc (s : State) : (setScanDone s).isc = s.isc := rfl
@[simp] theorem setScanDone_lanes (s : State) : (setScanDone s).lanes = s.lanes := rfl
@[simp] theorem setScanDone_store (s : State) : (setScanDone s).store = s.store := rfl
@[simp] theorem setScanDone_writes (s : State) : (setScanDone s).writes = s.writes := rfl
@[simp] theorem setScanDone_cred (s : State) : (setScanDone s).cred = s.cred := rfl
@[simp] theorem setScanDone_socRun (s : State) : (setScanDone s).socRun = s.socRun := rfl
@[simp] theorem setScanDone_rstLow (s : State) : (setScanDone s).rstLow = s.rstLow := rfl
@[simp] theorem setScanDone_clock (s : State) : (setScanDone s).clock = s.clock := rfl
@[simp] theorem setScanDone_draws (s : State) : (setScanDone s).draws = s.draws := rfl
@[simp] theorem setScanDone_pending (s : State) : (setScanDone s).pending = s.pending := rfl
@[simp] theorem setScanDone_mc_request (s : State) : (setScanDone s).mc.request = s.mc.request := rfl
@[simp] theorem setScanDone_mc_state (s : State) : (setScanDone s).mc.state = s.mc.state := rfl
@[simp] theorem setScanDone_mc_response (s : State) : (setScanDone s).mc.response = s.mc.response := rfl
@[simp] theorem setScanDone_mc_scrubTimer (s : State) : (setScanDone s).mc.scrubTimer = s.mc.scrubTimer := rfl
@[simp] theorem setScanDone_mc_dropped (s : State) : (setScanDone s).mc.dropped = s.mc.dropped := rfl
@[simp] theorem setScanDone_mc_mask (s : State) : (setScanDone s).mc.mask = s.mc.mask := rfl
@[simp] theorem setScanDone_mc_flags (s : State) :
    (setScanDone s).mc.flags = { s.mc.flags with scanDone := true } := rfl

/-! ### setViolation -/

@[simp] theorem setViolation_bp (s : State) : (setViolation s).bp = s.bp := rfl
@[simp] theorem setViolation_tu (s : State) : (setViolation s).tu = s.tu := rfl
@[simp] theorem setViolation_fp (s : State) : (setViolation s).fp = s.fp := rfl
@[simp] theorem setViolation_flash (s : State) : (setViolation s).flash = s.flash := rfl
@[simp] theorem setViolation_de (s : State) : (setViolation s).de = s.de := rfl
@[simp] theorem setViolation_su (s : State) : (setViolation s).su = s.su := rfl
@[simp] theorem setViolation_isc (s : State) : (setViolation s).isc = s.isc := rfl
@[simp] theorem setViolation_lanes (s : State) : (setViolation s).lanes = s.lanes := rfl
@[simp] theorem setViolation_store (s : State) : (setViolation s).store = s.store := rfl
@[simp] theorem setViolation_writes (s : State) : (setViolation s).writes = s.writes := rfl
@[simp] theorem setViolation_cred (s : State) : (setViolation s).cred = s.cred := rfl
@[simp] theorem setViolation_socRun (s : State) : (setViolation s).socRun = s.socRun := rfl
@[simp] theorem setViolation_rstLow (s : State) : (setViolation s).rstLow = s.rstLow := rfl
@[simp] theorem setViolation_clock (s : State) : (setViolation s).clock = s.clock := rfl
@[simp] theorem setViolation_draws (s : State) : (setViolation s).draws = s.draws := rfl
@[simp] theorem setViolation_pending (s : State) : (setViolation s).pending = s.pending := rfl
@[simp] theorem setViolation_mc_request (s : State) : (setViolation s).mc.request = s.mc.request := rfl
@[simp] theorem setViolation_mc_state (s : State) : (setViolation s).mc.state = s.mc.state := rfl
@[simp] theorem setViolation_mc_response (s : State) : (setViolation s).mc.response = s.mc.response := rfl
@[simp] theorem setViolation_mc_scrubTimer (s : State) : (setViolation s).mc.scrubTimer = s.mc.scrubTimer := rfl
@[simp] theorem setViolation_mc_dropped (s : State) : (setViolation s).mc.dropped = s.mc.dropped := rfl
@[simp] theorem setViolation_mc_mask (s : State) : (setViolation s).mc.mask = s.mc.mask := rfl
@[simp] theorem setViolation_mc_flags (s : State) :
    (setViolation s).mc.flags = { s.mc.flags with violation := true } := rfl

/-! ### setBootNotice -/

@[simp] theorem setBootNotice_bp (s : State) : (setBootNotice s).bp = s.bp := rfl
@[simp] theorem setBootNotice_tu (s : State) : (setBootNotice s).tu = s.tu := rfl
@[simp] theorem setBootNotice_fp (s : State) : (setBootNotice s).fp = s.fp := rfl
@[simp] theorem setBootNotice_flash (s : State) : (setBootNotice s).flash = s.flash := rfl
@[simp] theorem setBootNotice_de (s : State) : (setBootNotice s).de = s.de := rfl
@[simp] theorem setBootNotice_su (s : State) : (setBootNotice s).su = s.su := rfl
@[simp] theorem setBootNotice_isc (s : State) : (setBootNotice s).isc = s.isc := rfl
@[simp] theorem setBootNotice_lanes (s : State) : (setBootNotice s).lanes = s.lanes := rfl
@[simp] theorem setBootNotice_store (s : State) : (setBootNotice s).store = s.store := rfl
@[simp] theorem setBootNotice_writes (s : State) : (setBootNotice s).writes = s.writes := rfl
@[simp] theorem setBootNotice_cred (s : State) : (setBootNotice s).cred = s.cred := rfl
@[simp] theorem setBootNotice_socRun (s : State) : (setBootNotice s).socRun = s.socRun := rfl
@[simp] theorem setBootNotice_rstLow (s : State) : (setBootNotice s).rstLow = s.rstLow := rfl
@[simp] theorem setBootNotice_clock (s : State) : (setBootNotice s).clock = s.clock := rfl
@[simp] theorem setBootNotice_draws (s : State) : (setBootNotice s).draws = s.draws := rfl
@[simp] theorem setBootNotice_pending (s : State) : (setBootNotice s).pending = s.pending := rfl
@[simp] theorem setBootNotice_mc_request (s : State) : (setBootNotice s).mc.request = s.mc.request := rfl
@[simp] theorem setBootNotice_mc_state (s : State) : (setBootNotice s).mc.state = s.mc.state := rfl
@[simp] theorem setBootNotice_mc_response (s : State) : (setBootNotice s).mc.response = s.mc.response := rfl
@[simp] theorem setBootNotice_mc_scrubTimer (s : State) : (setBootNotice s).mc.scrubTimer = s.mc.scrubTimer := rfl
@[simp] theorem setBootNotice_mc_dropped (s : State) : (setBootNotice s).mc.dropped = s.mc.dropped := rfl
@[simp] theorem setBootNotice_mc_mask (s : State) : (setBootNotice s).mc.mask = s.mc.mask := rfl
@[simp] theorem setBootNotice_mc_flags (s : State) :
    (setBootNotice s).mc.flags = { s.mc.flags with bootNotice := true } := rfl

/-! ### placeScanItem -/

@[simp] theorem placeScanItem_bp (i : DigestItem) (s : State) : (placeScanItem i s).bp = s.bp := rfl
@[simp] theorem placeScanItem_tu (i : DigestItem) (s : State) : (placeScanItem i s).tu = s.tu := rfl
@[simp] theorem placeScanItem_fp (i : DigestItem) (s : State) : (placeScanItem i s).fp = s.fp := rfl
@[simp] theorem placeScanItem_flash (i : DigestItem) (s : State) : (placeScanItem i s).flash = s.flash := rfl
@[simp] theorem placeScanItem_su (i : DigestItem) (s : State) : (placeScanItem i s).su = s.su := rfl
@[simp] theorem placeScanItem_isc (i : DigestItem) (s : State) : (placeScanItem i s).isc = s.isc := rfl
@[simp] theorem placeScanItem_lanes (i : DigestItem) (s : State) : (placeScanItem i s).lanes = s.lanes := rfl
@[simp] theorem placeScanItem_store (i : DigestItem) (s : State) : (placeScanItem i s).store = s.store := rfl
@[simp] theorem placeScanItem_writes (i : DigestItem) (s : State) : (placeScanItem i s).writes = s.writes := rfl
@[simp] theorem placeScanItem_cred (i : DigestItem) (s : State) : (placeScanItem i s).cred = s.cred := rfl
@[simp] theorem placeScanItem_mc (i : DigestItem) (s : State) : (placeScanItem i s).mc = s.mc := rfl
@[simp] theorem placeScanItem_socRun (i : DigestItem) (s : State) : (placeScanItem i s).socRun = s.socRun := rfl
@[simp] theorem placeScanItem_rstLow (i : DigestItem) (s : State) : (placeScanItem i s).rstLow = s.rstLow := rfl
@[simp] theorem placeScanItem_clock (i : DigestItem) (s : State) : (placeScanItem i s).clock = s.clock := rfl
@[simp] theorem placeScanItem_draws (i : DigestItem) (s : State) : (placeScanItem i s).draws = s.draws := rfl
@[simp] theorem placeScanItem_pending (i : DigestItem) (s : State) : (placeScanItem i s).pending = s.pending := rfl
@[simp] theorem placeScanItem_de_channel (i : DigestItem) (s : State) : (placeScanItem i s).de.channel = s.de.channel := rfl
@[simp] theorem placeScanItem_de_absorbing (i : DigestItem) (s : State) : (placeScanItem i s).de.absorbing = s.de.absorbing := rfl
@[simp] theorem placeScanItem_de_scan (i : DigestItem) (s : State) :
    (placeScanItem i s).de.scan = some i := rfl
@[simp] theorem placeScanItem_de_scanFirst (i : DigestItem) (s : State) :
    (placeScanItem i s).de.scanFirst = s.de.channel.isNone := rfl
@[simp] theorem placeScanItem_de_owed (i : DigestItem) (s : State) :
    (placeScanItem i s).de.owed = false := rfl

/-! ### placeChannelItem -/

@[simp] theorem placeChannelItem_bp (i : DigestItem) (s : State) : (placeChannelItem i s).bp = s.bp := rfl
@[simp] theorem placeChannelItem_tu (i : DigestItem) (s : State) : (placeChannelItem i s).tu = s.tu := rfl
@[simp] theorem placeChannelItem_fp (i : DigestItem) (s : State) : (placeChannelItem i s).fp = s.fp := rfl
@[simp] theorem placeChannelItem_flash (i : DigestItem) (s : State) : (placeChannelItem i s).flash = s.flash := rfl
@[simp] theorem placeChannelItem_su (i : DigestItem) (s : State) : (placeChannelItem i s).su = s.su := rfl
@[simp] theorem placeChannelItem_isc (i : DigestItem) (s : State) : (placeChannelItem i s).isc = s.isc := rfl
@[simp] theorem placeChannelItem_lanes (i : DigestItem) (s : State) : (placeChannelItem i s).lanes = s.lanes := rfl
@[simp] theorem placeChannelItem_store (i : DigestItem) (s : State) : (placeChannelItem i s).store = s.store := rfl
@[simp] theorem placeChannelItem_writes (i : DigestItem) (s : State) : (placeChannelItem i s).writes = s.writes := rfl
@[simp] theorem placeChannelItem_cred (i : DigestItem) (s : State) : (placeChannelItem i s).cred = s.cred := rfl
@[simp] theorem placeChannelItem_mc (i : DigestItem) (s : State) : (placeChannelItem i s).mc = s.mc := rfl
@[simp] theorem placeChannelItem_socRun (i : DigestItem) (s : State) : (placeChannelItem i s).socRun = s.socRun := rfl
@[simp] theorem placeChannelItem_rstLow (i : DigestItem) (s : State) : (placeChannelItem i s).rstLow = s.rstLow := rfl
@[simp] theorem placeChannelItem_clock (i : DigestItem) (s : State) : (placeChannelItem i s).clock = s.clock := rfl
@[simp] theorem placeChannelItem_draws (i : DigestItem) (s : State) : (placeChannelItem i s).draws = s.draws := rfl
@[simp] theorem placeChannelItem_pending (i : DigestItem) (s : State) : (placeChannelItem i s).pending = s.pending := rfl
@[simp] theorem placeChannelItem_de_scan (i : DigestItem) (s : State) : (placeChannelItem i s).de.scan = s.de.scan := rfl
@[simp] theorem placeChannelItem_de_absorbing (i : DigestItem) (s : State) : (placeChannelItem i s).de.absorbing = s.de.absorbing := rfl
@[simp] theorem placeChannelItem_de_owed (i : DigestItem) (s : State) : (placeChannelItem i s).de.owed = s.de.owed := rfl
@[simp] theorem placeChannelItem_de_channel (i : DigestItem) (s : State) :
    (placeChannelItem i s).de.channel = some i := rfl
@[simp] theorem placeChannelItem_de_scanFirst (i : DigestItem) (s : State) :
    (placeChannelItem i s).de.scanFirst = s.de.scan.isSome := rfl

/-! ### placeChunkRequest -/

@[simp] theorem placeChunkRequest_bp (o : ScanOwner) (a l : Nat) (s : State) : (placeChunkRequest o a l s).bp = s.bp := rfl
@[simp] theorem placeChunkRequest_tu (o : ScanOwner) (a l : Nat) (s : State) : (placeChunkRequest o a l s).tu = s.tu := rfl
@[simp] theorem placeChunkRequest_flash (o : ScanOwner) (a l : Nat) (s : State) : (placeChunkRequest o a l s).flash = s.flash := rfl
@[simp] theorem placeChunkRequest_de (o : ScanOwner) (a l : Nat) (s : State) : (placeChunkRequest o a l s).de = s.de := rfl
@[simp] theorem placeChunkRequest_su (o : ScanOwner) (a l : Nat) (s : State) : (placeChunkRequest o a l s).su = s.su := rfl
@[simp] theorem placeChunkRequest_isc (o : ScanOwner) (a l : Nat) (s : State) : (placeChunkRequest o a l s).isc = s.isc := rfl
@[simp] theorem placeChunkRequest_lanes (o : ScanOwner) (a l : Nat) (s : State) : (placeChunkRequest o a l s).lanes = s.lanes := rfl
@[simp] theorem placeChunkRequest_store (o : ScanOwner) (a l : Nat) (s : State) : (placeChunkRequest o a l s).store = s.store := rfl
@[simp] theorem placeChunkRequest_writes (o : ScanOwner) (a l : Nat) (s : State) : (placeChunkRequest o a l s).writes = s.writes := rfl
@[simp] theorem placeChunkRequest_cred (o : ScanOwner) (a l : Nat) (s : State) : (placeChunkRequest o a l s).cred = s.cred := rfl
@[simp] theorem placeChunkRequest_mc (o : ScanOwner) (a l : Nat) (s : State) : (placeChunkRequest o a l s).mc = s.mc := rfl
@[simp] theorem placeChunkRequest_socRun (o : ScanOwner) (a l : Nat) (s : State) : (placeChunkRequest o a l s).socRun = s.socRun := rfl
@[simp] theorem placeChunkRequest_rstLow (o : ScanOwner) (a l : Nat) (s : State) : (placeChunkRequest o a l s).rstLow = s.rstLow := rfl
@[simp] theorem placeChunkRequest_clock (o : ScanOwner) (a l : Nat) (s : State) : (placeChunkRequest o a l s).clock = s.clock := rfl
@[simp] theorem placeChunkRequest_draws (o : ScanOwner) (a l : Nat) (s : State) : (placeChunkRequest o a l s).draws = s.draws := rfl
@[simp] theorem placeChunkRequest_pending (o : ScanOwner) (a l : Nat) (s : State) : (placeChunkRequest o a l s).pending = s.pending := rfl
@[simp] theorem placeChunkRequest_fp_run (o : ScanOwner) (a l : Nat) (s : State) : (placeChunkRequest o a l s).fp.run = s.fp.run := rfl
@[simp] theorem placeChunkRequest_fp_op (o : ScanOwner) (a l : Nat) (s : State) : (placeChunkRequest o a l s).fp.op = s.fp.op := rfl
@[simp] theorem placeChunkRequest_fp_prep (o : ScanOwner) (a l : Nat) (s : State) : (placeChunkRequest o a l s).fp.prep = s.fp.prep := rfl
@[simp] theorem placeChunkRequest_fp_sent (o : ScanOwner) (a l : Nat) (s : State) : (placeChunkRequest o a l s).fp.sent = s.fp.sent := rfl
@[simp] theorem placeChunkRequest_fp_chunk (o : ScanOwner) (a l : Nat) (s : State) :
    (placeChunkRequest o a l s).fp.chunk = some ⟨o, a, l, false⟩ := rfl
@[simp] theorem placeChunkRequest_fp_chunkBuffer (o : ScanOwner) (a l : Nat) (s : State) :
    (placeChunkRequest o a l s).fp.chunkBuffer = [] := rfl

/-! ### placeVerify -/

@[simp] theorem placeVerify_bp (o : SigOp) (s : State) : (placeVerify o s).bp = s.bp := rfl
@[simp] theorem placeVerify_tu (o : SigOp) (s : State) : (placeVerify o s).tu = s.tu := rfl
@[simp] theorem placeVerify_fp (o : SigOp) (s : State) : (placeVerify o s).fp = s.fp := rfl
@[simp] theorem placeVerify_flash (o : SigOp) (s : State) : (placeVerify o s).flash = s.flash := rfl
@[simp] theorem placeVerify_de (o : SigOp) (s : State) : (placeVerify o s).de = s.de := rfl
@[simp] theorem placeVerify_isc (o : SigOp) (s : State) : (placeVerify o s).isc = s.isc := rfl
@[simp] theorem placeVerify_lanes (o : SigOp) (s : State) : (placeVerify o s).lanes = s.lanes := rfl
@[simp] theorem placeVerify_store (o : SigOp) (s : State) : (placeVerify o s).store = s.store := rfl
@[simp] theorem placeVerify_writes (o : SigOp) (s : State) : (placeVerify o s).writes = s.writes := rfl
@[simp] theorem placeVerify_cred (o : SigOp) (s : State) : (placeVerify o s).cred = s.cred := rfl
@[simp] theorem placeVerify_mc (o : SigOp) (s : State) : (placeVerify o s).mc = s.mc := rfl
@[simp] theorem placeVerify_socRun (o : SigOp) (s : State) : (placeVerify o s).socRun = s.socRun := rfl
@[simp] theorem placeVerify_rstLow (o : SigOp) (s : State) : (placeVerify o s).rstLow = s.rstLow := rfl
@[simp] theorem placeVerify_clock (o : SigOp) (s : State) : (placeVerify o s).clock = s.clock := rfl
@[simp] theorem placeVerify_draws (o : SigOp) (s : State) : (placeVerify o s).draws = s.draws := rfl
@[simp] theorem placeVerify_pending (o : SigOp) (s : State) : (placeVerify o s).pending = s.pending := rfl
@[simp] theorem placeVerify_su_channel (o : SigOp) (s : State) : (placeVerify o s).su.channel = s.su.channel := rfl
@[simp] theorem placeVerify_su_scan (o : SigOp) (s : State) :
    (placeVerify o s).su.scan = some ⟨o, false⟩ := rfl
@[simp] theorem placeVerify_su_scanFirst (o : SigOp) (s : State) :
    (placeVerify o s).su.scanFirst = s.su.channel.isNone := rfl

/-! ### placeChannelOp -/

@[simp] theorem placeChannelOp_bp (o : SigOp) (s : State) : (placeChannelOp o s).bp = s.bp := rfl
@[simp] theorem placeChannelOp_tu (o : SigOp) (s : State) : (placeChannelOp o s).tu = s.tu := rfl
@[simp] theorem placeChannelOp_fp (o : SigOp) (s : State) : (placeChannelOp o s).fp = s.fp := rfl
@[simp] theorem placeChannelOp_flash (o : SigOp) (s : State) : (placeChannelOp o s).flash = s.flash := rfl
@[simp] theorem placeChannelOp_de (o : SigOp) (s : State) : (placeChannelOp o s).de = s.de := rfl
@[simp] theorem placeChannelOp_isc (o : SigOp) (s : State) : (placeChannelOp o s).isc = s.isc := rfl
@[simp] theorem placeChannelOp_lanes (o : SigOp) (s : State) : (placeChannelOp o s).lanes = s.lanes := rfl
@[simp] theorem placeChannelOp_store (o : SigOp) (s : State) : (placeChannelOp o s).store = s.store := rfl
@[simp] theorem placeChannelOp_writes (o : SigOp) (s : State) : (placeChannelOp o s).writes = s.writes := rfl
@[simp] theorem placeChannelOp_cred (o : SigOp) (s : State) : (placeChannelOp o s).cred = s.cred := rfl
@[simp] theorem placeChannelOp_mc (o : SigOp) (s : State) : (placeChannelOp o s).mc = s.mc := rfl
@[simp] theorem placeChannelOp_socRun (o : SigOp) (s : State) : (placeChannelOp o s).socRun = s.socRun := rfl
@[simp] theorem placeChannelOp_rstLow (o : SigOp) (s : State) : (placeChannelOp o s).rstLow = s.rstLow := rfl
@[simp] theorem placeChannelOp_clock (o : SigOp) (s : State) : (placeChannelOp o s).clock = s.clock := rfl
@[simp] theorem placeChannelOp_draws (o : SigOp) (s : State) : (placeChannelOp o s).draws = s.draws := rfl
@[simp] theorem placeChannelOp_pending (o : SigOp) (s : State) : (placeChannelOp o s).pending = s.pending := rfl
@[simp] theorem placeChannelOp_su_scan (o : SigOp) (s : State) : (placeChannelOp o s).su.scan = s.su.scan := rfl
@[simp] theorem placeChannelOp_su_channel (o : SigOp) (s : State) :
    (placeChannelOp o s).su.channel = some ⟨o, false⟩ := rfl
@[simp] theorem placeChannelOp_su_scanFirst (o : SigOp) (s : State) :
    (placeChannelOp o s).su.scanFirst = s.su.scan.isSome := rfl

/-! ### freshPort -/

@[simp] theorem freshPort_bp (s : State) : (freshPort s).bp = s.bp := rfl
@[simp] theorem freshPort_tu (s : State) : (freshPort s).tu = s.tu := rfl
@[simp] theorem freshPort_flash (s : State) : (freshPort s).flash = s.flash := rfl
@[simp] theorem freshPort_de (s : State) : (freshPort s).de = s.de := rfl
@[simp] theorem freshPort_su (s : State) : (freshPort s).su = s.su := rfl
@[simp] theorem freshPort_isc (s : State) : (freshPort s).isc = s.isc := rfl
@[simp] theorem freshPort_lanes (s : State) : (freshPort s).lanes = s.lanes := rfl
@[simp] theorem freshPort_store (s : State) : (freshPort s).store = s.store := rfl
@[simp] theorem freshPort_writes (s : State) : (freshPort s).writes = s.writes := rfl
@[simp] theorem freshPort_cred (s : State) : (freshPort s).cred = s.cred := rfl
@[simp] theorem freshPort_mc (s : State) : (freshPort s).mc = s.mc := rfl
@[simp] theorem freshPort_socRun (s : State) : (freshPort s).socRun = s.socRun := rfl
@[simp] theorem freshPort_rstLow (s : State) : (freshPort s).rstLow = s.rstLow := rfl
@[simp] theorem freshPort_clock (s : State) : (freshPort s).clock = s.clock := rfl
@[simp] theorem freshPort_draws (s : State) : (freshPort s).draws = s.draws := rfl
@[simp] theorem freshPort_pending (s : State) : (freshPort s).pending = s.pending := rfl
@[simp] theorem freshPort_fp_run (s : State) : (freshPort s).fp.run = s.fp.run := rfl
@[simp] theorem freshPort_fp_op (s : State) : (freshPort s).fp.op = s.fp.op := rfl
@[simp] theorem freshPort_fp_chunk (s : State) : (freshPort s).fp.chunk = s.fp.chunk := rfl
@[simp] theorem freshPort_fp_chunkBuffer (s : State) : (freshPort s).fp.chunkBuffer = s.fp.chunkBuffer := rfl
@[simp] theorem freshPort_fp_prep (s : State) : (freshPort s).fp.prep = s.fp.prep := rfl
@[simp] theorem freshPort_fp_sent (s : State) :
    (freshPort s).fp.sent = [] := rfl

/-! ### send -/

@[simp] theorem send_bp (c : List FpCommand) (s : State) : (send c s).bp = s.bp := rfl
@[simp] theorem send_tu (c : List FpCommand) (s : State) : (send c s).tu = s.tu := rfl
@[simp] theorem send_flash (c : List FpCommand) (s : State) : (send c s).flash = s.flash := rfl
@[simp] theorem send_de (c : List FpCommand) (s : State) : (send c s).de = s.de := rfl
@[simp] theorem send_su (c : List FpCommand) (s : State) : (send c s).su = s.su := rfl
@[simp] theorem send_isc (c : List FpCommand) (s : State) : (send c s).isc = s.isc := rfl
@[simp] theorem send_lanes (c : List FpCommand) (s : State) : (send c s).lanes = s.lanes := rfl
@[simp] theorem send_store (c : List FpCommand) (s : State) : (send c s).store = s.store := rfl
@[simp] theorem send_writes (c : List FpCommand) (s : State) : (send c s).writes = s.writes := rfl
@[simp] theorem send_cred (c : List FpCommand) (s : State) : (send c s).cred = s.cred := rfl
@[simp] theorem send_mc (c : List FpCommand) (s : State) : (send c s).mc = s.mc := rfl
@[simp] theorem send_socRun (c : List FpCommand) (s : State) : (send c s).socRun = s.socRun := rfl
@[simp] theorem send_rstLow (c : List FpCommand) (s : State) : (send c s).rstLow = s.rstLow := rfl
@[simp] theorem send_clock (c : List FpCommand) (s : State) : (send c s).clock = s.clock := rfl
@[simp] theorem send_draws (c : List FpCommand) (s : State) : (send c s).draws = s.draws := rfl
@[simp] theorem send_pending (c : List FpCommand) (s : State) : (send c s).pending = s.pending := rfl
@[simp] theorem send_fp_run (c : List FpCommand) (s : State) : (send c s).fp.run = s.fp.run := rfl
@[simp] theorem send_fp_op (c : List FpCommand) (s : State) : (send c s).fp.op = s.fp.op := rfl
@[simp] theorem send_fp_chunk (c : List FpCommand) (s : State) : (send c s).fp.chunk = s.fp.chunk := rfl
@[simp] theorem send_fp_chunkBuffer (c : List FpCommand) (s : State) : (send c s).fp.chunkBuffer = s.fp.chunkBuffer := rfl
@[simp] theorem send_fp_prep (c : List FpCommand) (s : State) : (send c s).fp.prep = s.fp.prep := rfl
@[simp] theorem send_fp_sent (c : List FpCommand) (s : State) :
    (send c s).fp.sent = s.fp.sent ++ c := rfl

/-! ### completeOperation -/

@[simp] theorem completeOperation_tu (s : State) : (completeOperation s).tu = s.tu := rfl
@[simp] theorem completeOperation_flash (s : State) : (completeOperation s).flash = s.flash := rfl
@[simp] theorem completeOperation_de (s : State) : (completeOperation s).de = s.de := rfl
@[simp] theorem completeOperation_su (s : State) : (completeOperation s).su = s.su := rfl
@[simp] theorem completeOperation_isc (s : State) : (completeOperation s).isc = s.isc := rfl
@[simp] theorem completeOperation_lanes (s : State) : (completeOperation s).lanes = s.lanes := rfl
@[simp] theorem completeOperation_store (s : State) : (completeOperation s).store = s.store := rfl
@[simp] theorem completeOperation_writes (s : State) : (completeOperation s).writes = s.writes := rfl
@[simp] theorem completeOperation_cred (s : State) : (completeOperation s).cred = s.cred := rfl
@[simp] theorem completeOperation_mc (s : State) : (completeOperation s).mc = s.mc := rfl
@[simp] theorem completeOperation_socRun (s : State) : (completeOperation s).socRun = s.socRun := rfl
@[simp] theorem completeOperation_rstLow (s : State) : (completeOperation s).rstLow = s.rstLow := rfl
@[simp] theorem completeOperation_clock (s : State) : (completeOperation s).clock = s.clock := rfl
@[simp] theorem completeOperation_draws (s : State) : (completeOperation s).draws = s.draws := rfl
@[simp] theorem completeOperation_pending (s : State) : (completeOperation s).pending = s.pending := rfl
@[simp] theorem completeOperation_bp_wel (s : State) : (completeOperation s).bp.wel = s.bp.wel := rfl
@[simp] theorem completeOperation_bp_laneMode (s : State) : (completeOperation s).bp.laneMode = s.bp.laneMode := rfl
@[simp] theorem completeOperation_bp_resetEnable (s : State) : (completeOperation s).bp.resetEnable = s.bp.resetEnable := rfl
@[simp] theorem completeOperation_bp_idManufacturer (s : State) : (completeOperation s).bp.idManufacturer = s.bp.idManufacturer := rfl
@[simp] theorem completeOperation_bp_idType (s : State) : (completeOperation s).bp.idType = s.bp.idType := rfl
@[simp] theorem completeOperation_bp_pageBuffer (s : State) : (completeOperation s).bp.pageBuffer = s.bp.pageBuffer := rfl
@[simp] theorem completeOperation_bp_intakeCount (s : State) : (completeOperation s).bp.intakeCount = s.bp.intakeCount := rfl
@[simp] theorem completeOperation_bp_intake (s : State) : (completeOperation s).bp.intake = s.bp.intake := rfl
@[simp] theorem completeOperation_bp_readTxn (s : State) : (completeOperation s).bp.readTxn = s.bp.readTxn := rfl
@[simp] theorem completeOperation_bp_fetchTxn (s : State) : (completeOperation s).bp.fetchTxn = s.bp.fetchTxn := rfl
@[simp] theorem completeOperation_bp_out (s : State) : (completeOperation s).bp.out = s.bp.out := rfl
@[simp] theorem completeOperation_bp_outLines (s : State) : (completeOperation s).bp.outLines = s.bp.outLines := rfl
@[simp] theorem completeOperation_fp_run (s : State) : (completeOperation s).fp.run = s.fp.run := rfl
@[simp] theorem completeOperation_fp_chunk (s : State) : (completeOperation s).fp.chunk = s.fp.chunk := rfl
@[simp] theorem completeOperation_fp_chunkBuffer (s : State) : (completeOperation s).fp.chunkBuffer = s.fp.chunkBuffer := rfl
@[simp] theorem completeOperation_fp_prep (s : State) : (completeOperation s).fp.prep = s.fp.prep := rfl
@[simp] theorem completeOperation_fp_sent (s : State) : (completeOperation s).fp.sent = s.fp.sent := rfl
@[simp] theorem completeOperation_bp_writeRecord (s : State) :
    (completeOperation s).bp.writeRecord = .none := rfl
@[simp] theorem completeOperation_fp_op (s : State) :
    (completeOperation s).fp.op = none := rfl

/-! ### withdrawScanWork -/

@[simp] theorem withdrawScanWork_bp (s : State) : (withdrawScanWork s).bp = s.bp := rfl
@[simp] theorem withdrawScanWork_tu (s : State) : (withdrawScanWork s).tu = s.tu := rfl
@[simp] theorem withdrawScanWork_flash (s : State) : (withdrawScanWork s).flash = s.flash := rfl
@[simp] theorem withdrawScanWork_isc (s : State) : (withdrawScanWork s).isc = s.isc := rfl
@[simp] theorem withdrawScanWork_lanes (s : State) : (withdrawScanWork s).lanes = s.lanes := rfl
@[simp] theorem withdrawScanWork_store (s : State) : (withdrawScanWork s).store = s.store := rfl
@[simp] theorem withdrawScanWork_writes (s : State) : (withdrawScanWork s).writes = s.writes := rfl
@[simp] theorem withdrawScanWork_cred (s : State) : (withdrawScanWork s).cred = s.cred := rfl
@[simp] theorem withdrawScanWork_mc (s : State) : (withdrawScanWork s).mc = s.mc := rfl
@[simp] theorem withdrawScanWork_socRun (s : State) : (withdrawScanWork s).socRun = s.socRun := rfl
@[simp] theorem withdrawScanWork_rstLow (s : State) : (withdrawScanWork s).rstLow = s.rstLow := rfl
@[simp] theorem withdrawScanWork_clock (s : State) : (withdrawScanWork s).clock = s.clock := rfl
@[simp] theorem withdrawScanWork_draws (s : State) : (withdrawScanWork s).draws = s.draws := rfl
@[simp] theorem withdrawScanWork_pending (s : State) : (withdrawScanWork s).pending = s.pending := rfl
@[simp] theorem withdrawScanWork_fp_run (s : State) : (withdrawScanWork s).fp.run = s.fp.run := rfl
@[simp] theorem withdrawScanWork_fp_op (s : State) : (withdrawScanWork s).fp.op = s.fp.op := rfl
@[simp] theorem withdrawScanWork_fp_prep (s : State) : (withdrawScanWork s).fp.prep = s.fp.prep := rfl
@[simp] theorem withdrawScanWork_fp_sent (s : State) : (withdrawScanWork s).fp.sent = s.fp.sent := rfl
@[simp] theorem withdrawScanWork_de_channel (s : State) : (withdrawScanWork s).de.channel = s.de.channel := rfl
@[simp] theorem withdrawScanWork_de_scanFirst (s : State) : (withdrawScanWork s).de.scanFirst = s.de.scanFirst := rfl
@[simp] theorem withdrawScanWork_su_channel (s : State) : (withdrawScanWork s).su.channel = s.su.channel := rfl
@[simp] theorem withdrawScanWork_su_scanFirst (s : State) : (withdrawScanWork s).su.scanFirst = s.su.scanFirst := rfl
@[simp] theorem withdrawScanWork_fp_chunk (s : State) :
    (withdrawScanWork s).fp.chunk = none := rfl
@[simp] theorem withdrawScanWork_fp_chunkBuffer (s : State) :
    (withdrawScanWork s).fp.chunkBuffer = [] := rfl
@[simp] theorem withdrawScanWork_de_scan (s : State) :
    (withdrawScanWork s).de.scan = none := rfl
@[simp] theorem withdrawScanWork_de_absorbing (s : State) :
    (withdrawScanWork s).de.absorbing = if s.de.absorbing = some .scan then none else s.de.absorbing := rfl
@[simp] theorem withdrawScanWork_de_owed (s : State) :
    (withdrawScanWork s).de.owed = false := rfl
@[simp] theorem withdrawScanWork_su_scan (s : State) :
    (withdrawScanWork s).su.scan = none := rfl

/-! ### completeExtend -/

@[simp] theorem completeExtend_bp (k : Nat) (d : Bytes) (s : State) : (completeExtend k d s).bp = s.bp := rfl
@[simp] theorem completeExtend_tu (k : Nat) (d : Bytes) (s : State) : (completeExtend k d s).tu = s.tu := rfl
@[simp] theorem completeExtend_fp (k : Nat) (d : Bytes) (s : State) : (completeExtend k d s).fp = s.fp := rfl
@[simp] theorem completeExtend_flash (k : Nat) (d : Bytes) (s : State) : (completeExtend k d s).flash = s.flash := rfl
@[simp] theorem completeExtend_de (k : Nat) (d : Bytes) (s : State) : (completeExtend k d s).de = s.de := rfl
@[simp] theorem completeExtend_su (k : Nat) (d : Bytes) (s : State) : (completeExtend k d s).su = s.su := rfl
@[simp] theorem completeExtend_isc (k : Nat) (d : Bytes) (s : State) : (completeExtend k d s).isc = s.isc := rfl
@[simp] theorem completeExtend_store (k : Nat) (d : Bytes) (s : State) : (completeExtend k d s).store = s.store := rfl
@[simp] theorem completeExtend_writes (k : Nat) (d : Bytes) (s : State) : (completeExtend k d s).writes = s.writes := rfl
@[simp] theorem completeExtend_cred (k : Nat) (d : Bytes) (s : State) : (completeExtend k d s).cred = s.cred := rfl
@[simp] theorem completeExtend_mc (k : Nat) (d : Bytes) (s : State) : (completeExtend k d s).mc = s.mc := rfl
@[simp] theorem completeExtend_socRun (k : Nat) (d : Bytes) (s : State) : (completeExtend k d s).socRun = s.socRun := rfl
@[simp] theorem completeExtend_rstLow (k : Nat) (d : Bytes) (s : State) : (completeExtend k d s).rstLow = s.rstLow := rfl
@[simp] theorem completeExtend_clock (k : Nat) (d : Bytes) (s : State) : (completeExtend k d s).clock = s.clock := rfl
@[simp] theorem completeExtend_draws (k : Nat) (d : Bytes) (s : State) : (completeExtend k d s).draws = s.draws := rfl
@[simp] theorem completeExtend_pending (k : Nat) (d : Bytes) (s : State) : (completeExtend k d s).pending = s.pending := rfl

/-! ### partReset -/

@[simp] theorem partReset_flash (s : State) : (partReset s).flash = s.flash := rfl
@[simp] theorem partReset_store (s : State) : (partReset s).store = s.store := rfl
@[simp] theorem partReset_rstLow (s : State) : (partReset s).rstLow = s.rstLow := rfl
@[simp] theorem partReset_clock (s : State) : (partReset s).clock = s.clock := rfl
@[simp] theorem partReset_draws (s : State) : (partReset s).draws = s.draws := rfl
@[simp] theorem partReset_pending (s : State) : (partReset s).pending = s.pending := rfl
@[simp] theorem partReset_bp (s : State) :
    (partReset s).bp = .afterReset := rfl
@[simp] theorem partReset_tu (s : State) :
    (partReset s).tu = .afterReset := rfl
@[simp] theorem partReset_fp (s : State) :
    (partReset s).fp = .afterReset := rfl
@[simp] theorem partReset_de (s : State) :
    (partReset s).de = .afterReset := rfl
@[simp] theorem partReset_su (s : State) :
    (partReset s).su = .afterReset := rfl
@[simp] theorem partReset_isc (s : State) :
    (partReset s).isc = .afterReset := rfl
@[simp] theorem partReset_lanes (s : State) :
    (partReset s).lanes = List.replicate 8 .afterReset := rfl
@[simp] theorem partReset_writes (s : State) :
    (partReset s).writes = ⟨none, none⟩ := rfl
@[simp] theorem partReset_cred (s : State) :
    (partReset s).cred = none := rfl
@[simp] theorem partReset_mc (s : State) :
    (partReset s).mc = .afterReset := rfl
@[simp] theorem partReset_socRun (s : State) :
    (partReset s).socRun = false := rfl

/-! ### beginPreparation -/

@[simp] theorem beginPreparation_bp (s : State) : (beginPreparation s).bp = s.bp := rfl
@[simp] theorem beginPreparation_tu (s : State) : (beginPreparation s).tu = s.tu := rfl
@[simp] theorem beginPreparation_flash (s : State) : (beginPreparation s).flash = s.flash := rfl
@[simp] theorem beginPreparation_de (s : State) : (beginPreparation s).de = s.de := rfl
@[simp] theorem beginPreparation_su (s : State) : (beginPreparation s).su = s.su := rfl
@[simp] theorem beginPreparation_isc (s : State) : (beginPreparation s).isc = s.isc := rfl
@[simp] theorem beginPreparation_lanes (s : State) : (beginPreparation s).lanes = s.lanes := rfl
@[simp] theorem beginPreparation_store (s : State) : (beginPreparation s).store = s.store := rfl
@[simp] theorem beginPreparation_writes (s : State) : (beginPreparation s).writes = s.writes := rfl
@[simp] theorem beginPreparation_cred (s : State) : (beginPreparation s).cred = s.cred := rfl
@[simp] theorem beginPreparation_mc (s : State) : (beginPreparation s).mc = s.mc := rfl
@[simp] theorem beginPreparation_socRun (s : State) : (beginPreparation s).socRun = s.socRun := rfl
@[simp] theorem beginPreparation_rstLow (s : State) : (beginPreparation s).rstLow = s.rstLow := rfl
@[simp] theorem beginPreparation_clock (s : State) : (beginPreparation s).clock = s.clock := rfl
@[simp] theorem beginPreparation_draws (s : State) : (beginPreparation s).draws = s.draws := rfl
@[simp] theorem beginPreparation_pending (s : State) : (beginPreparation s).pending = s.pending := rfl
@[simp] theorem beginPreparation_fp_run (s : State) : (beginPreparation s).fp.run = s.fp.run := rfl
@[simp] theorem beginPreparation_fp_op (s : State) : (beginPreparation s).fp.op = s.fp.op := rfl
@[simp] theorem beginPreparation_fp_chunk (s : State) : (beginPreparation s).fp.chunk = s.fp.chunk := rfl
@[simp] theorem beginPreparation_fp_chunkBuffer (s : State) : (beginPreparation s).fp.chunkBuffer = s.fp.chunkBuffer := rfl
@[simp] theorem beginPreparation_fp_prep (s : State) :
    (beginPreparation s).fp.prep = .recovery := rfl
@[simp] theorem beginPreparation_fp_sent (s : State) :
    (beginPreparation s).fp.sent = s.fp.sent ++ [.resetEnable, .reset] := rfl

/-! ### beginResetWrite -/

@[simp] theorem beginResetWrite_bp (w : StoreWrite) (s : State) : (beginResetWrite w s).bp = s.bp := rfl
@[simp] theorem beginResetWrite_tu (w : StoreWrite) (s : State) : (beginResetWrite w s).tu = s.tu := rfl
@[simp] theorem beginResetWrite_flash (w : StoreWrite) (s : State) : (beginResetWrite w s).flash = s.flash := rfl
@[simp] theorem beginResetWrite_de (w : StoreWrite) (s : State) : (beginResetWrite w s).de = s.de := rfl
@[simp] theorem beginResetWrite_su (w : StoreWrite) (s : State) : (beginResetWrite w s).su = s.su := rfl
@[simp] theorem beginResetWrite_isc (w : StoreWrite) (s : State) : (beginResetWrite w s).isc = s.isc := rfl
@[simp] theorem beginResetWrite_lanes (w : StoreWrite) (s : State) : (beginResetWrite w s).lanes = s.lanes := rfl
@[simp] theorem beginResetWrite_store (w : StoreWrite) (s : State) : (beginResetWrite w s).store = s.store := rfl
@[simp] theorem beginResetWrite_cred (w : StoreWrite) (s : State) : (beginResetWrite w s).cred = s.cred := rfl
@[simp] theorem beginResetWrite_socRun (w : StoreWrite) (s : State) : (beginResetWrite w s).socRun = s.socRun := rfl
@[simp] theorem beginResetWrite_rstLow (w : StoreWrite) (s : State) : (beginResetWrite w s).rstLow = s.rstLow := rfl
@[simp] theorem beginResetWrite_clock (w : StoreWrite) (s : State) : (beginResetWrite w s).clock = s.clock := rfl
@[simp] theorem beginResetWrite_draws (w : StoreWrite) (s : State) : (beginResetWrite w s).draws = s.draws := rfl
@[simp] theorem beginResetWrite_pending (w : StoreWrite) (s : State) : (beginResetWrite w s).pending = s.pending := rfl
@[simp] theorem beginResetWrite_fp_run (w : StoreWrite) (s : State) : (beginResetWrite w s).fp.run = s.fp.run := rfl
@[simp] theorem beginResetWrite_fp_op (w : StoreWrite) (s : State) : (beginResetWrite w s).fp.op = s.fp.op := rfl
@[simp] theorem beginResetWrite_fp_chunk (w : StoreWrite) (s : State) : (beginResetWrite w s).fp.chunk = s.fp.chunk := rfl
@[simp] theorem beginResetWrite_fp_chunkBuffer (w : StoreWrite) (s : State) : (beginResetWrite w s).fp.chunkBuffer = s.fp.chunkBuffer := rfl
@[simp] theorem beginResetWrite_fp_sent (w : StoreWrite) (s : State) : (beginResetWrite w s).fp.sent = s.fp.sent := rfl
@[simp] theorem beginResetWrite_mc_request (w : StoreWrite) (s : State) : (beginResetWrite w s).mc.request = s.mc.request := rfl
@[simp] theorem beginResetWrite_mc_response (w : StoreWrite) (s : State) : (beginResetWrite w s).mc.response = s.mc.response := rfl
@[simp] theorem beginResetWrite_mc_scrubTimer (w : StoreWrite) (s : State) : (beginResetWrite w s).mc.scrubTimer = s.mc.scrubTimer := rfl
@[simp] theorem beginResetWrite_mc_flags (w : StoreWrite) (s : State) : (beginResetWrite w s).mc.flags = s.mc.flags := rfl
@[simp] theorem beginResetWrite_mc_dropped (w : StoreWrite) (s : State) : (beginResetWrite w s).mc.dropped = s.mc.dropped := rfl
@[simp] theorem beginResetWrite_mc_mask (w : StoreWrite) (s : State) : (beginResetWrite w s).mc.mask = s.mc.mask := rfl
@[simp] theorem beginResetWrite_fp_prep (w : StoreWrite) (s : State) :
    (beginResetWrite w s).fp.prep = .afterWrite := rfl
@[simp] theorem beginResetWrite_mc_state (w : StoreWrite) (s : State) :
    (beginResetWrite w s).mc.state = .working .resetWrite := rfl
@[simp] theorem beginResetWrite_writes (w : StoreWrite) (s : State) :
    (beginResetWrite w s).writes = ⟨some ⟨.partReset, w⟩, none⟩ := rfl

/-! ### installTable -/

@[simp] theorem installTable_bp (t : List Region) (x : Slot) (s : State) : (installTable t x s).bp = s.bp := rfl
@[simp] theorem installTable_fp (t : List Region) (x : Slot) (s : State) : (installTable t x s).fp = s.fp := rfl
@[simp] theorem installTable_flash (t : List Region) (x : Slot) (s : State) : (installTable t x s).flash = s.flash := rfl
@[simp] theorem installTable_de (t : List Region) (x : Slot) (s : State) : (installTable t x s).de = s.de := rfl
@[simp] theorem installTable_su (t : List Region) (x : Slot) (s : State) : (installTable t x s).su = s.su := rfl
@[simp] theorem installTable_isc (t : List Region) (x : Slot) (s : State) : (installTable t x s).isc = s.isc := rfl
@[simp] theorem installTable_lanes (t : List Region) (x : Slot) (s : State) : (installTable t x s).lanes = s.lanes := rfl
@[simp] theorem installTable_store (t : List Region) (x : Slot) (s : State) : (installTable t x s).store = s.store := rfl
@[simp] theorem installTable_writes (t : List Region) (x : Slot) (s : State) : (installTable t x s).writes = s.writes := rfl
@[simp] theorem installTable_cred (t : List Region) (x : Slot) (s : State) : (installTable t x s).cred = s.cred := rfl
@[simp] theorem installTable_mc (t : List Region) (x : Slot) (s : State) : (installTable t x s).mc = s.mc := rfl
@[simp] theorem installTable_socRun (t : List Region) (x : Slot) (s : State) : (installTable t x s).socRun = s.socRun := rfl
@[simp] theorem installTable_rstLow (t : List Region) (x : Slot) (s : State) : (installTable t x s).rstLow = s.rstLow := rfl
@[simp] theorem installTable_clock (t : List Region) (x : Slot) (s : State) : (installTable t x s).clock = s.clock := rfl
@[simp] theorem installTable_draws (t : List Region) (x : Slot) (s : State) : (installTable t x s).draws = s.draws := rfl
@[simp] theorem installTable_pending (t : List Region) (x : Slot) (s : State) : (installTable t x s).pending = s.pending := rfl
@[simp] theorem installTable_tu_violations (t : List Region) (x : Slot) (s : State) : (installTable t x s).tu.violations = s.tu.violations := rfl
@[simp] theorem installTable_tu_firstRefusal (t : List Region) (x : Slot) (s : State) : (installTable t x s).tu.firstRefusal = s.tu.firstRefusal := rfl
@[simp] theorem installTable_tu_table (t : List Region) (x : Slot) (s : State) :
    (installTable t x s).tu.table = t := rfl
@[simp] theorem installTable_tu_selector (t : List Region) (x : Slot) (s : State) :
    (installTable t x s).tu.selector = x := rfl

/-! ### The working copy of the Credential Unit -/

@[simp] theorem holdCredential_bp (c : Credential) (s : State) : (holdCredential c s).bp = s.bp := rfl
@[simp] theorem holdCredential_tu (c : Credential) (s : State) : (holdCredential c s).tu = s.tu := rfl
@[simp] theorem holdCredential_fp (c : Credential) (s : State) : (holdCredential c s).fp = s.fp := rfl
@[simp] theorem holdCredential_flash (c : Credential) (s : State) : (holdCredential c s).flash = s.flash := rfl
@[simp] theorem holdCredential_de (c : Credential) (s : State) : (holdCredential c s).de = s.de := rfl
@[simp] theorem holdCredential_su (c : Credential) (s : State) : (holdCredential c s).su = s.su := rfl
@[simp] theorem holdCredential_isc (c : Credential) (s : State) : (holdCredential c s).isc = s.isc := rfl
@[simp] theorem holdCredential_lanes (c : Credential) (s : State) : (holdCredential c s).lanes = s.lanes := rfl
@[simp] theorem holdCredential_store (c : Credential) (s : State) : (holdCredential c s).store = s.store := rfl
@[simp] theorem holdCredential_writes (c : Credential) (s : State) : (holdCredential c s).writes = s.writes := rfl
@[simp] theorem holdCredential_mc (c : Credential) (s : State) : (holdCredential c s).mc = s.mc := rfl
@[simp] theorem holdCredential_socRun (c : Credential) (s : State) : (holdCredential c s).socRun = s.socRun := rfl
@[simp] theorem holdCredential_rstLow (c : Credential) (s : State) : (holdCredential c s).rstLow = s.rstLow := rfl
@[simp] theorem holdCredential_clock (c : Credential) (s : State) : (holdCredential c s).clock = s.clock := rfl
@[simp] theorem holdCredential_draws (c : Credential) (s : State) : (holdCredential c s).draws = s.draws := rfl
@[simp] theorem holdCredential_pending (c : Credential) (s : State) : (holdCredential c s).pending = s.pending := rfl
@[simp] theorem holdCredential_cred (c : Credential) (s : State) : (holdCredential c s).cred = some ⟨c, none, none, false⟩ := rfl

end Sys2Proof.Machine
end

