-- ==== Sys2Proof/Laws/Frames.lean ====
section
/-! SUPPORT. The frame of each shared operation and of each event: the fields it leaves as they are in every state. -/

namespace Sys2Proof.Machine

/-- R130: an extend that begins found room in its log; this is its whole effect. -/
theorem beginExtend_next {k : Nat} {r : LogRecord} {s t : State} (h : beginExtend k r s = some t) :
    (laneAt s k).log.length < 16 ∧
      t = notifyExtend k { s with lanes := s.lanes.modify k fun l => { l with extending := some ⟨l.value, r⟩ } } := by
  unfold beginExtend at h
  split at h
  · cases h
  · exact ⟨by omega, by simpa using h.symm⟩

/-- R133: a boot extend that begins places its fold in the scan place. -/
theorem bootExtend_next {k : Nat} {r : LogRecord} {st : BootStage} {s t : State} (h : bootExtend k r st s = some t) :
    ∃ u, beginExtend k r s = some u ∧
      t = { placeScanItem (bufferItem .bootExtend (foldInput u k)) u with isc.stage := st } := by
  simp only [bootExtend, Option.map_eq_some_iff] at h
  obtain ⟨u, hu, rfl⟩ := h
  exact ⟨u, hu, rfl⟩

@[simp] theorem scrub_frame (s : State) :
      (scrub s).bp.wel = s.bp.wel ∧ (scrub s).bp.writeRecord = s.bp.writeRecord ∧
      (scrub s).bp.readTxn = s.bp.readTxn ∧ (scrub s).bp.laneMode = s.bp.laneMode ∧
      (scrub s).bp.resetEnable = s.bp.resetEnable ∧ (scrub s).tu = s.tu ∧ (scrub s).fp = s.fp ∧
      (scrub s).flash = s.flash ∧ (scrub s).de = s.de ∧ (scrub s).su = s.su ∧ (scrub s).isc = s.isc ∧
      (scrub s).lanes = s.lanes ∧ (scrub s).store = s.store ∧ (scrub s).writes = s.writes ∧
      (scrub s).cred = s.cred ∧ (scrub s).mc.flags = s.mc.flags ∧ (scrub s).mc.mask = s.mc.mask ∧
      (scrub s).mc.state = s.mc.state ∧ (scrub s).mc.request = s.mc.request ∧
      (scrub s).mc.dropped = s.mc.dropped ∧ (scrub s).socRun = s.socRun ∧ (scrub s).rstLow = s.rstLow ∧
      (scrub s).clock = s.clock ∧ (scrub s).draws = s.draws ∧ (scrub s).pending = s.pending := by
  unfold scrub
  try dsimp only
  (repeat' split) <;> simp

@[simp] theorem askWrite_frame (w : Requester) (x : StoreWrite)  (s : State) :
      (askWrite w x  s).bp = s.bp ∧ (askWrite w x  s).tu = s.tu ∧ (askWrite w x  s).fp = s.fp ∧
      (askWrite w x  s).flash = s.flash ∧ (askWrite w x  s).de = s.de ∧ (askWrite w x  s).su = s.su ∧
      (askWrite w x  s).isc = s.isc ∧ (askWrite w x  s).lanes = s.lanes ∧ (askWrite w x  s).store = s.store ∧
      (askWrite w x  s).cred = s.cred ∧ (askWrite w x  s).mc = s.mc ∧ (askWrite w x  s).socRun = s.socRun ∧
      (askWrite w x  s).rstLow = s.rstLow ∧ (askWrite w x  s).clock = s.clock ∧
      (askWrite w x  s).draws = s.draws ∧ (askWrite w x  s).pending = s.pending := by
  unfold askWrite
  try dsimp only
  (repeat' split) <;> simp

@[simp] theorem interruptWrite_frame (s : State) :
      (interruptWrite s).bp = s.bp ∧ (interruptWrite s).tu = s.tu ∧ (interruptWrite s).fp = s.fp ∧
      (interruptWrite s).flash = s.flash ∧ (interruptWrite s).de = s.de ∧ (interruptWrite s).su = s.su ∧
      (interruptWrite s).isc = s.isc ∧ (interruptWrite s).lanes = s.lanes ∧
      (interruptWrite s).writes = s.writes ∧ (interruptWrite s).cred = s.cred ∧
      (interruptWrite s).mc = s.mc ∧ (interruptWrite s).socRun = s.socRun ∧
      (interruptWrite s).rstLow = s.rstLow ∧ (interruptWrite s).clock = s.clock ∧
      (interruptWrite s).pending = s.pending := by
  unfold interruptWrite
  try dsimp only
  (repeat' split) <;> simp

@[simp] theorem requestSegmentChunk_frame (j : Nat)  (s : State) :
      (requestSegmentChunk j  s).bp = s.bp ∧ (requestSegmentChunk j  s).tu = s.tu ∧
      (requestSegmentChunk j  s).fp.op = s.fp.op ∧ (requestSegmentChunk j  s).fp.prep = s.fp.prep ∧
      (requestSegmentChunk j  s).flash = s.flash ∧ (requestSegmentChunk j  s).de = s.de ∧
      (requestSegmentChunk j  s).su = s.su ∧ (requestSegmentChunk j  s).isc.boot = s.isc.boot ∧
      (requestSegmentChunk j  s).isc.staging = s.isc.staging ∧
      (requestSegmentChunk j  s).isc.stage = s.isc.stage ∧ (requestSegmentChunk j  s).lanes = s.lanes ∧
      (requestSegmentChunk j  s).store = s.store ∧ (requestSegmentChunk j  s).writes = s.writes ∧
      (requestSegmentChunk j  s).cred = s.cred ∧ (requestSegmentChunk j  s).mc = s.mc ∧
      (requestSegmentChunk j  s).socRun = s.socRun ∧ (requestSegmentChunk j  s).rstLow = s.rstLow ∧
      (requestSegmentChunk j  s).clock = s.clock ∧ (requestSegmentChunk j  s).draws = s.draws ∧
      (requestSegmentChunk j  s).pending = s.pending := by
  unfold requestSegmentChunk
  simp

@[simp] theorem chunkTaken_frame (s : State) :
      (chunkTaken s).bp = s.bp ∧ (chunkTaken s).tu = s.tu ∧ (chunkTaken s).fp.op = s.fp.op ∧
      (chunkTaken s).fp.prep = s.fp.prep ∧ (chunkTaken s).flash = s.flash ∧ (chunkTaken s).de = s.de ∧
      (chunkTaken s).su = s.su ∧ (chunkTaken s).isc.boot = s.isc.boot ∧
      (chunkTaken s).isc.staging = s.isc.staging ∧ (chunkTaken s).isc.stage = s.isc.stage ∧
      (chunkTaken s).lanes = s.lanes ∧ (chunkTaken s).store = s.store ∧ (chunkTaken s).writes = s.writes ∧
      (chunkTaken s).cred = s.cred ∧ (chunkTaken s).mc = s.mc ∧ (chunkTaken s).socRun = s.socRun ∧
      (chunkTaken s).rstLow = s.rstLow ∧ (chunkTaken s).clock = s.clock ∧ (chunkTaken s).draws = s.draws ∧
      (chunkTaken s).pending = s.pending := by
  unfold chunkTaken
  try dsimp only
  (repeat' split) <;> simp

@[simp] theorem startAbsorption_frame (s : State) :
      (startAbsorption s).bp = s.bp ∧ (startAbsorption s).tu = s.tu ∧ (startAbsorption s).fp.op = s.fp.op ∧
      (startAbsorption s).fp.prep = s.fp.prep ∧ (startAbsorption s).flash = s.flash ∧
      (startAbsorption s).su = s.su ∧ (startAbsorption s).isc.boot = s.isc.boot ∧
      (startAbsorption s).isc.staging = s.isc.staging ∧ (startAbsorption s).isc.stage = s.isc.stage ∧
      (startAbsorption s).lanes = s.lanes ∧ (startAbsorption s).store = s.store ∧
      (startAbsorption s).writes = s.writes ∧ (startAbsorption s).cred = s.cred ∧
      (startAbsorption s).mc = s.mc ∧ (startAbsorption s).socRun = s.socRun ∧
      (startAbsorption s).rstLow = s.rstLow ∧ (startAbsorption s).clock = s.clock ∧
      (startAbsorption s).draws = s.draws ∧ (startAbsorption s).pending = s.pending := by
  unfold startAbsorption
  try dsimp only
  (repeat' split) <;> simp

@[simp] theorem startSignature_frame (s : State) :
      (startSignature s).bp = s.bp ∧ (startSignature s).tu = s.tu ∧ (startSignature s).fp = s.fp ∧
      (startSignature s).flash = s.flash ∧ (startSignature s).de = s.de ∧ (startSignature s).isc = s.isc ∧
      (startSignature s).lanes = s.lanes ∧ (startSignature s).store = s.store ∧
      (startSignature s).writes = s.writes ∧ (startSignature s).cred = s.cred ∧
      (startSignature s).mc = s.mc ∧ (startSignature s).socRun = s.socRun ∧
      (startSignature s).rstLow = s.rstLow ∧ (startSignature s).clock = s.clock ∧
      (startSignature s).draws = s.draws ∧ (startSignature s).pending = s.pending := by
  unfold startSignature
  try dsimp only
  (repeat' split) <;> simp

@[simp] theorem preemptChunk_frame (s : State) :
      (preemptChunk s).bp = s.bp ∧ (preemptChunk s).tu = s.tu ∧ (preemptChunk s).fp.op = s.fp.op ∧
      (preemptChunk s).fp.prep = s.fp.prep ∧ (preemptChunk s).flash = s.flash ∧ (preemptChunk s).de = s.de ∧
      (preemptChunk s).su = s.su ∧ (preemptChunk s).isc.boot = s.isc.boot ∧
      (preemptChunk s).isc.stage = s.isc.stage ∧ (preemptChunk s).isc.scan = s.isc.scan ∧
      (preemptChunk s).lanes = s.lanes ∧ (preemptChunk s).store = s.store ∧
      (preemptChunk s).writes = s.writes ∧ (preemptChunk s).cred = s.cred ∧ (preemptChunk s).mc = s.mc ∧
      (preemptChunk s).socRun = s.socRun ∧ (preemptChunk s).rstLow = s.rstLow ∧
      (preemptChunk s).clock = s.clock ∧ (preemptChunk s).draws = s.draws ∧
      (preemptChunk s).pending = s.pending := by
  unfold preemptChunk
  try dsimp only
  (repeat' split) <;> simp

@[simp] theorem startOperation_frame (s : State) :
      (startOperation s).bp = s.bp ∧ (startOperation s).tu = s.tu ∧ (startOperation s).fp.prep = s.fp.prep ∧
      (startOperation s).flash = s.flash ∧ (startOperation s).de = s.de ∧ (startOperation s).su = s.su ∧
      (startOperation s).isc.boot = s.isc.boot ∧ (startOperation s).isc.stage = s.isc.stage ∧
      (startOperation s).isc.scan = s.isc.scan ∧ (startOperation s).lanes = s.lanes ∧
      (startOperation s).store = s.store ∧ (startOperation s).writes = s.writes ∧
      (startOperation s).cred = s.cred ∧ (startOperation s).mc = s.mc ∧
      (startOperation s).socRun = s.socRun ∧ (startOperation s).rstLow = s.rstLow ∧
      (startOperation s).clock = s.clock ∧ (startOperation s).draws = s.draws ∧
      (startOperation s).pending = s.pending := by
  unfold startOperation
  try dsimp only
  (repeat' split) <;> simp

@[simp] theorem endCommand_frame (o : FlightOp)  (s : State) :
      (endCommand o  s).bp.wel = s.bp.wel ∧ (endCommand o  s).bp.readTxn = s.bp.readTxn ∧
      (endCommand o  s).bp.fetchTxn = s.bp.fetchTxn ∧ (endCommand o  s).bp.laneMode = s.bp.laneMode ∧
      (endCommand o  s).bp.resetEnable = s.bp.resetEnable ∧ (endCommand o  s).tu = s.tu ∧
      (endCommand o  s).fp.prep = s.fp.prep ∧ (endCommand o  s).de = s.de ∧ (endCommand o  s).su = s.su ∧
      (endCommand o  s).isc = s.isc ∧ (endCommand o  s).lanes = s.lanes ∧ (endCommand o  s).store = s.store ∧
      (endCommand o  s).writes = s.writes ∧ (endCommand o  s).cred = s.cred ∧ (endCommand o  s).mc = s.mc ∧
      (endCommand o  s).socRun = s.socRun ∧ (endCommand o  s).rstLow = s.rstLow ∧
      (endCommand o  s).clock = s.clock ∧ (endCommand o  s).draws = s.draws ∧
      (endCommand o  s).pending = s.pending := by
  unfold endCommand
  try dsimp only
  (repeat' split) <;> simp

@[simp] theorem suspendOperation_frame (e : SuspendReply)  (s : State) :
      (suspendOperation e  s).bp.wel = s.bp.wel ∧ (suspendOperation e  s).bp.readTxn = s.bp.readTxn ∧
      (suspendOperation e  s).bp.fetchTxn = s.bp.fetchTxn ∧
      (suspendOperation e  s).bp.laneMode = s.bp.laneMode ∧
      (suspendOperation e  s).bp.resetEnable = s.bp.resetEnable ∧ (suspendOperation e  s).tu = s.tu ∧
      (suspendOperation e  s).fp.prep = s.fp.prep ∧ (suspendOperation e  s).de = s.de ∧
      (suspendOperation e  s).su = s.su ∧ (suspendOperation e  s).isc = s.isc ∧
      (suspendOperation e  s).lanes = s.lanes ∧ (suspendOperation e  s).store = s.store ∧
      (suspendOperation e  s).writes = s.writes ∧ (suspendOperation e  s).cred = s.cred ∧
      (suspendOperation e  s).mc = s.mc ∧ (suspendOperation e  s).socRun = s.socRun ∧
      (suspendOperation e  s).rstLow = s.rstLow ∧ (suspendOperation e  s).clock = s.clock ∧
      (suspendOperation e  s).draws = s.draws ∧ (suspendOperation e  s).pending = s.pending := by
  unfold suspendOperation
  try dsimp only
  (repeat' split) <;> simp

@[simp] theorem beginRun_frame (p : Nat) (e : SuspendReply)  (s : State) :
      (beginRun p e  s).bp.wel = s.bp.wel ∧ (beginRun p e  s).bp.fetchTxn = s.bp.fetchTxn ∧
      (beginRun p e  s).bp.laneMode = s.bp.laneMode ∧ (beginRun p e  s).bp.resetEnable = s.bp.resetEnable ∧
      (beginRun p e  s).tu = s.tu ∧ (beginRun p e  s).fp.prep = s.fp.prep ∧ (beginRun p e  s).de = s.de ∧
      (beginRun p e  s).su = s.su ∧ (beginRun p e  s).isc.boot = s.isc.boot ∧
      (beginRun p e  s).isc.stage = s.isc.stage ∧ (beginRun p e  s).isc.scan = s.isc.scan ∧
      (beginRun p e  s).lanes = s.lanes ∧ (beginRun p e  s).store = s.store ∧
      (beginRun p e  s).writes = s.writes ∧ (beginRun p e  s).cred = s.cred ∧ (beginRun p e  s).mc = s.mc ∧
      (beginRun p e  s).socRun = s.socRun ∧ (beginRun p e  s).rstLow = s.rstLow ∧
      (beginRun p e  s).clock = s.clock ∧ (beginRun p e  s).draws = s.draws ∧
      (beginRun p e  s).pending = s.pending := by
  unfold beginRun
  try dsimp only
  (repeat' split) <;> simp

@[simp] theorem resumeOperation_frame (s : State) :
      (resumeOperation s).bp = s.bp ∧ (resumeOperation s).tu = s.tu ∧
      (resumeOperation s).fp.prep = s.fp.prep ∧ (resumeOperation s).flash = s.flash ∧
      (resumeOperation s).de = s.de ∧ (resumeOperation s).su = s.su ∧ (resumeOperation s).isc = s.isc ∧
      (resumeOperation s).lanes = s.lanes ∧ (resumeOperation s).store = s.store ∧
      (resumeOperation s).writes = s.writes ∧ (resumeOperation s).cred = s.cred ∧
      (resumeOperation s).mc = s.mc ∧ (resumeOperation s).socRun = s.socRun ∧
      (resumeOperation s).rstLow = s.rstLow ∧ (resumeOperation s).clock = s.clock ∧
      (resumeOperation s).draws = s.draws ∧ (resumeOperation s).pending = s.pending := by
  unfold resumeOperation
  try dsimp only
  (repeat' split) <;> simp

@[simp] theorem startChunkRead_frame (s : State) :
      (startChunkRead s).bp = s.bp ∧ (startChunkRead s).tu = s.tu ∧ (startChunkRead s).fp.op = s.fp.op ∧
      (startChunkRead s).fp.prep = s.fp.prep ∧ (startChunkRead s).flash = s.flash ∧
      (startChunkRead s).de = s.de ∧ (startChunkRead s).su = s.su ∧ (startChunkRead s).isc = s.isc ∧
      (startChunkRead s).lanes = s.lanes ∧ (startChunkRead s).store = s.store ∧
      (startChunkRead s).writes = s.writes ∧ (startChunkRead s).cred = s.cred ∧
      (startChunkRead s).mc = s.mc ∧ (startChunkRead s).socRun = s.socRun ∧
      (startChunkRead s).rstLow = s.rstLow ∧ (startChunkRead s).clock = s.clock ∧
      (startChunkRead s).draws = s.draws ∧ (startChunkRead s).pending = s.pending := by
  unfold startChunkRead
  try dsimp only
  (repeat' split) <;> simp

@[simp] theorem settle_frame (s : State) :
      (settle s).bp = s.bp ∧ (settle s).tu = s.tu ∧ (settle s).fp.prep = s.fp.prep ∧
      (settle s).flash = s.flash ∧ (settle s).isc.boot = s.isc.boot ∧ (settle s).isc.stage = s.isc.stage ∧
      (settle s).lanes = s.lanes ∧ (settle s).store = s.store ∧ (settle s).writes = s.writes ∧
      (settle s).cred = s.cred ∧ (settle s).mc = s.mc ∧ (settle s).socRun = s.socRun ∧
      (settle s).rstLow = s.rstLow ∧ (settle s).clock = s.clock ∧ (settle s).draws = s.draws ∧
      (settle s).pending = s.pending := by
  unfold settle
  try dsimp only
  (repeat' split) <;> simp

@[simp] theorem notifyExtend_frame (k : Nat)  (s : State) :
      (notifyExtend k  s).bp.wel = s.bp.wel ∧ (notifyExtend k  s).bp.writeRecord = s.bp.writeRecord ∧
      (notifyExtend k  s).bp.readTxn = s.bp.readTxn ∧ (notifyExtend k  s).bp.laneMode = s.bp.laneMode ∧
      (notifyExtend k  s).bp.resetEnable = s.bp.resetEnable ∧ (notifyExtend k  s).tu = s.tu ∧
      (notifyExtend k  s).fp = s.fp ∧ (notifyExtend k  s).flash = s.flash ∧ (notifyExtend k  s).de = s.de ∧
      (notifyExtend k  s).su = s.su ∧ (notifyExtend k  s).isc = s.isc ∧ (notifyExtend k  s).lanes = s.lanes ∧
      (notifyExtend k  s).store = s.store ∧ (notifyExtend k  s).writes = s.writes ∧
      (notifyExtend k  s).mc.flags = s.mc.flags ∧ (notifyExtend k  s).mc.mask = s.mc.mask ∧
      (notifyExtend k  s).mc.state = s.mc.state ∧ (notifyExtend k  s).mc.request = s.mc.request ∧
      (notifyExtend k  s).mc.dropped = s.mc.dropped ∧ (notifyExtend k  s).socRun = s.socRun ∧
      (notifyExtend k  s).rstLow = s.rstLow ∧ (notifyExtend k  s).clock = s.clock ∧
      (notifyExtend k  s).draws = s.draws ∧ (notifyExtend k  s).pending = s.pending := by
  unfold notifyExtend
  try dsimp only
  (repeat' split) <;> simp

@[simp] theorem abandonOperation_frame (s : State) :
      (abandonOperation s).bp = s.bp ∧ (abandonOperation s).tu = s.tu ∧ (abandonOperation s).fp = s.fp ∧
      (abandonOperation s).de = s.de ∧ (abandonOperation s).su = s.su ∧ (abandonOperation s).isc = s.isc ∧
      (abandonOperation s).lanes = s.lanes ∧ (abandonOperation s).store = s.store ∧
      (abandonOperation s).writes = s.writes ∧ (abandonOperation s).cred = s.cred ∧
      (abandonOperation s).mc = s.mc ∧ (abandonOperation s).socRun = s.socRun ∧
      (abandonOperation s).rstLow = s.rstLow ∧ (abandonOperation s).clock = s.clock ∧
      (abandonOperation s).pending = s.pending := by
  unfold abandonOperation
  try dsimp only
  (repeat' split) <;> simp

@[simp] theorem beginResetWork_frame (s : State) :
      (beginResetWork s).bp = s.bp ∧ (beginResetWork s).tu = s.tu ∧ (beginResetWork s).fp.op = s.fp.op ∧
      (beginResetWork s).flash = s.flash ∧ (beginResetWork s).de = s.de ∧ (beginResetWork s).su = s.su ∧
      (beginResetWork s).isc = s.isc ∧ (beginResetWork s).lanes = s.lanes ∧
      (beginResetWork s).store = s.store ∧ (beginResetWork s).cred = s.cred ∧
      (beginResetWork s).mc.response = s.mc.response ∧ (beginResetWork s).mc.scrubTimer = s.mc.scrubTimer ∧
      (beginResetWork s).mc.flags = s.mc.flags ∧ (beginResetWork s).mc.mask = s.mc.mask ∧
      (beginResetWork s).mc.request = s.mc.request ∧ (beginResetWork s).mc.dropped = s.mc.dropped ∧
      (beginResetWork s).socRun = s.socRun ∧ (beginResetWork s).rstLow = s.rstLow ∧
      (beginResetWork s).clock = s.clock ∧ (beginResetWork s).draws = s.draws ∧
      (beginResetWork s).pending = s.pending := by
  unfold beginResetWork
  try dsimp only
  (repeat' split) <;> simp

@[simp] theorem endRead_frame (s : State) :
      (endRead s).bp.wel = s.bp.wel ∧ (endRead s).bp.writeRecord = s.bp.writeRecord ∧
      (endRead s).bp.fetchTxn = s.bp.fetchTxn ∧ (endRead s).bp.laneMode = s.bp.laneMode ∧
      (endRead s).tu = s.tu ∧ (endRead s).fp.prep = s.fp.prep ∧ (endRead s).flash = s.flash ∧
      (endRead s).isc.boot = s.isc.boot ∧ (endRead s).isc.stage = s.isc.stage ∧ (endRead s).lanes = s.lanes ∧
      (endRead s).store = s.store ∧ (endRead s).writes = s.writes ∧ (endRead s).cred = s.cred ∧
      (endRead s).mc = s.mc ∧ (endRead s).socRun = s.socRun ∧ (endRead s).rstLow = s.rstLow ∧
      (endRead s).clock = s.clock ∧ (endRead s).draws = s.draws ∧ (endRead s).pending = s.pending := by
  unfold endRead
  try dsimp only
  (repeat' split) <;> simp

@[simp] theorem reportFetch_frame (t : FetchTxn)  (s : State) :
      (reportFetch t  s).bp.wel = s.bp.wel ∧ (reportFetch t  s).bp.writeRecord = s.bp.writeRecord ∧
      (reportFetch t  s).bp.readTxn = s.bp.readTxn ∧ (reportFetch t  s).bp.laneMode = s.bp.laneMode ∧
      (reportFetch t  s).bp.resetEnable = s.bp.resetEnable ∧ (reportFetch t  s).tu = s.tu ∧
      (reportFetch t  s).fp = s.fp ∧ (reportFetch t  s).flash = s.flash ∧ (reportFetch t  s).de = s.de ∧
      (reportFetch t  s).su = s.su ∧ (reportFetch t  s).isc = s.isc ∧ (reportFetch t  s).lanes = s.lanes ∧
      (reportFetch t  s).store = s.store ∧ (reportFetch t  s).writes = s.writes ∧
      (reportFetch t  s).cred = s.cred ∧ (reportFetch t  s).mc.flags = s.mc.flags ∧
      (reportFetch t  s).mc.mask = s.mc.mask ∧ (reportFetch t  s).mc.state = s.mc.state ∧
      (reportFetch t  s).mc.request = s.mc.request ∧ (reportFetch t  s).mc.dropped = s.mc.dropped ∧
      (reportFetch t  s).socRun = s.socRun ∧ (reportFetch t  s).rstLow = s.rstLow ∧
      (reportFetch t  s).clock = s.clock ∧ (reportFetch t  s).draws = s.draws ∧
      (reportFetch t  s).pending = s.pending := by
  unfold reportFetch
  try dsimp only
  (repeat' split) <;> simp

@[simp] theorem endFetch_frame (s : State) :
      (endFetch s).bp.wel = s.bp.wel ∧ (endFetch s).bp.writeRecord = s.bp.writeRecord ∧
      (endFetch s).bp.readTxn = s.bp.readTxn ∧ (endFetch s).bp.laneMode = s.bp.laneMode ∧
      (endFetch s).tu = s.tu ∧ (endFetch s).fp = s.fp ∧ (endFetch s).flash = s.flash ∧
      (endFetch s).de = s.de ∧ (endFetch s).su = s.su ∧ (endFetch s).isc = s.isc ∧
      (endFetch s).lanes = s.lanes ∧ (endFetch s).store = s.store ∧ (endFetch s).writes = s.writes ∧
      (endFetch s).cred = s.cred ∧ (endFetch s).mc.flags = s.mc.flags ∧ (endFetch s).mc.mask = s.mc.mask ∧
      (endFetch s).mc.state = s.mc.state ∧ (endFetch s).mc.request = s.mc.request ∧
      (endFetch s).mc.dropped = s.mc.dropped ∧ (endFetch s).socRun = s.socRun ∧
      (endFetch s).rstLow = s.rstLow ∧ (endFetch s).clock = s.clock ∧ (endFetch s).draws = s.draws ∧
      (endFetch s).pending = s.pending := by
  unfold endFetch
  try dsimp only
  (repeat' split) <;> simp

@[simp] theorem endOpenTransaction_frame (s : State) :
      (endOpenTransaction s).bp.wel = s.bp.wel ∧ (endOpenTransaction s).bp.writeRecord = s.bp.writeRecord ∧
      (endOpenTransaction s).bp.laneMode = s.bp.laneMode ∧ (endOpenTransaction s).tu = s.tu ∧
      (endOpenTransaction s).fp.prep = s.fp.prep ∧ (endOpenTransaction s).flash = s.flash ∧
      (endOpenTransaction s).isc.boot = s.isc.boot ∧ (endOpenTransaction s).isc.stage = s.isc.stage ∧
      (endOpenTransaction s).lanes = s.lanes ∧ (endOpenTransaction s).store = s.store ∧
      (endOpenTransaction s).writes = s.writes ∧ (endOpenTransaction s).cred = s.cred ∧
      (endOpenTransaction s).mc.flags = s.mc.flags ∧ (endOpenTransaction s).mc.mask = s.mc.mask ∧
      (endOpenTransaction s).mc.state = s.mc.state ∧ (endOpenTransaction s).mc.request = s.mc.request ∧
      (endOpenTransaction s).mc.dropped = s.mc.dropped ∧ (endOpenTransaction s).socRun = s.socRun ∧
      (endOpenTransaction s).rstLow = s.rstLow ∧ (endOpenTransaction s).clock = s.clock ∧
      (endOpenTransaction s).draws = s.draws ∧ (endOpenTransaction s).pending = s.pending := by
  unfold endOpenTransaction
  simp

@[simp] theorem startScan_frame (o : ScanOwner) (x : Slot)  (s : State) :
      (startScan o x  s).bp = s.bp ∧ (startScan o x  s).tu = s.tu ∧ (startScan o x  s).fp.op = s.fp.op ∧
      (startScan o x  s).fp.prep = s.fp.prep ∧ (startScan o x  s).flash = s.flash ∧
      (startScan o x  s).de = s.de ∧ (startScan o x  s).su = s.su ∧
      (startScan o x  s).isc.boot = s.isc.boot ∧ (startScan o x  s).isc.staging = s.isc.staging ∧
      (startScan o x  s).isc.stage = s.isc.stage ∧ (startScan o x  s).lanes = s.lanes ∧
      (startScan o x  s).store = s.store ∧ (startScan o x  s).writes = s.writes ∧
      (startScan o x  s).cred = s.cred ∧ (startScan o x  s).mc = s.mc ∧
      (startScan o x  s).socRun = s.socRun ∧ (startScan o x  s).rstLow = s.rstLow ∧
      (startScan o x  s).clock = s.clock ∧ (startScan o x  s).draws = s.draws ∧
      (startScan o x  s).pending = s.pending := by
  unfold startScan
  simp

@[simp] theorem beginSegment_frame (k : Nat)  (s : State) :
      (beginSegment k  s).bp = s.bp ∧ (beginSegment k  s).tu = s.tu ∧ (beginSegment k  s).fp.op = s.fp.op ∧
      (beginSegment k  s).fp.prep = s.fp.prep ∧ (beginSegment k  s).flash = s.flash ∧
      (beginSegment k  s).su = s.su ∧ (beginSegment k  s).isc.boot = s.isc.boot ∧
      (beginSegment k  s).isc.staging = s.isc.staging ∧ (beginSegment k  s).isc.stage = s.isc.stage ∧
      (beginSegment k  s).lanes = s.lanes ∧ (beginSegment k  s).store = s.store ∧
      (beginSegment k  s).writes = s.writes ∧ (beginSegment k  s).cred = s.cred ∧
      (beginSegment k  s).mc = s.mc ∧ (beginSegment k  s).socRun = s.socRun ∧
      (beginSegment k  s).rstLow = s.rstLow ∧ (beginSegment k  s).clock = s.clock ∧
      (beginSegment k  s).draws = s.draws ∧ (beginSegment k  s).pending = s.pending := by
  unfold beginSegment
  simp

@[simp] theorem release_frame (r : BootRecord)  (s : State) :
      (release r  s).bp = s.bp ∧ (release r  s).tu = s.tu ∧ (release r  s).fp = s.fp ∧
      (release r  s).flash = s.flash ∧ (release r  s).de = s.de ∧ (release r  s).su = s.su ∧
      (release r  s).isc.staging = s.isc.staging ∧ (release r  s).isc.scan = s.isc.scan ∧
      (release r  s).lanes = s.lanes ∧ (release r  s).store = s.store ∧ (release r  s).writes = s.writes ∧
      (release r  s).cred = s.cred ∧ (release r  s).mc.response = s.mc.response ∧
      (release r  s).mc.scrubTimer = s.mc.scrubTimer ∧ (release r  s).mc.mask = s.mc.mask ∧
      (release r  s).mc.state = s.mc.state ∧ (release r  s).mc.request = s.mc.request ∧
      (release r  s).mc.dropped = s.mc.dropped ∧ (release r  s).rstLow = s.rstLow ∧
      (release r  s).clock = s.clock ∧ (release r  s).draws = s.draws ∧ (release r  s).pending = s.pending := by
  unfold release
  try dsimp only
  (repeat' split) <;> simp

@[simp] theorem enterRecovery_frame (s : State) :
      (enterRecovery s).bp = s.bp ∧ (enterRecovery s).tu.violations = s.tu.violations ∧
      (enterRecovery s).tu.firstRefusal = s.tu.firstRefusal ∧ (enterRecovery s).fp = s.fp ∧
      (enterRecovery s).flash = s.flash ∧ (enterRecovery s).de = s.de ∧ (enterRecovery s).su = s.su ∧
      (enterRecovery s).isc.staging = s.isc.staging ∧ (enterRecovery s).isc.scan = s.isc.scan ∧
      (enterRecovery s).lanes = s.lanes ∧ (enterRecovery s).store = s.store ∧
      (enterRecovery s).writes = s.writes ∧ (enterRecovery s).cred = s.cred ∧
      (enterRecovery s).mc.response = s.mc.response ∧ (enterRecovery s).mc.scrubTimer = s.mc.scrubTimer ∧
      (enterRecovery s).mc.mask = s.mc.mask ∧ (enterRecovery s).mc.state = s.mc.state ∧
      (enterRecovery s).mc.request = s.mc.request ∧ (enterRecovery s).mc.dropped = s.mc.dropped ∧
      (enterRecovery s).rstLow = s.rstLow ∧ (enterRecovery s).clock = s.clock ∧
      (enterRecovery s).draws = s.draws ∧ (enterRecovery s).pending = s.pending := by
  unfold enterRecovery
  simp

@[simp] theorem finishPass_frame (s : State) :
      (finishPass s).bp = s.bp ∧ (finishPass s).tu.violations = s.tu.violations ∧
      (finishPass s).tu.firstRefusal = s.tu.firstRefusal ∧ (finishPass s).fp = s.fp ∧
      (finishPass s).flash = s.flash ∧ (finishPass s).de = s.de ∧ (finishPass s).su = s.su ∧
      (finishPass s).isc.staging = s.isc.staging ∧ (finishPass s).isc.scan = s.isc.scan ∧
      (finishPass s).lanes = s.lanes ∧ (finishPass s).store = s.store ∧ (finishPass s).writes = s.writes ∧
      (finishPass s).cred = s.cred ∧ (finishPass s).mc.response = s.mc.response ∧
      (finishPass s).mc.scrubTimer = s.mc.scrubTimer ∧ (finishPass s).mc.mask = s.mc.mask ∧
      (finishPass s).mc.state = s.mc.state ∧ (finishPass s).mc.request = s.mc.request ∧
      (finishPass s).mc.dropped = s.mc.dropped ∧ (finishPass s).rstLow = s.rstLow ∧
      (finishPass s).clock = s.clock ∧ (finishPass s).draws = s.draws ∧ (finishPass s).pending = s.pending := by
  unfold finishPass
  try dsimp only
  (repeat' split) <;> simp

@[simp] theorem extendSegments_frame (l : List Nat)  (s : State) :
      (extendSegments l  s).bp.wel = s.bp.wel ∧ (extendSegments l  s).bp.writeRecord = s.bp.writeRecord ∧
      (extendSegments l  s).bp.readTxn = s.bp.readTxn ∧ (extendSegments l  s).bp.laneMode = s.bp.laneMode ∧
      (extendSegments l  s).bp.resetEnable = s.bp.resetEnable ∧
      (extendSegments l  s).tu.violations = s.tu.violations ∧
      (extendSegments l  s).tu.firstRefusal = s.tu.firstRefusal ∧ (extendSegments l  s).fp = s.fp ∧
      (extendSegments l  s).flash = s.flash ∧ (extendSegments l  s).su = s.su ∧
      (extendSegments l  s).isc.staging = s.isc.staging ∧ (extendSegments l  s).isc.scan = s.isc.scan ∧
      (extendSegments l  s).store = s.store ∧ (extendSegments l  s).writes = s.writes ∧
      (extendSegments l  s).mc.mask = s.mc.mask ∧ (extendSegments l  s).mc.state = s.mc.state ∧
      (extendSegments l  s).mc.request = s.mc.request ∧ (extendSegments l  s).mc.dropped = s.mc.dropped ∧
      (extendSegments l  s).rstLow = s.rstLow ∧ (extendSegments l  s).clock = s.clock ∧
      (extendSegments l  s).draws = s.draws ∧ (extendSegments l  s).pending = s.pending := by
  induction l generalizing s with
  | nil => simp [extendSegments]
  | cons k rest ih =>
    simp only [extendSegments]
    split
    · exact ih s
    · split
      · exact ih s
      · rename_i h
        obtain ⟨u, hu, rfl⟩ := bootExtend_next h
        obtain ⟨-, rfl⟩ := beginExtend_next hu
        simp

@[simp] theorem extendFrom_frame (k : Nat)  (s : State) :
      (extendFrom k  s).bp.wel = s.bp.wel ∧ (extendFrom k  s).bp.writeRecord = s.bp.writeRecord ∧
      (extendFrom k  s).bp.readTxn = s.bp.readTxn ∧ (extendFrom k  s).bp.laneMode = s.bp.laneMode ∧
      (extendFrom k  s).bp.resetEnable = s.bp.resetEnable ∧
      (extendFrom k  s).tu.violations = s.tu.violations ∧
      (extendFrom k  s).tu.firstRefusal = s.tu.firstRefusal ∧ (extendFrom k  s).fp = s.fp ∧
      (extendFrom k  s).flash = s.flash ∧ (extendFrom k  s).su = s.su ∧
      (extendFrom k  s).isc.staging = s.isc.staging ∧ (extendFrom k  s).isc.scan = s.isc.scan ∧
      (extendFrom k  s).store = s.store ∧ (extendFrom k  s).writes = s.writes ∧
      (extendFrom k  s).mc.mask = s.mc.mask ∧ (extendFrom k  s).mc.state = s.mc.state ∧
      (extendFrom k  s).mc.request = s.mc.request ∧ (extendFrom k  s).mc.dropped = s.mc.dropped ∧
      (extendFrom k  s).rstLow = s.rstLow ∧ (extendFrom k  s).clock = s.clock ∧
      (extendFrom k  s).draws = s.draws ∧ (extendFrom k  s).pending = s.pending := by
  unfold extendFrom
  simp

@[simp] theorem bootPassed_frame (s : State) :
      (bootPassed s).bp.wel = s.bp.wel ∧ (bootPassed s).bp.writeRecord = s.bp.writeRecord ∧
      (bootPassed s).bp.readTxn = s.bp.readTxn ∧ (bootPassed s).bp.laneMode = s.bp.laneMode ∧
      (bootPassed s).bp.resetEnable = s.bp.resetEnable ∧ (bootPassed s).tu.violations = s.tu.violations ∧
      (bootPassed s).tu.firstRefusal = s.tu.firstRefusal ∧ (bootPassed s).fp = s.fp ∧
      (bootPassed s).flash = s.flash ∧ (bootPassed s).su = s.su ∧
      (bootPassed s).isc.staging = s.isc.staging ∧ (bootPassed s).isc.scan = s.isc.scan ∧
      (bootPassed s).store = s.store ∧ (bootPassed s).mc.mask = s.mc.mask ∧
      (bootPassed s).mc.state = s.mc.state ∧ (bootPassed s).mc.request = s.mc.request ∧
      (bootPassed s).mc.dropped = s.mc.dropped ∧ (bootPassed s).rstLow = s.rstLow ∧
      (bootPassed s).clock = s.clock ∧ (bootPassed s).draws = s.draws ∧ (bootPassed s).pending = s.pending := by
  unfold bootPassed
  try dsimp only
  (repeat' split) <;> simp

@[simp] theorem bootFailed_frame (r : ScanReason)  (s : State) :
      (bootFailed r  s).bp = s.bp ∧ (bootFailed r  s).tu = s.tu ∧ (bootFailed r  s).fp = s.fp ∧
      (bootFailed r  s).flash = s.flash ∧ (bootFailed r  s).su = s.su ∧
      (bootFailed r  s).isc.boot = s.isc.boot ∧ (bootFailed r  s).isc.staging = s.isc.staging ∧
      (bootFailed r  s).isc.scan = s.isc.scan ∧ (bootFailed r  s).lanes = s.lanes ∧
      (bootFailed r  s).store = s.store ∧ (bootFailed r  s).writes = s.writes ∧
      (bootFailed r  s).cred = s.cred ∧ (bootFailed r  s).mc = s.mc ∧ (bootFailed r  s).socRun = s.socRun ∧
      (bootFailed r  s).rstLow = s.rstLow ∧ (bootFailed r  s).clock = s.clock ∧
      (bootFailed r  s).draws = s.draws ∧ (bootFailed r  s).pending = s.pending := by
  unfold bootFailed
  simp

@[simp] theorem stagedEnded_frame (r : ScanResult)  (s : State) :
      (stagedEnded r  s).bp = s.bp ∧ (stagedEnded r  s).tu = s.tu ∧ (stagedEnded r  s).fp = s.fp ∧
      (stagedEnded r  s).flash = s.flash ∧ (stagedEnded r  s).de = s.de ∧ (stagedEnded r  s).su = s.su ∧
      (stagedEnded r  s).isc.boot = s.isc.boot ∧ (stagedEnded r  s).isc.stage = s.isc.stage ∧
      (stagedEnded r  s).isc.scan = s.isc.scan ∧ (stagedEnded r  s).lanes = s.lanes ∧
      (stagedEnded r  s).store = s.store ∧ (stagedEnded r  s).writes = s.writes ∧
      (stagedEnded r  s).cred = s.cred ∧ (stagedEnded r  s).mc.response = s.mc.response ∧
      (stagedEnded r  s).mc.scrubTimer = s.mc.scrubTimer ∧ (stagedEnded r  s).mc.mask = s.mc.mask ∧
      (stagedEnded r  s).mc.state = s.mc.state ∧ (stagedEnded r  s).mc.request = s.mc.request ∧
      (stagedEnded r  s).mc.dropped = s.mc.dropped ∧ (stagedEnded r  s).socRun = s.socRun ∧
      (stagedEnded r  s).rstLow = s.rstLow ∧ (stagedEnded r  s).clock = s.clock ∧
      (stagedEnded r  s).draws = s.draws ∧ (stagedEnded r  s).pending = s.pending := by
  unfold stagedEnded
  try dsimp only
  (repeat' split) <;> simp

@[simp] theorem endScan_frame (r : ScanResult)  (s : State) :
      (endScan r  s).bp.wel = s.bp.wel ∧ (endScan r  s).bp.writeRecord = s.bp.writeRecord ∧
      (endScan r  s).bp.readTxn = s.bp.readTxn ∧ (endScan r  s).bp.laneMode = s.bp.laneMode ∧
      (endScan r  s).bp.resetEnable = s.bp.resetEnable ∧ (endScan r  s).tu.violations = s.tu.violations ∧
      (endScan r  s).tu.firstRefusal = s.tu.firstRefusal ∧ (endScan r  s).fp = s.fp ∧
      (endScan r  s).flash = s.flash ∧ (endScan r  s).su = s.su ∧ (endScan r  s).store = s.store ∧
      (endScan r  s).mc.mask = s.mc.mask ∧ (endScan r  s).mc.state = s.mc.state ∧
      (endScan r  s).mc.request = s.mc.request ∧ (endScan r  s).mc.dropped = s.mc.dropped ∧
      (endScan r  s).rstLow = s.rstLow ∧ (endScan r  s).clock = s.clock ∧ (endScan r  s).draws = s.draws ∧
      (endScan r  s).pending = s.pending := by
  unfold endScan
  try dsimp only
  (repeat' split) <;> simp

@[simp] theorem makeStale_frame (s : State) :
      (makeStale s).bp = s.bp ∧ (makeStale s).tu = s.tu ∧ (makeStale s).fp.op = s.fp.op ∧
      (makeStale s).fp.prep = s.fp.prep ∧ (makeStale s).flash = s.flash ∧
      (makeStale s).isc.boot = s.isc.boot ∧ (makeStale s).isc.stage = s.isc.stage ∧
      (makeStale s).lanes = s.lanes ∧ (makeStale s).store = s.store ∧ (makeStale s).writes = s.writes ∧
      (makeStale s).cred = s.cred ∧ (makeStale s).mc.response = s.mc.response ∧
      (makeStale s).mc.scrubTimer = s.mc.scrubTimer ∧ (makeStale s).mc.mask = s.mc.mask ∧
      (makeStale s).mc.state = s.mc.state ∧ (makeStale s).mc.request = s.mc.request ∧
      (makeStale s).mc.dropped = s.mc.dropped ∧ (makeStale s).socRun = s.socRun ∧
      (makeStale s).rstLow = s.rstLow ∧ (makeStale s).clock = s.clock ∧ (makeStale s).draws = s.draws ∧
      (makeStale s).pending = s.pending := by
  unfold makeStale
  try dsimp only
  (repeat' split) <;> simp

@[simp] theorem manifestDelivered_frame (b : Bytes)  (s : State) :
      (manifestDelivered b  s).bp.wel = s.bp.wel ∧
      (manifestDelivered b  s).bp.writeRecord = s.bp.writeRecord ∧
      (manifestDelivered b  s).bp.readTxn = s.bp.readTxn ∧
      (manifestDelivered b  s).bp.laneMode = s.bp.laneMode ∧
      (manifestDelivered b  s).bp.resetEnable = s.bp.resetEnable ∧
      (manifestDelivered b  s).tu.violations = s.tu.violations ∧
      (manifestDelivered b  s).tu.firstRefusal = s.tu.firstRefusal ∧ (manifestDelivered b  s).fp = s.fp ∧
      (manifestDelivered b  s).flash = s.flash ∧ (manifestDelivered b  s).su = s.su ∧
      (manifestDelivered b  s).store = s.store ∧ (manifestDelivered b  s).mc.mask = s.mc.mask ∧
      (manifestDelivered b  s).mc.state = s.mc.state ∧ (manifestDelivered b  s).mc.request = s.mc.request ∧
      (manifestDelivered b  s).mc.dropped = s.mc.dropped ∧ (manifestDelivered b  s).rstLow = s.rstLow ∧
      (manifestDelivered b  s).clock = s.clock ∧ (manifestDelivered b  s).draws = s.draws ∧
      (manifestDelivered b  s).pending = s.pending := by
  unfold manifestDelivered
  try dsimp only
  (repeat' split) <;> simp

@[simp] theorem manifestDigested_frame (b : Bytes)  (s : State) :
      (manifestDigested b  s).bp = s.bp ∧ (manifestDigested b  s).tu = s.tu ∧
      (manifestDigested b  s).fp = s.fp ∧ (manifestDigested b  s).flash = s.flash ∧
      (manifestDigested b  s).de = s.de ∧ (manifestDigested b  s).isc.boot = s.isc.boot ∧
      (manifestDigested b  s).isc.staging = s.isc.staging ∧ (manifestDigested b  s).isc.stage = s.isc.stage ∧
      (manifestDigested b  s).lanes = s.lanes ∧ (manifestDigested b  s).store = s.store ∧
      (manifestDigested b  s).writes = s.writes ∧ (manifestDigested b  s).cred = s.cred ∧
      (manifestDigested b  s).mc = s.mc ∧ (manifestDigested b  s).socRun = s.socRun ∧
      (manifestDigested b  s).rstLow = s.rstLow ∧ (manifestDigested b  s).clock = s.clock ∧
      (manifestDigested b  s).draws = s.draws ∧ (manifestDigested b  s).pending = s.pending := by
  unfold manifestDigested
  simp

@[simp] theorem verifyCompleted_frame (v : Bool)  (s : State) :
      (verifyCompleted v  s).bp.wel = s.bp.wel ∧ (verifyCompleted v  s).bp.writeRecord = s.bp.writeRecord ∧
      (verifyCompleted v  s).bp.readTxn = s.bp.readTxn ∧ (verifyCompleted v  s).bp.laneMode = s.bp.laneMode ∧
      (verifyCompleted v  s).bp.resetEnable = s.bp.resetEnable ∧
      (verifyCompleted v  s).tu.violations = s.tu.violations ∧
      (verifyCompleted v  s).tu.firstRefusal = s.tu.firstRefusal ∧ (verifyCompleted v  s).fp.op = s.fp.op ∧
      (verifyCompleted v  s).fp.prep = s.fp.prep ∧ (verifyCompleted v  s).flash = s.flash ∧
      (verifyCompleted v  s).su = s.su ∧ (verifyCompleted v  s).store = s.store ∧
      (verifyCompleted v  s).mc.mask = s.mc.mask ∧ (verifyCompleted v  s).mc.state = s.mc.state ∧
      (verifyCompleted v  s).mc.request = s.mc.request ∧ (verifyCompleted v  s).mc.dropped = s.mc.dropped ∧
      (verifyCompleted v  s).rstLow = s.rstLow ∧ (verifyCompleted v  s).clock = s.clock ∧
      (verifyCompleted v  s).draws = s.draws ∧ (verifyCompleted v  s).pending = s.pending := by
  unfold verifyCompleted
  try dsimp only
  (repeat' split) <;> simp

@[simp] theorem segmentDigested_frame (b : Bytes)  (s : State) :
      (segmentDigested b  s).bp.wel = s.bp.wel ∧ (segmentDigested b  s).bp.writeRecord = s.bp.writeRecord ∧
      (segmentDigested b  s).bp.readTxn = s.bp.readTxn ∧ (segmentDigested b  s).bp.laneMode = s.bp.laneMode ∧
      (segmentDigested b  s).bp.resetEnable = s.bp.resetEnable ∧
      (segmentDigested b  s).tu.violations = s.tu.violations ∧
      (segmentDigested b  s).tu.firstRefusal = s.tu.firstRefusal ∧ (segmentDigested b  s).fp.op = s.fp.op ∧
      (segmentDigested b  s).fp.prep = s.fp.prep ∧ (segmentDigested b  s).flash = s.flash ∧
      (segmentDigested b  s).su = s.su ∧ (segmentDigested b  s).store = s.store ∧
      (segmentDigested b  s).mc.mask = s.mc.mask ∧ (segmentDigested b  s).mc.state = s.mc.state ∧
      (segmentDigested b  s).mc.request = s.mc.request ∧ (segmentDigested b  s).mc.dropped = s.mc.dropped ∧
      (segmentDigested b  s).rstLow = s.rstLow ∧ (segmentDigested b  s).clock = s.clock ∧
      (segmentDigested b  s).draws = s.draws ∧ (segmentDigested b  s).pending = s.pending := by
  unfold segmentDigested
  try dsimp only
  (repeat' split) <;> simp

@[simp] theorem startBootScan_frame (x : Slot) (f : Bool)  (s : State) :
      (startBootScan x f  s).bp = s.bp ∧ (startBootScan x f  s).tu = s.tu ∧
      (startBootScan x f  s).fp.op = s.fp.op ∧ (startBootScan x f  s).fp.prep = s.fp.prep ∧
      (startBootScan x f  s).flash = s.flash ∧ (startBootScan x f  s).de = s.de ∧
      (startBootScan x f  s).su = s.su ∧ (startBootScan x f  s).isc.boot = s.isc.boot ∧
      (startBootScan x f  s).isc.staging = s.isc.staging ∧ (startBootScan x f  s).lanes = s.lanes ∧
      (startBootScan x f  s).store = s.store ∧ (startBootScan x f  s).writes = s.writes ∧
      (startBootScan x f  s).cred = s.cred ∧ (startBootScan x f  s).mc = s.mc ∧
      (startBootScan x f  s).socRun = s.socRun ∧ (startBootScan x f  s).rstLow = s.rstLow ∧
      (startBootScan x f  s).clock = s.clock ∧ (startBootScan x f  s).draws = s.draws ∧
      (startBootScan x f  s).pending = s.pending := by
  unfold startBootScan
  simp

@[simp] theorem bootFirstStep_frame (s : State) :
      (bootFirstStep s).bp = s.bp ∧ (bootFirstStep s).tu = s.tu ∧ (bootFirstStep s).fp.op = s.fp.op ∧
      (bootFirstStep s).fp.prep = s.fp.prep ∧ (bootFirstStep s).flash = s.flash ∧
      (bootFirstStep s).de = s.de ∧ (bootFirstStep s).su = s.su ∧ (bootFirstStep s).isc.boot = s.isc.boot ∧
      (bootFirstStep s).isc.staging = s.isc.staging ∧ (bootFirstStep s).lanes = s.lanes ∧
      (bootFirstStep s).store = s.store ∧ (bootFirstStep s).cred = s.cred ∧ (bootFirstStep s).mc = s.mc ∧
      (bootFirstStep s).socRun = s.socRun ∧ (bootFirstStep s).rstLow = s.rstLow ∧
      (bootFirstStep s).clock = s.clock ∧ (bootFirstStep s).draws = s.draws ∧
      (bootFirstStep s).pending = s.pending := by
  unfold bootFirstStep
  try dsimp only
  (repeat' split) <;> simp

@[simp] theorem beginBoot_frame (s : State) :
      (beginBoot s).bp = s.bp ∧ (beginBoot s).tu.violations = s.tu.violations ∧
      (beginBoot s).tu.firstRefusal = s.tu.firstRefusal ∧ (beginBoot s).fp.op = s.fp.op ∧
      (beginBoot s).fp.prep = s.fp.prep ∧ (beginBoot s).flash = s.flash ∧ (beginBoot s).de = s.de ∧
      (beginBoot s).su = s.su ∧ (beginBoot s).isc.staging = s.isc.staging ∧ (beginBoot s).lanes = s.lanes ∧
      (beginBoot s).store = s.store ∧ (beginBoot s).cred = s.cred ∧
      (beginBoot s).mc.response = s.mc.response ∧ (beginBoot s).mc.scrubTimer = s.mc.scrubTimer ∧
      (beginBoot s).mc.mask = s.mc.mask ∧ (beginBoot s).mc.state = s.mc.state ∧
      (beginBoot s).mc.request = s.mc.request ∧ (beginBoot s).mc.dropped = s.mc.dropped ∧
      (beginBoot s).rstLow = s.rstLow ∧ (beginBoot s).clock = s.clock ∧ (beginBoot s).draws = s.draws ∧
      (beginBoot s).pending = s.pending := by
  unfold beginBoot
  try dsimp only
  (repeat' split) <;> simp

@[simp] theorem afterFailureRecord_frame (s : State) :
      (afterFailureRecord s).bp = s.bp ∧ (afterFailureRecord s).tu.violations = s.tu.violations ∧
      (afterFailureRecord s).tu.firstRefusal = s.tu.firstRefusal ∧ (afterFailureRecord s).fp = s.fp ∧
      (afterFailureRecord s).flash = s.flash ∧ (afterFailureRecord s).de = s.de ∧
      (afterFailureRecord s).su = s.su ∧ (afterFailureRecord s).isc.staging = s.isc.staging ∧
      (afterFailureRecord s).isc.scan = s.isc.scan ∧ (afterFailureRecord s).lanes = s.lanes ∧
      (afterFailureRecord s).store = s.store ∧ (afterFailureRecord s).cred = s.cred ∧
      (afterFailureRecord s).mc.response = s.mc.response ∧
      (afterFailureRecord s).mc.scrubTimer = s.mc.scrubTimer ∧ (afterFailureRecord s).mc.mask = s.mc.mask ∧
      (afterFailureRecord s).mc.state = s.mc.state ∧ (afterFailureRecord s).mc.request = s.mc.request ∧
      (afterFailureRecord s).mc.dropped = s.mc.dropped ∧ (afterFailureRecord s).rstLow = s.rstLow ∧
      (afterFailureRecord s).clock = s.clock ∧ (afterFailureRecord s).draws = s.draws ∧
      (afterFailureRecord s).pending = s.pending := by
  unfold afterFailureRecord
  try dsimp only
  (repeat' split) <;> simp

@[simp] theorem afterRevertRecord_frame (s : State) :
      (afterRevertRecord s).bp = s.bp ∧ (afterRevertRecord s).tu = s.tu ∧
      (afterRevertRecord s).fp.op = s.fp.op ∧ (afterRevertRecord s).fp.prep = s.fp.prep ∧
      (afterRevertRecord s).flash = s.flash ∧ (afterRevertRecord s).de = s.de ∧
      (afterRevertRecord s).su = s.su ∧ (afterRevertRecord s).isc.boot = s.isc.boot ∧
      (afterRevertRecord s).isc.staging = s.isc.staging ∧ (afterRevertRecord s).lanes = s.lanes ∧
      (afterRevertRecord s).store = s.store ∧ (afterRevertRecord s).writes = s.writes ∧
      (afterRevertRecord s).cred = s.cred ∧ (afterRevertRecord s).mc = s.mc ∧
      (afterRevertRecord s).socRun = s.socRun ∧ (afterRevertRecord s).rstLow = s.rstLow ∧
      (afterRevertRecord s).clock = s.clock ∧ (afterRevertRecord s).draws = s.draws ∧
      (afterRevertRecord s).pending = s.pending := by
  unfold afterRevertRecord
  simp

@[simp] theorem failureDigested_frame (b : Bytes)  (s : State) :
      (failureDigested b  s).bp.wel = s.bp.wel ∧ (failureDigested b  s).bp.writeRecord = s.bp.writeRecord ∧
      (failureDigested b  s).bp.readTxn = s.bp.readTxn ∧ (failureDigested b  s).bp.laneMode = s.bp.laneMode ∧
      (failureDigested b  s).bp.resetEnable = s.bp.resetEnable ∧
      (failureDigested b  s).tu.violations = s.tu.violations ∧
      (failureDigested b  s).tu.firstRefusal = s.tu.firstRefusal ∧ (failureDigested b  s).fp = s.fp ∧
      (failureDigested b  s).flash = s.flash ∧ (failureDigested b  s).su = s.su ∧
      (failureDigested b  s).isc.staging = s.isc.staging ∧ (failureDigested b  s).isc.scan = s.isc.scan ∧
      (failureDigested b  s).store = s.store ∧ (failureDigested b  s).mc.mask = s.mc.mask ∧
      (failureDigested b  s).mc.state = s.mc.state ∧ (failureDigested b  s).mc.request = s.mc.request ∧
      (failureDigested b  s).mc.dropped = s.mc.dropped ∧ (failureDigested b  s).rstLow = s.rstLow ∧
      (failureDigested b  s).clock = s.clock ∧ (failureDigested b  s).draws = s.draws ∧
      (failureDigested b  s).pending = s.pending := by
  unfold failureDigested
  split
  · simp
  · rename_i h
    obtain ⟨u, hu, rfl⟩ := bootExtend_next h
    obtain ⟨-, rfl⟩ := beginExtend_next hu
    simp

@[simp] theorem revertDigested_frame (b : Bytes)  (s : State) :
      (revertDigested b  s).bp.wel = s.bp.wel ∧ (revertDigested b  s).bp.writeRecord = s.bp.writeRecord ∧
      (revertDigested b  s).bp.readTxn = s.bp.readTxn ∧ (revertDigested b  s).bp.laneMode = s.bp.laneMode ∧
      (revertDigested b  s).bp.resetEnable = s.bp.resetEnable ∧ (revertDigested b  s).tu = s.tu ∧
      (revertDigested b  s).fp.op = s.fp.op ∧ (revertDigested b  s).fp.prep = s.fp.prep ∧
      (revertDigested b  s).flash = s.flash ∧ (revertDigested b  s).su = s.su ∧
      (revertDigested b  s).isc.boot = s.isc.boot ∧ (revertDigested b  s).isc.staging = s.isc.staging ∧
      (revertDigested b  s).store = s.store ∧ (revertDigested b  s).writes = s.writes ∧
      (revertDigested b  s).mc.flags = s.mc.flags ∧ (revertDigested b  s).mc.mask = s.mc.mask ∧
      (revertDigested b  s).mc.state = s.mc.state ∧ (revertDigested b  s).mc.request = s.mc.request ∧
      (revertDigested b  s).mc.dropped = s.mc.dropped ∧ (revertDigested b  s).socRun = s.socRun ∧
      (revertDigested b  s).rstLow = s.rstLow ∧ (revertDigested b  s).clock = s.clock ∧
      (revertDigested b  s).draws = s.draws ∧ (revertDigested b  s).pending = s.pending := by
  unfold revertDigested
  split
  · simp
  · rename_i h
    obtain ⟨u, hu, rfl⟩ := bootExtend_next h
    obtain ⟨-, rfl⟩ := beginExtend_next hu
    simp

@[simp] theorem bootFolded_frame (b : Bytes)  (s : State) :
      (bootFolded b  s).bp.wel = s.bp.wel ∧ (bootFolded b  s).bp.writeRecord = s.bp.writeRecord ∧
      (bootFolded b  s).bp.readTxn = s.bp.readTxn ∧ (bootFolded b  s).bp.laneMode = s.bp.laneMode ∧
      (bootFolded b  s).bp.resetEnable = s.bp.resetEnable ∧
      (bootFolded b  s).tu.violations = s.tu.violations ∧
      (bootFolded b  s).tu.firstRefusal = s.tu.firstRefusal ∧ (bootFolded b  s).fp.op = s.fp.op ∧
      (bootFolded b  s).fp.prep = s.fp.prep ∧ (bootFolded b  s).flash = s.flash ∧
      (bootFolded b  s).su = s.su ∧ (bootFolded b  s).isc.staging = s.isc.staging ∧
      (bootFolded b  s).store = s.store ∧ (bootFolded b  s).mc.mask = s.mc.mask ∧
      (bootFolded b  s).mc.state = s.mc.state ∧ (bootFolded b  s).mc.request = s.mc.request ∧
      (bootFolded b  s).mc.dropped = s.mc.dropped ∧ (bootFolded b  s).rstLow = s.rstLow ∧
      (bootFolded b  s).clock = s.clock ∧ (bootFolded b  s).draws = s.draws ∧
      (bootFolded b  s).pending = s.pending := by
  unfold bootFolded
  try dsimp only
  (repeat' split) <;> simp

@[simp] theorem scanDigest_frame (w : DigestWork) (b : Bytes)  (s : State) :
      (scanDigest w b  s).bp.wel = s.bp.wel ∧ (scanDigest w b  s).bp.writeRecord = s.bp.writeRecord ∧
      (scanDigest w b  s).bp.readTxn = s.bp.readTxn ∧ (scanDigest w b  s).bp.laneMode = s.bp.laneMode ∧
      (scanDigest w b  s).bp.resetEnable = s.bp.resetEnable ∧
      (scanDigest w b  s).tu.violations = s.tu.violations ∧
      (scanDigest w b  s).tu.firstRefusal = s.tu.firstRefusal ∧ (scanDigest w b  s).fp.op = s.fp.op ∧
      (scanDigest w b  s).fp.prep = s.fp.prep ∧ (scanDigest w b  s).flash = s.flash ∧
      (scanDigest w b  s).store = s.store ∧ (scanDigest w b  s).mc.mask = s.mc.mask ∧
      (scanDigest w b  s).mc.state = s.mc.state ∧ (scanDigest w b  s).mc.request = s.mc.request ∧
      (scanDigest w b  s).mc.dropped = s.mc.dropped ∧ (scanDigest w b  s).rstLow = s.rstLow ∧
      (scanDigest w b  s).clock = s.clock ∧ (scanDigest w b  s).draws = s.draws ∧
      (scanDigest w b  s).pending = s.pending := by
  unfold scanDigest
  try dsimp only
  (repeat' split) <;> simp

@[simp] theorem bootWriteEnded_frame (s : State) :
      (bootWriteEnded s).bp.wel = s.bp.wel ∧ (bootWriteEnded s).bp.writeRecord = s.bp.writeRecord ∧
      (bootWriteEnded s).bp.readTxn = s.bp.readTxn ∧ (bootWriteEnded s).bp.laneMode = s.bp.laneMode ∧
      (bootWriteEnded s).bp.resetEnable = s.bp.resetEnable ∧
      (bootWriteEnded s).tu.violations = s.tu.violations ∧
      (bootWriteEnded s).tu.firstRefusal = s.tu.firstRefusal ∧ (bootWriteEnded s).fp.op = s.fp.op ∧
      (bootWriteEnded s).fp.prep = s.fp.prep ∧ (bootWriteEnded s).flash = s.flash ∧
      (bootWriteEnded s).su = s.su ∧ (bootWriteEnded s).isc.staging = s.isc.staging ∧
      (bootWriteEnded s).store = s.store ∧ (bootWriteEnded s).writes = s.writes ∧
      (bootWriteEnded s).mc.mask = s.mc.mask ∧ (bootWriteEnded s).mc.state = s.mc.state ∧
      (bootWriteEnded s).mc.request = s.mc.request ∧ (bootWriteEnded s).mc.dropped = s.mc.dropped ∧
      (bootWriteEnded s).rstLow = s.rstLow ∧ (bootWriteEnded s).clock = s.clock ∧
      (bootWriteEnded s).draws = s.draws ∧ (bootWriteEnded s).pending = s.pending := by
  unfold bootWriteEnded
  try dsimp only
  (repeat' split) <;> simp

@[simp] theorem writeAndWait_frame (r : Request) (w : StoreWrite)  (s : State) :
      (writeAndWait r w  s).bp = s.bp ∧ (writeAndWait r w  s).tu = s.tu ∧ (writeAndWait r w  s).fp = s.fp ∧
      (writeAndWait r w  s).flash = s.flash ∧ (writeAndWait r w  s).de = s.de ∧
      (writeAndWait r w  s).su = s.su ∧ (writeAndWait r w  s).isc = s.isc ∧
      (writeAndWait r w  s).lanes = s.lanes ∧ (writeAndWait r w  s).store = s.store ∧
      (writeAndWait r w  s).cred = s.cred ∧ (writeAndWait r w  s).mc.response = s.mc.response ∧
      (writeAndWait r w  s).mc.scrubTimer = s.mc.scrubTimer ∧ (writeAndWait r w  s).mc.flags = s.mc.flags ∧
      (writeAndWait r w  s).mc.mask = s.mc.mask ∧ (writeAndWait r w  s).mc.request = s.mc.request ∧
      (writeAndWait r w  s).mc.dropped = s.mc.dropped ∧ (writeAndWait r w  s).socRun = s.socRun ∧
      (writeAndWait r w  s).rstLow = s.rstLow ∧ (writeAndWait r w  s).clock = s.clock ∧
      (writeAndWait r w  s).draws = s.draws ∧ (writeAndWait r w  s).pending = s.pending := by
  unfold writeAndWait
  simp

@[simp] theorem digestAndWait_frame (j : Job) (i : DigestItem)  (s : State) :
      (digestAndWait j i  s).bp = s.bp ∧ (digestAndWait j i  s).tu = s.tu ∧
      (digestAndWait j i  s).fp.prep = s.fp.prep ∧ (digestAndWait j i  s).flash = s.flash ∧
      (digestAndWait j i  s).isc.boot = s.isc.boot ∧ (digestAndWait j i  s).isc.stage = s.isc.stage ∧
      (digestAndWait j i  s).lanes = s.lanes ∧ (digestAndWait j i  s).store = s.store ∧
      (digestAndWait j i  s).writes = s.writes ∧ (digestAndWait j i  s).cred = s.cred ∧
      (digestAndWait j i  s).mc.response = s.mc.response ∧
      (digestAndWait j i  s).mc.scrubTimer = s.mc.scrubTimer ∧ (digestAndWait j i  s).mc.flags = s.mc.flags ∧
      (digestAndWait j i  s).mc.mask = s.mc.mask ∧ (digestAndWait j i  s).mc.request = s.mc.request ∧
      (digestAndWait j i  s).mc.dropped = s.mc.dropped ∧ (digestAndWait j i  s).socRun = s.socRun ∧
      (digestAndWait j i  s).rstLow = s.rstLow ∧ (digestAndWait j i  s).clock = s.clock ∧
      (digestAndWait j i  s).draws = s.draws ∧ (digestAndWait j i  s).pending = s.pending := by
  unfold digestAndWait
  simp

@[simp] theorem takeGetInfo_frame (s : State) :
      (takeGetInfo s).bp = s.bp ∧ (takeGetInfo s).tu = s.tu ∧ (takeGetInfo s).fp = s.fp ∧
      (takeGetInfo s).flash = s.flash ∧ (takeGetInfo s).de = s.de ∧ (takeGetInfo s).su = s.su ∧
      (takeGetInfo s).isc = s.isc ∧ (takeGetInfo s).lanes = s.lanes ∧ (takeGetInfo s).store = s.store ∧
      (takeGetInfo s).writes = s.writes ∧ (takeGetInfo s).mc.scrubTimer = s.mc.scrubTimer ∧
      (takeGetInfo s).mc.flags = s.mc.flags ∧ (takeGetInfo s).mc.mask = s.mc.mask ∧
      (takeGetInfo s).mc.dropped = s.mc.dropped ∧ (takeGetInfo s).socRun = s.socRun ∧
      (takeGetInfo s).rstLow = s.rstLow ∧ (takeGetInfo s).clock = s.clock ∧ (takeGetInfo s).draws = s.draws ∧
      (takeGetInfo s).pending = s.pending := by
  unfold takeGetInfo withLength
  try dsimp only
  (repeat' split) <;> simp

@[simp] theorem takeGetStatus_frame (s : State) :
      (takeGetStatus s).bp = s.bp ∧ (takeGetStatus s).tu = s.tu ∧ (takeGetStatus s).fp = s.fp ∧
      (takeGetStatus s).flash = s.flash ∧ (takeGetStatus s).de = s.de ∧ (takeGetStatus s).su = s.su ∧
      (takeGetStatus s).isc = s.isc ∧ (takeGetStatus s).lanes = s.lanes ∧ (takeGetStatus s).store = s.store ∧
      (takeGetStatus s).writes = s.writes ∧ (takeGetStatus s).mc.scrubTimer = s.mc.scrubTimer ∧
      (takeGetStatus s).mc.flags = s.mc.flags ∧ (takeGetStatus s).mc.mask = s.mc.mask ∧
      (takeGetStatus s).socRun = s.socRun ∧ (takeGetStatus s).rstLow = s.rstLow ∧
      (takeGetStatus s).clock = s.clock ∧ (takeGetStatus s).draws = s.draws ∧
      (takeGetStatus s).pending = s.pending := by
  unfold takeGetStatus withLength
  try dsimp only
  (repeat' split) <;> simp

@[simp] theorem takeClearEvents_frame (s : State) :
      (takeClearEvents s).bp = s.bp ∧ (takeClearEvents s).fp = s.fp ∧ (takeClearEvents s).flash = s.flash ∧
      (takeClearEvents s).de = s.de ∧ (takeClearEvents s).su = s.su ∧ (takeClearEvents s).isc = s.isc ∧
      (takeClearEvents s).lanes = s.lanes ∧ (takeClearEvents s).store = s.store ∧
      (takeClearEvents s).writes = s.writes ∧ (takeClearEvents s).mc.scrubTimer = s.mc.scrubTimer ∧
      (takeClearEvents s).mc.mask = s.mc.mask ∧ (takeClearEvents s).mc.dropped = s.mc.dropped ∧
      (takeClearEvents s).socRun = s.socRun ∧ (takeClearEvents s).rstLow = s.rstLow ∧
      (takeClearEvents s).clock = s.clock ∧ (takeClearEvents s).draws = s.draws ∧
      (takeClearEvents s).pending = s.pending := by
  unfold takeClearEvents withLength
  try dsimp only
  (repeat' split) <;> simp

@[simp] theorem takeSetAlertMask_frame (s : State) :
      (takeSetAlertMask s).bp = s.bp ∧ (takeSetAlertMask s).tu = s.tu ∧ (takeSetAlertMask s).fp = s.fp ∧
      (takeSetAlertMask s).flash = s.flash ∧ (takeSetAlertMask s).de = s.de ∧
      (takeSetAlertMask s).su = s.su ∧ (takeSetAlertMask s).isc = s.isc ∧
      (takeSetAlertMask s).lanes = s.lanes ∧ (takeSetAlertMask s).store = s.store ∧
      (takeSetAlertMask s).writes = s.writes ∧ (takeSetAlertMask s).mc.scrubTimer = s.mc.scrubTimer ∧
      (takeSetAlertMask s).mc.flags = s.mc.flags ∧ (takeSetAlertMask s).mc.dropped = s.mc.dropped ∧
      (takeSetAlertMask s).socRun = s.socRun ∧ (takeSetAlertMask s).rstLow = s.rstLow ∧
      (takeSetAlertMask s).clock = s.clock ∧ (takeSetAlertMask s).draws = s.draws ∧
      (takeSetAlertMask s).pending = s.pending := by
  unfold takeSetAlertMask withLength
  try dsimp only
  (repeat' split) <;> simp

@[simp] theorem takeRestart_frame (s : State) :
      (takeRestart s).bp = s.bp ∧ (takeRestart s).tu = s.tu ∧ (takeRestart s).fp = s.fp ∧
      (takeRestart s).flash = s.flash ∧ (takeRestart s).de = s.de ∧ (takeRestart s).su = s.su ∧
      (takeRestart s).isc = s.isc ∧ (takeRestart s).lanes = s.lanes ∧ (takeRestart s).store = s.store ∧
      (takeRestart s).writes = s.writes ∧ (takeRestart s).mc.scrubTimer = s.mc.scrubTimer ∧
      (takeRestart s).mc.flags = s.mc.flags ∧ (takeRestart s).mc.mask = s.mc.mask ∧
      (takeRestart s).mc.dropped = s.mc.dropped ∧ (takeRestart s).socRun = s.socRun ∧
      (takeRestart s).rstLow = s.rstLow ∧ (takeRestart s).clock = s.clock ∧ (takeRestart s).draws = s.draws ∧
      (takeRestart s).pending = s.pending := by
  unfold takeRestart withLength
  try dsimp only
  (repeat' split) <;> simp

@[simp] theorem takeReadMap_frame (s : State) :
      (takeReadMap s).bp = s.bp ∧ (takeReadMap s).tu = s.tu ∧ (takeReadMap s).fp = s.fp ∧
      (takeReadMap s).flash = s.flash ∧ (takeReadMap s).de = s.de ∧ (takeReadMap s).su = s.su ∧
      (takeReadMap s).isc = s.isc ∧ (takeReadMap s).lanes = s.lanes ∧ (takeReadMap s).store = s.store ∧
      (takeReadMap s).writes = s.writes ∧ (takeReadMap s).mc.scrubTimer = s.mc.scrubTimer ∧
      (takeReadMap s).mc.flags = s.mc.flags ∧ (takeReadMap s).mc.mask = s.mc.mask ∧
      (takeReadMap s).mc.dropped = s.mc.dropped ∧ (takeReadMap s).socRun = s.socRun ∧
      (takeReadMap s).rstLow = s.rstLow ∧ (takeReadMap s).clock = s.clock ∧ (takeReadMap s).draws = s.draws ∧
      (takeReadMap s).pending = s.pending := by
  unfold takeReadMap withLength
  try dsimp only
  (repeat' split) <;> simp

@[simp] theorem takeRestrictRegion_frame (s : State) :
      (takeRestrictRegion s).bp = s.bp ∧ (takeRestrictRegion s).tu.selector = s.tu.selector ∧
      (takeRestrictRegion s).tu.violations = s.tu.violations ∧
      (takeRestrictRegion s).tu.firstRefusal = s.tu.firstRefusal ∧ (takeRestrictRegion s).fp = s.fp ∧
      (takeRestrictRegion s).flash = s.flash ∧ (takeRestrictRegion s).de = s.de ∧
      (takeRestrictRegion s).su = s.su ∧ (takeRestrictRegion s).isc = s.isc ∧
      (takeRestrictRegion s).lanes = s.lanes ∧ (takeRestrictRegion s).store = s.store ∧
      (takeRestrictRegion s).writes = s.writes ∧ (takeRestrictRegion s).mc.scrubTimer = s.mc.scrubTimer ∧
      (takeRestrictRegion s).mc.flags = s.mc.flags ∧ (takeRestrictRegion s).mc.mask = s.mc.mask ∧
      (takeRestrictRegion s).mc.dropped = s.mc.dropped ∧ (takeRestrictRegion s).socRun = s.socRun ∧
      (takeRestrictRegion s).rstLow = s.rstLow ∧ (takeRestrictRegion s).clock = s.clock ∧
      (takeRestrictRegion s).draws = s.draws ∧ (takeRestrictRegion s).pending = s.pending := by
  unfold takeRestrictRegion withLength
  try dsimp only
  (repeat' split) <;> simp

@[simp] theorem takeLoadSlotMap_frame (s : State) :
      (takeLoadSlotMap s).bp = s.bp ∧ (takeLoadSlotMap s).tu = s.tu ∧ (takeLoadSlotMap s).fp = s.fp ∧
      (takeLoadSlotMap s).flash = s.flash ∧ (takeLoadSlotMap s).de = s.de ∧ (takeLoadSlotMap s).su = s.su ∧
      (takeLoadSlotMap s).isc = s.isc ∧ (takeLoadSlotMap s).lanes = s.lanes ∧
      (takeLoadSlotMap s).store = s.store ∧ (takeLoadSlotMap s).mc.scrubTimer = s.mc.scrubTimer ∧
      (takeLoadSlotMap s).mc.flags = s.mc.flags ∧ (takeLoadSlotMap s).mc.mask = s.mc.mask ∧
      (takeLoadSlotMap s).mc.dropped = s.mc.dropped ∧ (takeLoadSlotMap s).socRun = s.socRun ∧
      (takeLoadSlotMap s).rstLow = s.rstLow ∧ (takeLoadSlotMap s).clock = s.clock ∧
      (takeLoadSlotMap s).draws = s.draws ∧ (takeLoadSlotMap s).pending = s.pending := by
  unfold takeLoadSlotMap withState withLength
  try dsimp only
  (repeat' split) <;> simp

@[simp] theorem takeGenerateIdentity_frame (s : State) :
      (takeGenerateIdentity s).bp = s.bp ∧ (takeGenerateIdentity s).tu = s.tu ∧
      (takeGenerateIdentity s).fp.prep = s.fp.prep ∧ (takeGenerateIdentity s).flash = s.flash ∧
      (takeGenerateIdentity s).isc.boot = s.isc.boot ∧ (takeGenerateIdentity s).isc.stage = s.isc.stage ∧
      (takeGenerateIdentity s).lanes = s.lanes ∧ (takeGenerateIdentity s).store = s.store ∧
      (takeGenerateIdentity s).writes = s.writes ∧ (takeGenerateIdentity s).mc.scrubTimer = s.mc.scrubTimer ∧
      (takeGenerateIdentity s).mc.flags = s.mc.flags ∧ (takeGenerateIdentity s).mc.mask = s.mc.mask ∧
      (takeGenerateIdentity s).mc.dropped = s.mc.dropped ∧ (takeGenerateIdentity s).socRun = s.socRun ∧
      (takeGenerateIdentity s).rstLow = s.rstLow ∧ (takeGenerateIdentity s).clock = s.clock ∧
      (takeGenerateIdentity s).draws = s.draws ∧ (takeGenerateIdentity s).pending = s.pending := by
  unfold takeGenerateIdentity withState withLength
  try dsimp only
  (repeat' split) <;> simp

@[simp] theorem takeLoadEndorsement_frame (s : State) :
      (takeLoadEndorsement s).bp = s.bp ∧ (takeLoadEndorsement s).tu = s.tu ∧
      (takeLoadEndorsement s).fp = s.fp ∧ (takeLoadEndorsement s).flash = s.flash ∧
      (takeLoadEndorsement s).de = s.de ∧ (takeLoadEndorsement s).su = s.su ∧
      (takeLoadEndorsement s).isc = s.isc ∧ (takeLoadEndorsement s).lanes = s.lanes ∧
      (takeLoadEndorsement s).store = s.store ∧ (takeLoadEndorsement s).mc.scrubTimer = s.mc.scrubTimer ∧
      (takeLoadEndorsement s).mc.flags = s.mc.flags ∧ (takeLoadEndorsement s).mc.mask = s.mc.mask ∧
      (takeLoadEndorsement s).mc.dropped = s.mc.dropped ∧ (takeLoadEndorsement s).socRun = s.socRun ∧
      (takeLoadEndorsement s).rstLow = s.rstLow ∧ (takeLoadEndorsement s).clock = s.clock ∧
      (takeLoadEndorsement s).draws = s.draws ∧ (takeLoadEndorsement s).pending = s.pending := by
  unfold takeLoadEndorsement withState
  try dsimp only
  (repeat' split) <;> simp

@[simp] theorem takeGetIdentity_frame (s : State) :
      (takeGetIdentity s).bp = s.bp ∧ (takeGetIdentity s).tu = s.tu ∧ (takeGetIdentity s).fp = s.fp ∧
      (takeGetIdentity s).flash = s.flash ∧ (takeGetIdentity s).de = s.de ∧ (takeGetIdentity s).su = s.su ∧
      (takeGetIdentity s).isc = s.isc ∧ (takeGetIdentity s).lanes = s.lanes ∧
      (takeGetIdentity s).store = s.store ∧ (takeGetIdentity s).writes = s.writes ∧
      (takeGetIdentity s).mc.scrubTimer = s.mc.scrubTimer ∧ (takeGetIdentity s).mc.flags = s.mc.flags ∧
      (takeGetIdentity s).mc.mask = s.mc.mask ∧ (takeGetIdentity s).mc.dropped = s.mc.dropped ∧
      (takeGetIdentity s).socRun = s.socRun ∧ (takeGetIdentity s).rstLow = s.rstLow ∧
      (takeGetIdentity s).clock = s.clock ∧ (takeGetIdentity s).draws = s.draws ∧
      (takeGetIdentity s).pending = s.pending := by
  unfold takeGetIdentity withLength
  try dsimp only
  (repeat' split) <;> simp

@[simp] theorem takeQuote_frame (s : State) :
      (takeQuote s).bp = s.bp ∧ (takeQuote s).tu = s.tu ∧ (takeQuote s).fp.prep = s.fp.prep ∧
      (takeQuote s).flash = s.flash ∧ (takeQuote s).isc.boot = s.isc.boot ∧
      (takeQuote s).isc.stage = s.isc.stage ∧ (takeQuote s).lanes = s.lanes ∧ (takeQuote s).store = s.store ∧
      (takeQuote s).writes = s.writes ∧ (takeQuote s).mc.scrubTimer = s.mc.scrubTimer ∧
      (takeQuote s).mc.flags = s.mc.flags ∧ (takeQuote s).mc.mask = s.mc.mask ∧
      (takeQuote s).mc.dropped = s.mc.dropped ∧ (takeQuote s).socRun = s.socRun ∧
      (takeQuote s).rstLow = s.rstLow ∧ (takeQuote s).clock = s.clock ∧ (takeQuote s).draws = s.draws ∧
      (takeQuote s).pending = s.pending := by
  unfold takeQuote withState withLength
  try dsimp only
  (repeat' split) <;> simp

@[simp] theorem takeReadLane_frame (s : State) :
      (takeReadLane s).bp = s.bp ∧ (takeReadLane s).tu = s.tu ∧ (takeReadLane s).fp = s.fp ∧
      (takeReadLane s).flash = s.flash ∧ (takeReadLane s).de = s.de ∧ (takeReadLane s).su = s.su ∧
      (takeReadLane s).isc = s.isc ∧ (takeReadLane s).lanes = s.lanes ∧ (takeReadLane s).store = s.store ∧
      (takeReadLane s).writes = s.writes ∧ (takeReadLane s).mc.scrubTimer = s.mc.scrubTimer ∧
      (takeReadLane s).mc.flags = s.mc.flags ∧ (takeReadLane s).mc.mask = s.mc.mask ∧
      (takeReadLane s).mc.dropped = s.mc.dropped ∧ (takeReadLane s).socRun = s.socRun ∧
      (takeReadLane s).rstLow = s.rstLow ∧ (takeReadLane s).clock = s.clock ∧
      (takeReadLane s).draws = s.draws ∧ (takeReadLane s).pending = s.pending := by
  unfold takeReadLane withLength
  try dsimp only
  (repeat' split) <;> simp

@[simp] theorem takeExtendLane_frame (s : State) :
      (takeExtendLane s).bp.wel = s.bp.wel ∧ (takeExtendLane s).bp.writeRecord = s.bp.writeRecord ∧
      (takeExtendLane s).bp.readTxn = s.bp.readTxn ∧ (takeExtendLane s).bp.laneMode = s.bp.laneMode ∧
      (takeExtendLane s).bp.resetEnable = s.bp.resetEnable ∧ (takeExtendLane s).tu = s.tu ∧
      (takeExtendLane s).fp.prep = s.fp.prep ∧ (takeExtendLane s).flash = s.flash ∧
      (takeExtendLane s).isc.boot = s.isc.boot ∧ (takeExtendLane s).isc.stage = s.isc.stage ∧
      (takeExtendLane s).store = s.store ∧ (takeExtendLane s).writes = s.writes ∧
      (takeExtendLane s).mc.flags = s.mc.flags ∧ (takeExtendLane s).mc.mask = s.mc.mask ∧
      (takeExtendLane s).mc.dropped = s.mc.dropped ∧ (takeExtendLane s).socRun = s.socRun ∧
      (takeExtendLane s).rstLow = s.rstLow ∧ (takeExtendLane s).clock = s.clock ∧
      (takeExtendLane s).draws = s.draws ∧ (takeExtendLane s).pending = s.pending := by
  unfold takeExtendLane withLength
  dsimp only
  repeat' split
  all_goals first
    | simp; done
    | (rename_i h; obtain ⟨-, rfl⟩ := beginExtend_next h; simp)

@[simp] theorem takeOpenStaging_frame (s : State) :
      (takeOpenStaging s).bp = s.bp ∧ (takeOpenStaging s).tu = s.tu ∧ (takeOpenStaging s).fp = s.fp ∧
      (takeOpenStaging s).flash = s.flash ∧ (takeOpenStaging s).de = s.de ∧ (takeOpenStaging s).su = s.su ∧
      (takeOpenStaging s).isc.boot = s.isc.boot ∧ (takeOpenStaging s).isc.stage = s.isc.stage ∧
      (takeOpenStaging s).isc.scan = s.isc.scan ∧ (takeOpenStaging s).lanes = s.lanes ∧
      (takeOpenStaging s).store = s.store ∧ (takeOpenStaging s).writes = s.writes ∧
      (takeOpenStaging s).mc.scrubTimer = s.mc.scrubTimer ∧ (takeOpenStaging s).mc.flags = s.mc.flags ∧
      (takeOpenStaging s).mc.mask = s.mc.mask ∧ (takeOpenStaging s).mc.dropped = s.mc.dropped ∧
      (takeOpenStaging s).socRun = s.socRun ∧ (takeOpenStaging s).rstLow = s.rstLow ∧
      (takeOpenStaging s).clock = s.clock ∧ (takeOpenStaging s).draws = s.draws ∧
      (takeOpenStaging s).pending = s.pending := by
  unfold takeOpenStaging withState withLength
  try dsimp only
  (repeat' split) <;> simp

@[simp] theorem takeVerifyStaged_frame (s : State) :
      (takeVerifyStaged s).bp = s.bp ∧ (takeVerifyStaged s).tu = s.tu ∧
      (takeVerifyStaged s).fp.prep = s.fp.prep ∧ (takeVerifyStaged s).flash = s.flash ∧
      (takeVerifyStaged s).isc.boot = s.isc.boot ∧ (takeVerifyStaged s).isc.stage = s.isc.stage ∧
      (takeVerifyStaged s).lanes = s.lanes ∧ (takeVerifyStaged s).store = s.store ∧
      (takeVerifyStaged s).writes = s.writes ∧ (takeVerifyStaged s).mc.scrubTimer = s.mc.scrubTimer ∧
      (takeVerifyStaged s).mc.flags = s.mc.flags ∧ (takeVerifyStaged s).mc.mask = s.mc.mask ∧
      (takeVerifyStaged s).mc.dropped = s.mc.dropped ∧ (takeVerifyStaged s).socRun = s.socRun ∧
      (takeVerifyStaged s).rstLow = s.rstLow ∧ (takeVerifyStaged s).clock = s.clock ∧
      (takeVerifyStaged s).draws = s.draws ∧ (takeVerifyStaged s).pending = s.pending := by
  unfold takeVerifyStaged withState withLength
  try dsimp only
  (repeat' split) <;> simp

@[simp] theorem takeCommitStaged_frame (s : State) :
      (takeCommitStaged s).bp = s.bp ∧ (takeCommitStaged s).tu = s.tu ∧ (takeCommitStaged s).fp = s.fp ∧
      (takeCommitStaged s).flash = s.flash ∧ (takeCommitStaged s).de = s.de ∧
      (takeCommitStaged s).su = s.su ∧ (takeCommitStaged s).isc.boot = s.isc.boot ∧
      (takeCommitStaged s).isc.stage = s.isc.stage ∧ (takeCommitStaged s).isc.scan = s.isc.scan ∧
      (takeCommitStaged s).lanes = s.lanes ∧ (takeCommitStaged s).store = s.store ∧
      (takeCommitStaged s).mc.scrubTimer = s.mc.scrubTimer ∧ (takeCommitStaged s).mc.flags = s.mc.flags ∧
      (takeCommitStaged s).mc.mask = s.mc.mask ∧ (takeCommitStaged s).mc.dropped = s.mc.dropped ∧
      (takeCommitStaged s).socRun = s.socRun ∧ (takeCommitStaged s).rstLow = s.rstLow ∧
      (takeCommitStaged s).clock = s.clock ∧ (takeCommitStaged s).draws = s.draws ∧
      (takeCommitStaged s).pending = s.pending := by
  unfold takeCommitStaged withState withLength
  try dsimp only
  (repeat' split) <;> simp

@[simp] theorem confirmSlot_frame (s : State) :
      (confirmSlot s).bp = s.bp ∧ (confirmSlot s).tu = s.tu ∧ (confirmSlot s).fp = s.fp ∧
      (confirmSlot s).flash = s.flash ∧ (confirmSlot s).de = s.de ∧ (confirmSlot s).su = s.su ∧
      (confirmSlot s).isc = s.isc ∧ (confirmSlot s).lanes = s.lanes ∧ (confirmSlot s).store = s.store ∧
      (confirmSlot s).cred = s.cred ∧ (confirmSlot s).mc.response = s.mc.response ∧
      (confirmSlot s).mc.scrubTimer = s.mc.scrubTimer ∧ (confirmSlot s).mc.flags = s.mc.flags ∧
      (confirmSlot s).mc.mask = s.mc.mask ∧ (confirmSlot s).mc.request = s.mc.request ∧
      (confirmSlot s).mc.dropped = s.mc.dropped ∧ (confirmSlot s).socRun = s.socRun ∧
      (confirmSlot s).rstLow = s.rstLow ∧ (confirmSlot s).clock = s.clock ∧ (confirmSlot s).draws = s.draws ∧
      (confirmSlot s).pending = s.pending := by
  unfold confirmSlot
  simp

@[simp] theorem takeConfirmActive_frame (s : State) :
      (takeConfirmActive s).bp = s.bp ∧ (takeConfirmActive s).tu = s.tu ∧ (takeConfirmActive s).fp = s.fp ∧
      (takeConfirmActive s).flash = s.flash ∧ (takeConfirmActive s).de = s.de ∧
      (takeConfirmActive s).su = s.su ∧ (takeConfirmActive s).isc = s.isc ∧
      (takeConfirmActive s).lanes = s.lanes ∧ (takeConfirmActive s).store = s.store ∧
      (takeConfirmActive s).mc.scrubTimer = s.mc.scrubTimer ∧ (takeConfirmActive s).mc.flags = s.mc.flags ∧
      (takeConfirmActive s).mc.mask = s.mc.mask ∧ (takeConfirmActive s).mc.dropped = s.mc.dropped ∧
      (takeConfirmActive s).socRun = s.socRun ∧ (takeConfirmActive s).rstLow = s.rstLow ∧
      (takeConfirmActive s).clock = s.clock ∧ (takeConfirmActive s).draws = s.draws ∧
      (takeConfirmActive s).pending = s.pending := by
  unfold takeConfirmActive withState withLength
  try dsimp only
  (repeat' split) <;> simp

@[simp] theorem takeAbandonStaging_frame (s : State) :
      (takeAbandonStaging s).bp = s.bp ∧ (takeAbandonStaging s).tu = s.tu ∧
      (takeAbandonStaging s).fp.prep = s.fp.prep ∧ (takeAbandonStaging s).flash = s.flash ∧
      (takeAbandonStaging s).isc.boot = s.isc.boot ∧ (takeAbandonStaging s).isc.stage = s.isc.stage ∧
      (takeAbandonStaging s).lanes = s.lanes ∧ (takeAbandonStaging s).store = s.store ∧
      (takeAbandonStaging s).writes = s.writes ∧ (takeAbandonStaging s).mc.scrubTimer = s.mc.scrubTimer ∧
      (takeAbandonStaging s).mc.mask = s.mc.mask ∧ (takeAbandonStaging s).mc.dropped = s.mc.dropped ∧
      (takeAbandonStaging s).socRun = s.socRun ∧ (takeAbandonStaging s).rstLow = s.rstLow ∧
      (takeAbandonStaging s).clock = s.clock ∧ (takeAbandonStaging s).draws = s.draws ∧
      (takeAbandonStaging s).pending = s.pending := by
  unfold takeAbandonStaging withState withLength
  try dsimp only
  (repeat' split) <;> simp

@[simp] theorem takeGetSlotStatus_frame (s : State) :
      (takeGetSlotStatus s).bp = s.bp ∧ (takeGetSlotStatus s).tu = s.tu ∧ (takeGetSlotStatus s).fp = s.fp ∧
      (takeGetSlotStatus s).flash = s.flash ∧ (takeGetSlotStatus s).de = s.de ∧
      (takeGetSlotStatus s).su = s.su ∧ (takeGetSlotStatus s).isc = s.isc ∧
      (takeGetSlotStatus s).lanes = s.lanes ∧ (takeGetSlotStatus s).store = s.store ∧
      (takeGetSlotStatus s).writes = s.writes ∧ (takeGetSlotStatus s).mc.scrubTimer = s.mc.scrubTimer ∧
      (takeGetSlotStatus s).mc.flags = s.mc.flags ∧ (takeGetSlotStatus s).mc.mask = s.mc.mask ∧
      (takeGetSlotStatus s).mc.dropped = s.mc.dropped ∧ (takeGetSlotStatus s).socRun = s.socRun ∧
      (takeGetSlotStatus s).rstLow = s.rstLow ∧ (takeGetSlotStatus s).clock = s.clock ∧
      (takeGetSlotStatus s).draws = s.draws ∧ (takeGetSlotStatus s).pending = s.pending := by
  unfold takeGetSlotStatus withState withLength
  try dsimp only
  (repeat' split) <;> simp

@[simp] theorem takeLoadUpdateKey_frame (s : State) :
      (takeLoadUpdateKey s).bp = s.bp ∧ (takeLoadUpdateKey s).tu = s.tu ∧ (takeLoadUpdateKey s).fp = s.fp ∧
      (takeLoadUpdateKey s).flash = s.flash ∧ (takeLoadUpdateKey s).de = s.de ∧
      (takeLoadUpdateKey s).su = s.su ∧ (takeLoadUpdateKey s).isc = s.isc ∧
      (takeLoadUpdateKey s).lanes = s.lanes ∧ (takeLoadUpdateKey s).store = s.store ∧
      (takeLoadUpdateKey s).mc.scrubTimer = s.mc.scrubTimer ∧ (takeLoadUpdateKey s).mc.flags = s.mc.flags ∧
      (takeLoadUpdateKey s).mc.mask = s.mc.mask ∧ (takeLoadUpdateKey s).mc.dropped = s.mc.dropped ∧
      (takeLoadUpdateKey s).socRun = s.socRun ∧ (takeLoadUpdateKey s).rstLow = s.rstLow ∧
      (takeLoadUpdateKey s).clock = s.clock ∧ (takeLoadUpdateKey s).draws = s.draws ∧
      (takeLoadUpdateKey s).pending = s.pending := by
  unfold takeLoadUpdateKey withState withLength
  try dsimp only
  (repeat' split) <;> simp

@[simp] theorem takeFinishProvisioning_frame (s : State) :
      (takeFinishProvisioning s).bp = s.bp ∧ (takeFinishProvisioning s).tu = s.tu ∧
      (takeFinishProvisioning s).fp = s.fp ∧ (takeFinishProvisioning s).flash = s.flash ∧
      (takeFinishProvisioning s).de = s.de ∧ (takeFinishProvisioning s).su = s.su ∧
      (takeFinishProvisioning s).isc = s.isc ∧ (takeFinishProvisioning s).lanes = s.lanes ∧
      (takeFinishProvisioning s).store = s.store ∧ (takeFinishProvisioning s).writes = s.writes ∧
      (takeFinishProvisioning s).mc.scrubTimer = s.mc.scrubTimer ∧
      (takeFinishProvisioning s).mc.flags = s.mc.flags ∧ (takeFinishProvisioning s).mc.mask = s.mc.mask ∧
      (takeFinishProvisioning s).mc.dropped = s.mc.dropped ∧ (takeFinishProvisioning s).socRun = s.socRun ∧
      (takeFinishProvisioning s).rstLow = s.rstLow ∧ (takeFinishProvisioning s).clock = s.clock ∧
      (takeFinishProvisioning s).draws = s.draws ∧ (takeFinishProvisioning s).pending = s.pending := by
  unfold takeFinishProvisioning withState withLength
  try dsimp only
  (repeat' split) <;> simp

@[simp] theorem takeTakeOwnership_frame (s : State) :
      (takeTakeOwnership s).bp = s.bp ∧ (takeTakeOwnership s).tu = s.tu ∧
      (takeTakeOwnership s).fp.prep = s.fp.prep ∧ (takeTakeOwnership s).flash = s.flash ∧
      (takeTakeOwnership s).isc.boot = s.isc.boot ∧ (takeTakeOwnership s).isc.stage = s.isc.stage ∧
      (takeTakeOwnership s).lanes = s.lanes ∧ (takeTakeOwnership s).store = s.store ∧
      (takeTakeOwnership s).writes = s.writes ∧ (takeTakeOwnership s).mc.scrubTimer = s.mc.scrubTimer ∧
      (takeTakeOwnership s).mc.flags = s.mc.flags ∧ (takeTakeOwnership s).mc.mask = s.mc.mask ∧
      (takeTakeOwnership s).mc.dropped = s.mc.dropped ∧ (takeTakeOwnership s).socRun = s.socRun ∧
      (takeTakeOwnership s).rstLow = s.rstLow ∧ (takeTakeOwnership s).clock = s.clock ∧
      (takeTakeOwnership s).draws = s.draws ∧ (takeTakeOwnership s).pending = s.pending := by
  unfold takeTakeOwnership withState withLength
  try dsimp only
  (repeat' split) <;> simp

@[simp] theorem ownerGate_frame (r : Request)  (s : State) :
      (ownerGate r  s).bp = s.bp ∧ (ownerGate r  s).tu = s.tu ∧ (ownerGate r  s).fp.prep = s.fp.prep ∧
      (ownerGate r  s).flash = s.flash ∧ (ownerGate r  s).isc.boot = s.isc.boot ∧
      (ownerGate r  s).isc.stage = s.isc.stage ∧ (ownerGate r  s).lanes = s.lanes ∧
      (ownerGate r  s).store = s.store ∧ (ownerGate r  s).writes = s.writes ∧
      (ownerGate r  s).mc.scrubTimer = s.mc.scrubTimer ∧ (ownerGate r  s).mc.flags = s.mc.flags ∧
      (ownerGate r  s).mc.mask = s.mc.mask ∧ (ownerGate r  s).mc.dropped = s.mc.dropped ∧
      (ownerGate r  s).socRun = s.socRun ∧ (ownerGate r  s).rstLow = s.rstLow ∧
      (ownerGate r  s).clock = s.clock ∧ (ownerGate r  s).draws = s.draws ∧
      (ownerGate r  s).pending = s.pending := by
  unfold ownerGate
  try dsimp only
  (repeat' split) <;> simp

@[simp] theorem takeGated_frame (r : Request)  (s : State) :
      (takeGated r  s).bp = s.bp ∧ (takeGated r  s).tu = s.tu ∧ (takeGated r  s).fp.prep = s.fp.prep ∧
      (takeGated r  s).flash = s.flash ∧ (takeGated r  s).isc.boot = s.isc.boot ∧
      (takeGated r  s).isc.stage = s.isc.stage ∧ (takeGated r  s).lanes = s.lanes ∧
      (takeGated r  s).store = s.store ∧ (takeGated r  s).writes = s.writes ∧
      (takeGated r  s).mc.scrubTimer = s.mc.scrubTimer ∧ (takeGated r  s).mc.flags = s.mc.flags ∧
      (takeGated r  s).mc.mask = s.mc.mask ∧ (takeGated r  s).mc.dropped = s.mc.dropped ∧
      (takeGated r  s).socRun = s.socRun ∧ (takeGated r  s).rstLow = s.rstLow ∧
      (takeGated r  s).clock = s.clock ∧ (takeGated r  s).draws = s.draws ∧
      (takeGated r  s).pending = s.pending := by
  unfold takeGated withState
  try dsimp only
  (repeat' split) <;> simp

@[simp] theorem takeChangeOwnerToken_frame (s : State) :
      (takeChangeOwnerToken s).bp = s.bp ∧ (takeChangeOwnerToken s).tu = s.tu ∧
      (takeChangeOwnerToken s).fp.prep = s.fp.prep ∧ (takeChangeOwnerToken s).flash = s.flash ∧
      (takeChangeOwnerToken s).isc.boot = s.isc.boot ∧ (takeChangeOwnerToken s).isc.stage = s.isc.stage ∧
      (takeChangeOwnerToken s).lanes = s.lanes ∧ (takeChangeOwnerToken s).store = s.store ∧
      (takeChangeOwnerToken s).writes = s.writes ∧ (takeChangeOwnerToken s).mc.scrubTimer = s.mc.scrubTimer ∧
      (takeChangeOwnerToken s).mc.flags = s.mc.flags ∧ (takeChangeOwnerToken s).mc.mask = s.mc.mask ∧
      (takeChangeOwnerToken s).mc.dropped = s.mc.dropped ∧ (takeChangeOwnerToken s).socRun = s.socRun ∧
      (takeChangeOwnerToken s).rstLow = s.rstLow ∧ (takeChangeOwnerToken s).clock = s.clock ∧
      (takeChangeOwnerToken s).draws = s.draws ∧ (takeChangeOwnerToken s).pending = s.pending := by
  unfold takeChangeOwnerToken
  simp

@[simp] theorem takeReleaseOwnership_frame (s : State) :
      (takeReleaseOwnership s).bp = s.bp ∧ (takeReleaseOwnership s).tu = s.tu ∧
      (takeReleaseOwnership s).fp.prep = s.fp.prep ∧ (takeReleaseOwnership s).flash = s.flash ∧
      (takeReleaseOwnership s).isc.boot = s.isc.boot ∧ (takeReleaseOwnership s).isc.stage = s.isc.stage ∧
      (takeReleaseOwnership s).lanes = s.lanes ∧ (takeReleaseOwnership s).store = s.store ∧
      (takeReleaseOwnership s).writes = s.writes ∧ (takeReleaseOwnership s).mc.scrubTimer = s.mc.scrubTimer ∧
      (takeReleaseOwnership s).mc.flags = s.mc.flags ∧ (takeReleaseOwnership s).mc.mask = s.mc.mask ∧
      (takeReleaseOwnership s).mc.dropped = s.mc.dropped ∧ (takeReleaseOwnership s).socRun = s.socRun ∧
      (takeReleaseOwnership s).rstLow = s.rstLow ∧ (takeReleaseOwnership s).clock = s.clock ∧
      (takeReleaseOwnership s).draws = s.draws ∧ (takeReleaseOwnership s).pending = s.pending := by
  unfold takeReleaseOwnership
  simp

@[simp] theorem takeAddUpdateKey_frame (s : State) :
      (takeAddUpdateKey s).bp = s.bp ∧ (takeAddUpdateKey s).tu = s.tu ∧
      (takeAddUpdateKey s).fp.prep = s.fp.prep ∧ (takeAddUpdateKey s).flash = s.flash ∧
      (takeAddUpdateKey s).isc.boot = s.isc.boot ∧ (takeAddUpdateKey s).isc.stage = s.isc.stage ∧
      (takeAddUpdateKey s).lanes = s.lanes ∧ (takeAddUpdateKey s).store = s.store ∧
      (takeAddUpdateKey s).writes = s.writes ∧ (takeAddUpdateKey s).mc.scrubTimer = s.mc.scrubTimer ∧
      (takeAddUpdateKey s).mc.flags = s.mc.flags ∧ (takeAddUpdateKey s).mc.mask = s.mc.mask ∧
      (takeAddUpdateKey s).mc.dropped = s.mc.dropped ∧ (takeAddUpdateKey s).socRun = s.socRun ∧
      (takeAddUpdateKey s).rstLow = s.rstLow ∧ (takeAddUpdateKey s).clock = s.clock ∧
      (takeAddUpdateKey s).draws = s.draws ∧ (takeAddUpdateKey s).pending = s.pending := by
  unfold takeAddUpdateKey
  simp

@[simp] theorem takeRevokeUpdateKey_frame (s : State) :
      (takeRevokeUpdateKey s).bp = s.bp ∧ (takeRevokeUpdateKey s).tu = s.tu ∧
      (takeRevokeUpdateKey s).fp.prep = s.fp.prep ∧ (takeRevokeUpdateKey s).flash = s.flash ∧
      (takeRevokeUpdateKey s).isc.boot = s.isc.boot ∧ (takeRevokeUpdateKey s).isc.stage = s.isc.stage ∧
      (takeRevokeUpdateKey s).lanes = s.lanes ∧ (takeRevokeUpdateKey s).store = s.store ∧
      (takeRevokeUpdateKey s).writes = s.writes ∧ (takeRevokeUpdateKey s).mc.scrubTimer = s.mc.scrubTimer ∧
      (takeRevokeUpdateKey s).mc.flags = s.mc.flags ∧ (takeRevokeUpdateKey s).mc.mask = s.mc.mask ∧
      (takeRevokeUpdateKey s).mc.dropped = s.mc.dropped ∧ (takeRevokeUpdateKey s).socRun = s.socRun ∧
      (takeRevokeUpdateKey s).rstLow = s.rstLow ∧ (takeRevokeUpdateKey s).clock = s.clock ∧
      (takeRevokeUpdateKey s).draws = s.draws ∧ (takeRevokeUpdateKey s).pending = s.pending := by
  unfold takeRevokeUpdateKey
  simp

@[simp] theorem takeStoreCredential_frame (s : State) :
      (takeStoreCredential s).bp = s.bp ∧ (takeStoreCredential s).tu = s.tu ∧
      (takeStoreCredential s).fp.prep = s.fp.prep ∧ (takeStoreCredential s).flash = s.flash ∧
      (takeStoreCredential s).isc.boot = s.isc.boot ∧ (takeStoreCredential s).isc.stage = s.isc.stage ∧
      (takeStoreCredential s).lanes = s.lanes ∧ (takeStoreCredential s).store = s.store ∧
      (takeStoreCredential s).writes = s.writes ∧ (takeStoreCredential s).mc.scrubTimer = s.mc.scrubTimer ∧
      (takeStoreCredential s).mc.flags = s.mc.flags ∧ (takeStoreCredential s).mc.mask = s.mc.mask ∧
      (takeStoreCredential s).mc.dropped = s.mc.dropped ∧ (takeStoreCredential s).socRun = s.socRun ∧
      (takeStoreCredential s).rstLow = s.rstLow ∧ (takeStoreCredential s).clock = s.clock ∧
      (takeStoreCredential s).draws = s.draws ∧ (takeStoreCredential s).pending = s.pending := by
  unfold takeStoreCredential
  simp

@[simp] theorem takeEraseCredential_frame (s : State) :
      (takeEraseCredential s).bp = s.bp ∧ (takeEraseCredential s).tu = s.tu ∧
      (takeEraseCredential s).fp.prep = s.fp.prep ∧ (takeEraseCredential s).flash = s.flash ∧
      (takeEraseCredential s).isc.boot = s.isc.boot ∧ (takeEraseCredential s).isc.stage = s.isc.stage ∧
      (takeEraseCredential s).lanes = s.lanes ∧ (takeEraseCredential s).store = s.store ∧
      (takeEraseCredential s).writes = s.writes ∧ (takeEraseCredential s).mc.scrubTimer = s.mc.scrubTimer ∧
      (takeEraseCredential s).mc.flags = s.mc.flags ∧ (takeEraseCredential s).mc.mask = s.mc.mask ∧
      (takeEraseCredential s).mc.dropped = s.mc.dropped ∧ (takeEraseCredential s).socRun = s.socRun ∧
      (takeEraseCredential s).rstLow = s.rstLow ∧ (takeEraseCredential s).clock = s.clock ∧
      (takeEraseCredential s).draws = s.draws ∧ (takeEraseCredential s).pending = s.pending := by
  unfold takeEraseCredential
  simp

@[simp] theorem grantUse_frame (r : Request) (c : Credential)  (s : State) :
      (grantUse r c  s).bp = s.bp ∧ (grantUse r c  s).tu = s.tu ∧ (grantUse r c  s).fp.prep = s.fp.prep ∧
      (grantUse r c  s).flash = s.flash ∧ (grantUse r c  s).isc.boot = s.isc.boot ∧
      (grantUse r c  s).isc.stage = s.isc.stage ∧ (grantUse r c  s).lanes = s.lanes ∧
      (grantUse r c  s).store = s.store ∧ (grantUse r c  s).writes = s.writes ∧
      (grantUse r c  s).mc.flags = s.mc.flags ∧ (grantUse r c  s).mc.mask = s.mc.mask ∧
      (grantUse r c  s).mc.dropped = s.mc.dropped ∧ (grantUse r c  s).socRun = s.socRun ∧
      (grantUse r c  s).rstLow = s.rstLow ∧ (grantUse r c  s).clock = s.clock ∧
      (grantUse r c  s).draws = s.draws ∧ (grantUse r c  s).pending = s.pending := by
  unfold grantUse
  try dsimp only
  (repeat' split) <;> simp

@[simp] theorem checkPolicy_frame (r : Request) (c : Credential)  (s : State) :
      (checkPolicy r c  s).bp = s.bp ∧ (checkPolicy r c  s).tu = s.tu ∧
      (checkPolicy r c  s).fp.prep = s.fp.prep ∧ (checkPolicy r c  s).flash = s.flash ∧
      (checkPolicy r c  s).isc.boot = s.isc.boot ∧ (checkPolicy r c  s).isc.stage = s.isc.stage ∧
      (checkPolicy r c  s).lanes = s.lanes ∧ (checkPolicy r c  s).store = s.store ∧
      (checkPolicy r c  s).writes = s.writes ∧ (checkPolicy r c  s).mc.flags = s.mc.flags ∧
      (checkPolicy r c  s).mc.mask = s.mc.mask ∧ (checkPolicy r c  s).mc.dropped = s.mc.dropped ∧
      (checkPolicy r c  s).socRun = s.socRun ∧ (checkPolicy r c  s).rstLow = s.rstLow ∧
      (checkPolicy r c  s).clock = s.clock ∧ (checkPolicy r c  s).draws = s.draws ∧
      (checkPolicy r c  s).pending = s.pending := by
  unfold checkPolicy
  try dsimp only
  (repeat' split) <;> simp

@[simp] theorem useCredential_frame (r : Request) (c : Credential)  (s : State) :
      (useCredential r c  s).bp = s.bp ∧ (useCredential r c  s).tu = s.tu ∧
      (useCredential r c  s).fp.prep = s.fp.prep ∧ (useCredential r c  s).flash = s.flash ∧
      (useCredential r c  s).isc.boot = s.isc.boot ∧ (useCredential r c  s).isc.stage = s.isc.stage ∧
      (useCredential r c  s).lanes = s.lanes ∧ (useCredential r c  s).store = s.store ∧
      (useCredential r c  s).writes = s.writes ∧ (useCredential r c  s).mc.flags = s.mc.flags ∧
      (useCredential r c  s).mc.mask = s.mc.mask ∧ (useCredential r c  s).mc.dropped = s.mc.dropped ∧
      (useCredential r c  s).socRun = s.socRun ∧ (useCredential r c  s).rstLow = s.rstLow ∧
      (useCredential r c  s).clock = s.clock ∧ (useCredential r c  s).draws = s.draws ∧
      (useCredential r c  s).pending = s.pending := by
  unfold useCredential
  try dsimp only
  (repeat' split) <;> simp

@[simp] theorem takeReleaseCredential_frame (s : State) :
      (takeReleaseCredential s).bp = s.bp ∧ (takeReleaseCredential s).tu = s.tu ∧
      (takeReleaseCredential s).fp.prep = s.fp.prep ∧ (takeReleaseCredential s).flash = s.flash ∧
      (takeReleaseCredential s).isc.boot = s.isc.boot ∧ (takeReleaseCredential s).isc.stage = s.isc.stage ∧
      (takeReleaseCredential s).lanes = s.lanes ∧ (takeReleaseCredential s).store = s.store ∧
      (takeReleaseCredential s).writes = s.writes ∧ (takeReleaseCredential s).mc.flags = s.mc.flags ∧
      (takeReleaseCredential s).mc.mask = s.mc.mask ∧ (takeReleaseCredential s).mc.dropped = s.mc.dropped ∧
      (takeReleaseCredential s).socRun = s.socRun ∧ (takeReleaseCredential s).rstLow = s.rstLow ∧
      (takeReleaseCredential s).clock = s.clock ∧ (takeReleaseCredential s).draws = s.draws ∧
      (takeReleaseCredential s).pending = s.pending := by
  unfold takeReleaseCredential withState withLength
  try dsimp only
  (repeat' split) <;> simp

@[simp] theorem takeDerive_frame (s : State) :
      (takeDerive s).bp = s.bp ∧ (takeDerive s).tu = s.tu ∧ (takeDerive s).fp.prep = s.fp.prep ∧
      (takeDerive s).flash = s.flash ∧ (takeDerive s).isc.boot = s.isc.boot ∧
      (takeDerive s).isc.stage = s.isc.stage ∧ (takeDerive s).lanes = s.lanes ∧
      (takeDerive s).store = s.store ∧ (takeDerive s).writes = s.writes ∧
      (takeDerive s).mc.flags = s.mc.flags ∧ (takeDerive s).mc.mask = s.mc.mask ∧
      (takeDerive s).mc.dropped = s.mc.dropped ∧ (takeDerive s).socRun = s.socRun ∧
      (takeDerive s).rstLow = s.rstLow ∧ (takeDerive s).clock = s.clock ∧ (takeDerive s).draws = s.draws ∧
      (takeDerive s).pending = s.pending := by
  unfold takeDerive withState
  try dsimp only
  (repeat' split) <;> simp

@[simp] theorem takeListCredentials_frame (s : State) :
      (takeListCredentials s).bp = s.bp ∧ (takeListCredentials s).tu = s.tu ∧
      (takeListCredentials s).fp = s.fp ∧ (takeListCredentials s).flash = s.flash ∧
      (takeListCredentials s).de = s.de ∧ (takeListCredentials s).su = s.su ∧
      (takeListCredentials s).isc = s.isc ∧ (takeListCredentials s).lanes = s.lanes ∧
      (takeListCredentials s).store = s.store ∧ (takeListCredentials s).writes = s.writes ∧
      (takeListCredentials s).mc.scrubTimer = s.mc.scrubTimer ∧
      (takeListCredentials s).mc.flags = s.mc.flags ∧ (takeListCredentials s).mc.mask = s.mc.mask ∧
      (takeListCredentials s).mc.dropped = s.mc.dropped ∧ (takeListCredentials s).socRun = s.socRun ∧
      (takeListCredentials s).rstLow = s.rstLow ∧ (takeListCredentials s).clock = s.clock ∧
      (takeListCredentials s).draws = s.draws ∧ (takeListCredentials s).pending = s.pending := by
  unfold takeListCredentials withLength
  try dsimp only
  (repeat' split) <;> simp

@[simp] theorem passChangeOwnerToken_frame (s : State) :
      (passChangeOwnerToken s).bp = s.bp ∧ (passChangeOwnerToken s).tu = s.tu ∧
      (passChangeOwnerToken s).fp.prep = s.fp.prep ∧ (passChangeOwnerToken s).flash = s.flash ∧
      (passChangeOwnerToken s).isc.boot = s.isc.boot ∧ (passChangeOwnerToken s).isc.stage = s.isc.stage ∧
      (passChangeOwnerToken s).lanes = s.lanes ∧ (passChangeOwnerToken s).store = s.store ∧
      (passChangeOwnerToken s).writes = s.writes ∧ (passChangeOwnerToken s).mc.scrubTimer = s.mc.scrubTimer ∧
      (passChangeOwnerToken s).mc.flags = s.mc.flags ∧ (passChangeOwnerToken s).mc.mask = s.mc.mask ∧
      (passChangeOwnerToken s).mc.dropped = s.mc.dropped ∧ (passChangeOwnerToken s).socRun = s.socRun ∧
      (passChangeOwnerToken s).rstLow = s.rstLow ∧ (passChangeOwnerToken s).clock = s.clock ∧
      (passChangeOwnerToken s).draws = s.draws ∧ (passChangeOwnerToken s).pending = s.pending := by
  unfold passChangeOwnerToken withLength
  try dsimp only
  (repeat' split) <;> simp

@[simp] theorem passReleaseOwnership_frame (s : State) :
      (passReleaseOwnership s).bp = s.bp ∧ (passReleaseOwnership s).tu = s.tu ∧
      (passReleaseOwnership s).fp = s.fp ∧ (passReleaseOwnership s).flash = s.flash ∧
      (passReleaseOwnership s).de = s.de ∧ (passReleaseOwnership s).su = s.su ∧
      (passReleaseOwnership s).isc = s.isc ∧ (passReleaseOwnership s).lanes = s.lanes ∧
      (passReleaseOwnership s).store = s.store ∧ (passReleaseOwnership s).mc.scrubTimer = s.mc.scrubTimer ∧
      (passReleaseOwnership s).mc.flags = s.mc.flags ∧ (passReleaseOwnership s).mc.mask = s.mc.mask ∧
      (passReleaseOwnership s).mc.dropped = s.mc.dropped ∧ (passReleaseOwnership s).socRun = s.socRun ∧
      (passReleaseOwnership s).rstLow = s.rstLow ∧ (passReleaseOwnership s).clock = s.clock ∧
      (passReleaseOwnership s).draws = s.draws ∧ (passReleaseOwnership s).pending = s.pending := by
  unfold passReleaseOwnership withLength
  try dsimp only
  (repeat' split) <;> simp

@[simp] theorem passAddUpdateKey_frame (s : State) :
      (passAddUpdateKey s).bp = s.bp ∧ (passAddUpdateKey s).tu = s.tu ∧ (passAddUpdateKey s).fp = s.fp ∧
      (passAddUpdateKey s).flash = s.flash ∧ (passAddUpdateKey s).de = s.de ∧
      (passAddUpdateKey s).su = s.su ∧ (passAddUpdateKey s).isc = s.isc ∧
      (passAddUpdateKey s).lanes = s.lanes ∧ (passAddUpdateKey s).store = s.store ∧
      (passAddUpdateKey s).mc.scrubTimer = s.mc.scrubTimer ∧ (passAddUpdateKey s).mc.flags = s.mc.flags ∧
      (passAddUpdateKey s).mc.mask = s.mc.mask ∧ (passAddUpdateKey s).mc.dropped = s.mc.dropped ∧
      (passAddUpdateKey s).socRun = s.socRun ∧ (passAddUpdateKey s).rstLow = s.rstLow ∧
      (passAddUpdateKey s).clock = s.clock ∧ (passAddUpdateKey s).draws = s.draws ∧
      (passAddUpdateKey s).pending = s.pending := by
  unfold passAddUpdateKey withLength
  try dsimp only
  (repeat' split) <;> simp

@[simp] theorem passRevokeUpdateKey_frame (s : State) :
      (passRevokeUpdateKey s).bp = s.bp ∧ (passRevokeUpdateKey s).tu = s.tu ∧
      (passRevokeUpdateKey s).fp = s.fp ∧ (passRevokeUpdateKey s).flash = s.flash ∧
      (passRevokeUpdateKey s).de = s.de ∧ (passRevokeUpdateKey s).su = s.su ∧
      (passRevokeUpdateKey s).isc = s.isc ∧ (passRevokeUpdateKey s).lanes = s.lanes ∧
      (passRevokeUpdateKey s).store = s.store ∧ (passRevokeUpdateKey s).mc.scrubTimer = s.mc.scrubTimer ∧
      (passRevokeUpdateKey s).mc.flags = s.mc.flags ∧ (passRevokeUpdateKey s).mc.mask = s.mc.mask ∧
      (passRevokeUpdateKey s).mc.dropped = s.mc.dropped ∧ (passRevokeUpdateKey s).socRun = s.socRun ∧
      (passRevokeUpdateKey s).rstLow = s.rstLow ∧ (passRevokeUpdateKey s).clock = s.clock ∧
      (passRevokeUpdateKey s).draws = s.draws ∧ (passRevokeUpdateKey s).pending = s.pending := by
  unfold passRevokeUpdateKey withLength
  try dsimp only
  (repeat' split) <;> simp

@[simp] theorem passStoreCredential_frame (s : State) :
      (passStoreCredential s).bp = s.bp ∧ (passStoreCredential s).tu = s.tu ∧
      (passStoreCredential s).fp = s.fp ∧ (passStoreCredential s).flash = s.flash ∧
      (passStoreCredential s).de = s.de ∧ (passStoreCredential s).su = s.su ∧
      (passStoreCredential s).isc = s.isc ∧ (passStoreCredential s).lanes = s.lanes ∧
      (passStoreCredential s).store = s.store ∧ (passStoreCredential s).mc.scrubTimer = s.mc.scrubTimer ∧
      (passStoreCredential s).mc.flags = s.mc.flags ∧ (passStoreCredential s).mc.mask = s.mc.mask ∧
      (passStoreCredential s).mc.dropped = s.mc.dropped ∧ (passStoreCredential s).socRun = s.socRun ∧
      (passStoreCredential s).rstLow = s.rstLow ∧ (passStoreCredential s).clock = s.clock ∧
      (passStoreCredential s).draws = s.draws ∧ (passStoreCredential s).pending = s.pending := by
  unfold passStoreCredential
  try dsimp only
  (repeat' split) <;> simp

@[simp] theorem passEraseCredential_frame (s : State) :
      (passEraseCredential s).bp = s.bp ∧ (passEraseCredential s).tu = s.tu ∧
      (passEraseCredential s).fp = s.fp ∧ (passEraseCredential s).flash = s.flash ∧
      (passEraseCredential s).de = s.de ∧ (passEraseCredential s).su = s.su ∧
      (passEraseCredential s).isc = s.isc ∧ (passEraseCredential s).lanes = s.lanes ∧
      (passEraseCredential s).store = s.store ∧ (passEraseCredential s).mc.scrubTimer = s.mc.scrubTimer ∧
      (passEraseCredential s).mc.flags = s.mc.flags ∧ (passEraseCredential s).mc.mask = s.mc.mask ∧
      (passEraseCredential s).mc.dropped = s.mc.dropped ∧ (passEraseCredential s).socRun = s.socRun ∧
      (passEraseCredential s).rstLow = s.rstLow ∧ (passEraseCredential s).clock = s.clock ∧
      (passEraseCredential s).draws = s.draws ∧ (passEraseCredential s).pending = s.pending := by
  unfold passEraseCredential withLength
  try dsimp only
  (repeat' split) <;> simp

@[simp] theorem passCredentialUse_frame (r : Request)  (s : State) :
      (passCredentialUse r  s).bp = s.bp ∧ (passCredentialUse r  s).tu = s.tu ∧
      (passCredentialUse r  s).fp.prep = s.fp.prep ∧ (passCredentialUse r  s).flash = s.flash ∧
      (passCredentialUse r  s).isc.boot = s.isc.boot ∧ (passCredentialUse r  s).isc.stage = s.isc.stage ∧
      (passCredentialUse r  s).lanes = s.lanes ∧ (passCredentialUse r  s).store = s.store ∧
      (passCredentialUse r  s).writes = s.writes ∧ (passCredentialUse r  s).mc.flags = s.mc.flags ∧
      (passCredentialUse r  s).mc.mask = s.mc.mask ∧ (passCredentialUse r  s).mc.dropped = s.mc.dropped ∧
      (passCredentialUse r  s).socRun = s.socRun ∧ (passCredentialUse r  s).rstLow = s.rstLow ∧
      (passCredentialUse r  s).clock = s.clock ∧ (passCredentialUse r  s).draws = s.draws ∧
      (passCredentialUse r  s).pending = s.pending := by
  unfold passCredentialUse
  try dsimp only
  (repeat' split) <;> simp

@[simp] theorem afterGate_frame (r : Request)  (s : State) :
      (afterGate r  s).bp = s.bp ∧ (afterGate r  s).tu = s.tu ∧ (afterGate r  s).fp.prep = s.fp.prep ∧
      (afterGate r  s).flash = s.flash ∧ (afterGate r  s).isc.boot = s.isc.boot ∧
      (afterGate r  s).isc.stage = s.isc.stage ∧ (afterGate r  s).lanes = s.lanes ∧
      (afterGate r  s).store = s.store ∧ (afterGate r  s).mc.flags = s.mc.flags ∧
      (afterGate r  s).mc.mask = s.mc.mask ∧ (afterGate r  s).mc.dropped = s.mc.dropped ∧
      (afterGate r  s).socRun = s.socRun ∧ (afterGate r  s).rstLow = s.rstLow ∧
      (afterGate r  s).clock = s.clock ∧ (afterGate r  s).draws = s.draws ∧
      (afterGate r  s).pending = s.pending := by
  unfold afterGate
  try dsimp only
  (repeat' split) <;> simp

@[simp] theorem proofDigested_frame (r : Request) (b : Bytes)  (s : State) :
      (proofDigested r b  s).bp = s.bp ∧ (proofDigested r b  s).tu = s.tu ∧
      (proofDigested r b  s).fp.prep = s.fp.prep ∧ (proofDigested r b  s).flash = s.flash ∧
      (proofDigested r b  s).isc.boot = s.isc.boot ∧ (proofDigested r b  s).isc.stage = s.isc.stage ∧
      (proofDigested r b  s).lanes = s.lanes ∧ (proofDigested r b  s).store = s.store ∧
      (proofDigested r b  s).mc.flags = s.mc.flags ∧ (proofDigested r b  s).mc.mask = s.mc.mask ∧
      (proofDigested r b  s).mc.dropped = s.mc.dropped ∧ (proofDigested r b  s).socRun = s.socRun ∧
      (proofDigested r b  s).rstLow = s.rstLow ∧ (proofDigested r b  s).clock = s.clock ∧
      (proofDigested r b  s).draws = s.draws ∧ (proofDigested r b  s).pending = s.pending := by
  unfold proofDigested
  try dsimp only
  (repeat' split) <;> simp

@[simp] theorem tokenDigested_frame (r : Request) (b : Bytes)  (s : State) :
      (tokenDigested r b  s).bp = s.bp ∧ (tokenDigested r b  s).tu = s.tu ∧
      (tokenDigested r b  s).fp = s.fp ∧ (tokenDigested r b  s).flash = s.flash ∧
      (tokenDigested r b  s).de = s.de ∧ (tokenDigested r b  s).su = s.su ∧
      (tokenDigested r b  s).isc = s.isc ∧ (tokenDigested r b  s).lanes = s.lanes ∧
      (tokenDigested r b  s).store = s.store ∧ (tokenDigested r b  s).cred = s.cred ∧
      (tokenDigested r b  s).mc.response = s.mc.response ∧
      (tokenDigested r b  s).mc.scrubTimer = s.mc.scrubTimer ∧ (tokenDigested r b  s).mc.flags = s.mc.flags ∧
      (tokenDigested r b  s).mc.mask = s.mc.mask ∧ (tokenDigested r b  s).mc.dropped = s.mc.dropped ∧
      (tokenDigested r b  s).socRun = s.socRun ∧ (tokenDigested r b  s).rstLow = s.rstLow ∧
      (tokenDigested r b  s).clock = s.clock ∧ (tokenDigested r b  s).draws = s.draws ∧
      (tokenDigested r b  s).pending = s.pending := by
  unfold tokenDigested
  try dsimp only
  (repeat' split) <;> simp

@[simp] theorem quoteDigested_frame (q b : Bytes)  (s : State) :
      (quoteDigested q b  s).bp = s.bp ∧ (quoteDigested q b  s).tu = s.tu ∧
      (quoteDigested q b  s).fp = s.fp ∧ (quoteDigested q b  s).flash = s.flash ∧
      (quoteDigested q b  s).de = s.de ∧ (quoteDigested q b  s).isc = s.isc ∧
      (quoteDigested q b  s).lanes = s.lanes ∧ (quoteDigested q b  s).store = s.store ∧
      (quoteDigested q b  s).writes = s.writes ∧ (quoteDigested q b  s).cred = s.cred ∧
      (quoteDigested q b  s).mc.response = s.mc.response ∧
      (quoteDigested q b  s).mc.scrubTimer = s.mc.scrubTimer ∧ (quoteDigested q b  s).mc.flags = s.mc.flags ∧
      (quoteDigested q b  s).mc.mask = s.mc.mask ∧ (quoteDigested q b  s).mc.request = s.mc.request ∧
      (quoteDigested q b  s).mc.dropped = s.mc.dropped ∧ (quoteDigested q b  s).socRun = s.socRun ∧
      (quoteDigested q b  s).rstLow = s.rstLow ∧ (quoteDigested q b  s).clock = s.clock ∧
      (quoteDigested q b  s).draws = s.draws ∧ (quoteDigested q b  s).pending = s.pending := by
  unfold quoteDigested
  simp

@[simp] theorem laneFolded_frame (k : Nat) (b : Bytes)  (s : State) :
      (laneFolded k b  s).bp = s.bp ∧ (laneFolded k b  s).tu = s.tu ∧ (laneFolded k b  s).fp = s.fp ∧
      (laneFolded k b  s).flash = s.flash ∧ (laneFolded k b  s).de = s.de ∧ (laneFolded k b  s).su = s.su ∧
      (laneFolded k b  s).isc = s.isc ∧ (laneFolded k b  s).store = s.store ∧
      (laneFolded k b  s).writes = s.writes ∧ (laneFolded k b  s).mc.scrubTimer = s.mc.scrubTimer ∧
      (laneFolded k b  s).mc.flags = s.mc.flags ∧ (laneFolded k b  s).mc.mask = s.mc.mask ∧
      (laneFolded k b  s).mc.dropped = s.mc.dropped ∧ (laneFolded k b  s).socRun = s.socRun ∧
      (laneFolded k b  s).rstLow = s.rstLow ∧ (laneFolded k b  s).clock = s.clock ∧
      (laneFolded k b  s).draws = s.draws ∧ (laneFolded k b  s).pending = s.pending := by
  unfold laneFolded
  simp

@[simp] theorem laneBindingDigested_frame (r : Request) (b : Bytes)  (s : State) :
      (laneBindingDigested r b  s).bp = s.bp ∧ (laneBindingDigested r b  s).tu = s.tu ∧
      (laneBindingDigested r b  s).fp.prep = s.fp.prep ∧ (laneBindingDigested r b  s).flash = s.flash ∧
      (laneBindingDigested r b  s).isc.boot = s.isc.boot ∧
      (laneBindingDigested r b  s).isc.stage = s.isc.stage ∧ (laneBindingDigested r b  s).lanes = s.lanes ∧
      (laneBindingDigested r b  s).store = s.store ∧ (laneBindingDigested r b  s).writes = s.writes ∧
      (laneBindingDigested r b  s).mc.flags = s.mc.flags ∧ (laneBindingDigested r b  s).mc.mask = s.mc.mask ∧
      (laneBindingDigested r b  s).mc.dropped = s.mc.dropped ∧
      (laneBindingDigested r b  s).socRun = s.socRun ∧ (laneBindingDigested r b  s).rstLow = s.rstLow ∧
      (laneBindingDigested r b  s).clock = s.clock ∧ (laneBindingDigested r b  s).draws = s.draws ∧
      (laneBindingDigested r b  s).pending = s.pending := by
  unfold laneBindingDigested
  try dsimp only
  (repeat' split) <;> simp

@[simp] theorem deriveDigested_frame (b : Bytes)  (s : State) :
      (deriveDigested b  s).bp = s.bp ∧ (deriveDigested b  s).tu = s.tu ∧ (deriveDigested b  s).fp = s.fp ∧
      (deriveDigested b  s).flash = s.flash ∧ (deriveDigested b  s).de = s.de ∧
      (deriveDigested b  s).su = s.su ∧ (deriveDigested b  s).isc = s.isc ∧
      (deriveDigested b  s).lanes = s.lanes ∧ (deriveDigested b  s).store = s.store ∧
      (deriveDigested b  s).writes = s.writes ∧ (deriveDigested b  s).mc.flags = s.mc.flags ∧
      (deriveDigested b  s).mc.mask = s.mc.mask ∧ (deriveDigested b  s).mc.dropped = s.mc.dropped ∧
      (deriveDigested b  s).socRun = s.socRun ∧ (deriveDigested b  s).rstLow = s.rstLow ∧
      (deriveDigested b  s).clock = s.clock ∧ (deriveDigested b  s).draws = s.draws ∧
      (deriveDigested b  s).pending = s.pending := by
  unfold deriveDigested
  try dsimp only
  (repeat' split) <;> simp

@[simp] theorem channelDigest_frame (b : Bytes)  (s : State) :
      (channelDigest b  s).bp = s.bp ∧ (channelDigest b  s).tu = s.tu ∧
      (channelDigest b  s).fp.prep = s.fp.prep ∧ (channelDigest b  s).flash = s.flash ∧
      (channelDigest b  s).isc.boot = s.isc.boot ∧ (channelDigest b  s).isc.stage = s.isc.stage ∧
      (channelDigest b  s).store = s.store ∧ (channelDigest b  s).mc.flags = s.mc.flags ∧
      (channelDigest b  s).mc.mask = s.mc.mask ∧ (channelDigest b  s).mc.dropped = s.mc.dropped ∧
      (channelDigest b  s).socRun = s.socRun ∧ (channelDigest b  s).rstLow = s.rstLow ∧
      (channelDigest b  s).clock = s.clock ∧ (channelDigest b  s).draws = s.draws ∧
      (channelDigest b  s).pending = s.pending := by
  unfold channelDigest
  try dsimp only
  (repeat' split) <;> simp

@[simp] theorem channelWriteEnded_frame (s : State) :
      (channelWriteEnded s).bp = s.bp ∧ (channelWriteEnded s).tu = s.tu ∧
      (channelWriteEnded s).fp.prep = s.fp.prep ∧ (channelWriteEnded s).flash = s.flash ∧
      (channelWriteEnded s).isc.boot = s.isc.boot ∧ (channelWriteEnded s).isc.stage = s.isc.stage ∧
      (channelWriteEnded s).lanes = s.lanes ∧ (channelWriteEnded s).store = s.store ∧
      (channelWriteEnded s).mc.flags = s.mc.flags ∧ (channelWriteEnded s).mc.mask = s.mc.mask ∧
      (channelWriteEnded s).mc.dropped = s.mc.dropped ∧ (channelWriteEnded s).socRun = s.socRun ∧
      (channelWriteEnded s).rstLow = s.rstLow ∧ (channelWriteEnded s).clock = s.clock ∧
      (channelWriteEnded s).draws = s.draws ∧ (channelWriteEnded s).pending = s.pending := by
  unfold channelWriteEnded
  try dsimp only
  (repeat' split) <;> simp

@[simp] theorem takeRequest_frame (r : Request)  (s : State) :
      (takeRequest r  s).bp.wel = s.bp.wel ∧ (takeRequest r  s).bp.writeRecord = s.bp.writeRecord ∧
      (takeRequest r  s).bp.readTxn = s.bp.readTxn ∧ (takeRequest r  s).bp.laneMode = s.bp.laneMode ∧
      (takeRequest r  s).bp.resetEnable = s.bp.resetEnable ∧ (takeRequest r  s).fp.prep = s.fp.prep ∧
      (takeRequest r  s).flash = s.flash ∧ (takeRequest r  s).isc.boot = s.isc.boot ∧
      (takeRequest r  s).isc.stage = s.isc.stage ∧ (takeRequest r  s).store = s.store ∧
      (takeRequest r  s).socRun = s.socRun ∧ (takeRequest r  s).rstLow = s.rstLow ∧
      (takeRequest r  s).clock = s.clock ∧ (takeRequest r  s).draws = s.draws ∧
      (takeRequest r  s).pending = s.pending := by
  unfold takeRequest
  try dsimp only
  (repeat' split) <;> simp

@[simp] theorem dispatchByCode_frame (s : State) :
      (dispatchByCode s).bp.wel = s.bp.wel ∧ (dispatchByCode s).bp.writeRecord = s.bp.writeRecord ∧
      (dispatchByCode s).bp.readTxn = s.bp.readTxn ∧ (dispatchByCode s).bp.laneMode = s.bp.laneMode ∧
      (dispatchByCode s).bp.resetEnable = s.bp.resetEnable ∧ (dispatchByCode s).fp.prep = s.fp.prep ∧
      (dispatchByCode s).flash = s.flash ∧ (dispatchByCode s).isc.boot = s.isc.boot ∧
      (dispatchByCode s).isc.stage = s.isc.stage ∧ (dispatchByCode s).store = s.store ∧
      (dispatchByCode s).socRun = s.socRun ∧ (dispatchByCode s).rstLow = s.rstLow ∧
      (dispatchByCode s).clock = s.clock ∧ (dispatchByCode s).draws = s.draws ∧
      (dispatchByCode s).pending = s.pending := by
  unfold dispatchByCode
  try dsimp only
  (repeat' split) <;> simp

@[simp] theorem acceptPost_frame (b : Bytes)  (s : State) :
      (acceptPost b  s).bp.wel = s.bp.wel ∧ (acceptPost b  s).bp.writeRecord = s.bp.writeRecord ∧
      (acceptPost b  s).bp.readTxn = s.bp.readTxn ∧ (acceptPost b  s).bp.laneMode = s.bp.laneMode ∧
      (acceptPost b  s).bp.resetEnable = s.bp.resetEnable ∧ (acceptPost b  s).tu = s.tu ∧
      (acceptPost b  s).fp = s.fp ∧ (acceptPost b  s).flash = s.flash ∧ (acceptPost b  s).de = s.de ∧
      (acceptPost b  s).su = s.su ∧ (acceptPost b  s).isc = s.isc ∧ (acceptPost b  s).lanes = s.lanes ∧
      (acceptPost b  s).store = s.store ∧ (acceptPost b  s).writes = s.writes ∧
      (acceptPost b  s).cred = s.cred ∧ (acceptPost b  s).mc.flags = s.mc.flags ∧
      (acceptPost b  s).mc.mask = s.mc.mask ∧ (acceptPost b  s).mc.dropped = s.mc.dropped ∧
      (acceptPost b  s).socRun = s.socRun ∧ (acceptPost b  s).rstLow = s.rstLow ∧
      (acceptPost b  s).clock = s.clock ∧ (acceptPost b  s).draws = s.draws ∧
      (acceptPost b  s).pending = s.pending := by
  unfold acceptPost
  simp

@[simp] theorem allowCommand_frame (c : TakenCommand) (t : List Nat) (i : Bool)  (s : State) :
      (allowCommand c t i  s).bp.readTxn = s.bp.readTxn ∧
      (allowCommand c t i  s).bp.fetchTxn = s.bp.fetchTxn ∧
      (allowCommand c t i  s).bp.laneMode = s.bp.laneMode ∧
      (allowCommand c t i  s).bp.resetEnable = s.bp.resetEnable ∧ (allowCommand c t i  s).tu = s.tu ∧
      (allowCommand c t i  s).fp.prep = s.fp.prep ∧ (allowCommand c t i  s).flash = s.flash ∧
      (allowCommand c t i  s).isc.boot = s.isc.boot ∧ (allowCommand c t i  s).isc.stage = s.isc.stage ∧
      (allowCommand c t i  s).lanes = s.lanes ∧ (allowCommand c t i  s).store = s.store ∧
      (allowCommand c t i  s).writes = s.writes ∧ (allowCommand c t i  s).cred = s.cred ∧
      (allowCommand c t i  s).mc.response = s.mc.response ∧
      (allowCommand c t i  s).mc.scrubTimer = s.mc.scrubTimer ∧ (allowCommand c t i  s).mc.mask = s.mc.mask ∧
      (allowCommand c t i  s).mc.state = s.mc.state ∧ (allowCommand c t i  s).mc.request = s.mc.request ∧
      (allowCommand c t i  s).mc.dropped = s.mc.dropped ∧ (allowCommand c t i  s).socRun = s.socRun ∧
      (allowCommand c t i  s).rstLow = s.rstLow ∧ (allowCommand c t i  s).clock = s.clock ∧
      (allowCommand c t i  s).draws = s.draws ∧ (allowCommand c t i  s).pending = s.pending := by
  unfold allowCommand
  try dsimp only
  (repeat' split) <;> simp

@[simp] theorem refuseCommand_frame (c : TakenCommand) (a : LogicalAddress) (r : RefusalReason)  (s : State) :
      (refuseCommand c a r  s).bp.readTxn = s.bp.readTxn ∧
      (refuseCommand c a r  s).bp.fetchTxn = s.bp.fetchTxn ∧
      (refuseCommand c a r  s).bp.laneMode = s.bp.laneMode ∧
      (refuseCommand c a r  s).bp.resetEnable = s.bp.resetEnable ∧ (refuseCommand c a r  s).fp = s.fp ∧
      (refuseCommand c a r  s).flash = s.flash ∧ (refuseCommand c a r  s).de = s.de ∧
      (refuseCommand c a r  s).su = s.su ∧ (refuseCommand c a r  s).isc = s.isc ∧
      (refuseCommand c a r  s).lanes = s.lanes ∧ (refuseCommand c a r  s).store = s.store ∧
      (refuseCommand c a r  s).writes = s.writes ∧ (refuseCommand c a r  s).cred = s.cred ∧
      (refuseCommand c a r  s).mc.response = s.mc.response ∧
      (refuseCommand c a r  s).mc.scrubTimer = s.mc.scrubTimer ∧
      (refuseCommand c a r  s).mc.mask = s.mc.mask ∧ (refuseCommand c a r  s).mc.state = s.mc.state ∧
      (refuseCommand c a r  s).mc.request = s.mc.request ∧
      (refuseCommand c a r  s).mc.dropped = s.mc.dropped ∧ (refuseCommand c a r  s).socRun = s.socRun ∧
      (refuseCommand c a r  s).rstLow = s.rstLow ∧ (refuseCommand c a r  s).clock = s.clock ∧
      (refuseCommand c a r  s).draws = s.draws ∧ (refuseCommand c a r  s).pending = s.pending := by
  unfold refuseCommand
  simp

@[simp] theorem applyVerdict_frame (c : TakenCommand)  (s : State) :
      (applyVerdict c  s).bp.readTxn = s.bp.readTxn ∧ (applyVerdict c  s).bp.fetchTxn = s.bp.fetchTxn ∧
      (applyVerdict c  s).bp.laneMode = s.bp.laneMode ∧
      (applyVerdict c  s).bp.resetEnable = s.bp.resetEnable ∧ (applyVerdict c  s).fp.prep = s.fp.prep ∧
      (applyVerdict c  s).flash = s.flash ∧ (applyVerdict c  s).isc.boot = s.isc.boot ∧
      (applyVerdict c  s).isc.stage = s.isc.stage ∧ (applyVerdict c  s).lanes = s.lanes ∧
      (applyVerdict c  s).store = s.store ∧ (applyVerdict c  s).writes = s.writes ∧
      (applyVerdict c  s).cred = s.cred ∧ (applyVerdict c  s).mc.response = s.mc.response ∧
      (applyVerdict c  s).mc.scrubTimer = s.mc.scrubTimer ∧ (applyVerdict c  s).mc.mask = s.mc.mask ∧
      (applyVerdict c  s).mc.state = s.mc.state ∧ (applyVerdict c  s).mc.request = s.mc.request ∧
      (applyVerdict c  s).mc.dropped = s.mc.dropped ∧ (applyVerdict c  s).socRun = s.socRun ∧
      (applyVerdict c  s).rstLow = s.rstLow ∧ (applyVerdict c  s).clock = s.clock ∧
      (applyVerdict c  s).draws = s.draws ∧ (applyVerdict c  s).pending = s.pending := by
  unfold applyVerdict
  try dsimp only
  (repeat' split) <;> simp

@[simp] theorem writeVerdict_frame (s : State) :
      (writeVerdict s).bp.readTxn = s.bp.readTxn ∧ (writeVerdict s).bp.fetchTxn = s.bp.fetchTxn ∧
      (writeVerdict s).bp.laneMode = s.bp.laneMode ∧ (writeVerdict s).bp.resetEnable = s.bp.resetEnable ∧
      (writeVerdict s).fp.prep = s.fp.prep ∧ (writeVerdict s).flash = s.flash ∧
      (writeVerdict s).isc.boot = s.isc.boot ∧ (writeVerdict s).isc.stage = s.isc.stage ∧
      (writeVerdict s).lanes = s.lanes ∧ (writeVerdict s).store = s.store ∧
      (writeVerdict s).writes = s.writes ∧ (writeVerdict s).cred = s.cred ∧
      (writeVerdict s).mc.response = s.mc.response ∧ (writeVerdict s).mc.scrubTimer = s.mc.scrubTimer ∧
      (writeVerdict s).mc.mask = s.mc.mask ∧ (writeVerdict s).mc.state = s.mc.state ∧
      (writeVerdict s).mc.request = s.mc.request ∧ (writeVerdict s).mc.dropped = s.mc.dropped ∧
      (writeVerdict s).socRun = s.socRun ∧ (writeVerdict s).rstLow = s.rstLow ∧
      (writeVerdict s).clock = s.clock ∧ (writeVerdict s).draws = s.draws ∧
      (writeVerdict s).pending = s.pending := by
  unfold writeVerdict
  try dsimp only
  (repeat' split) <;> simp

@[simp] theorem operationCompletion_frame (s : State) :
      (operationCompletion s).bp.wel = s.bp.wel ∧ (operationCompletion s).bp.readTxn = s.bp.readTxn ∧
      (operationCompletion s).bp.fetchTxn = s.bp.fetchTxn ∧
      (operationCompletion s).bp.laneMode = s.bp.laneMode ∧
      (operationCompletion s).bp.resetEnable = s.bp.resetEnable ∧ (operationCompletion s).tu = s.tu ∧
      (operationCompletion s).fp.prep = s.fp.prep ∧ (operationCompletion s).isc.boot = s.isc.boot ∧
      (operationCompletion s).isc.stage = s.isc.stage ∧ (operationCompletion s).lanes = s.lanes ∧
      (operationCompletion s).store = s.store ∧ (operationCompletion s).writes = s.writes ∧
      (operationCompletion s).cred = s.cred ∧ (operationCompletion s).mc = s.mc ∧
      (operationCompletion s).socRun = s.socRun ∧ (operationCompletion s).rstLow = s.rstLow ∧
      (operationCompletion s).clock = s.clock ∧ (operationCompletion s).draws = s.draws ∧
      (operationCompletion s).pending = s.pending := by
  unfold operationCompletion
  try dsimp only
  (repeat' split) <;> simp

@[simp] theorem timeOut_frame (o : FlightOp)  (s : State) :
      (timeOut o  s).bp.wel = s.bp.wel ∧ (timeOut o  s).bp.readTxn = s.bp.readTxn ∧
      (timeOut o  s).bp.fetchTxn = s.bp.fetchTxn ∧ (timeOut o  s).bp.laneMode = s.bp.laneMode ∧
      (timeOut o  s).bp.resetEnable = s.bp.resetEnable ∧ (timeOut o  s).tu = s.tu ∧
      (timeOut o  s).fp.prep = s.fp.prep ∧ (timeOut o  s).isc.boot = s.isc.boot ∧
      (timeOut o  s).isc.stage = s.isc.stage ∧ (timeOut o  s).lanes = s.lanes ∧
      (timeOut o  s).store = s.store ∧ (timeOut o  s).writes = s.writes ∧ (timeOut o  s).cred = s.cred ∧
      (timeOut o  s).mc = s.mc ∧ (timeOut o  s).socRun = s.socRun ∧ (timeOut o  s).rstLow = s.rstLow ∧
      (timeOut o  s).clock = s.clock ∧ (timeOut o  s).pending = s.pending := by
  unfold timeOut
  simp

@[simp] theorem operationTimeout_frame (s : State) :
      (operationTimeout s).bp.wel = s.bp.wel ∧ (operationTimeout s).bp.readTxn = s.bp.readTxn ∧
      (operationTimeout s).bp.fetchTxn = s.bp.fetchTxn ∧ (operationTimeout s).bp.laneMode = s.bp.laneMode ∧
      (operationTimeout s).bp.resetEnable = s.bp.resetEnable ∧ (operationTimeout s).tu = s.tu ∧
      (operationTimeout s).fp.prep = s.fp.prep ∧ (operationTimeout s).isc.boot = s.isc.boot ∧
      (operationTimeout s).isc.stage = s.isc.stage ∧ (operationTimeout s).lanes = s.lanes ∧
      (operationTimeout s).store = s.store ∧ (operationTimeout s).writes = s.writes ∧
      (operationTimeout s).cred = s.cred ∧ (operationTimeout s).mc = s.mc ∧
      (operationTimeout s).socRun = s.socRun ∧ (operationTimeout s).rstLow = s.rstLow ∧
      (operationTimeout s).clock = s.clock ∧ (operationTimeout s).pending = s.pending := by
  unfold operationTimeout
  try dsimp only
  (repeat' split) <;> simp

@[simp] theorem deliverChunk_frame (b : Bytes)  (s : State) :
      (deliverChunk b  s).bp.wel = s.bp.wel ∧ (deliverChunk b  s).bp.writeRecord = s.bp.writeRecord ∧
      (deliverChunk b  s).bp.readTxn = s.bp.readTxn ∧ (deliverChunk b  s).bp.laneMode = s.bp.laneMode ∧
      (deliverChunk b  s).bp.resetEnable = s.bp.resetEnable ∧
      (deliverChunk b  s).tu.violations = s.tu.violations ∧
      (deliverChunk b  s).tu.firstRefusal = s.tu.firstRefusal ∧ (deliverChunk b  s).fp = s.fp ∧
      (deliverChunk b  s).flash = s.flash ∧ (deliverChunk b  s).su = s.su ∧
      (deliverChunk b  s).store = s.store ∧ (deliverChunk b  s).mc.mask = s.mc.mask ∧
      (deliverChunk b  s).mc.state = s.mc.state ∧ (deliverChunk b  s).mc.request = s.mc.request ∧
      (deliverChunk b  s).mc.dropped = s.mc.dropped ∧ (deliverChunk b  s).rstLow = s.rstLow ∧
      (deliverChunk b  s).clock = s.clock ∧ (deliverChunk b  s).draws = s.draws ∧
      (deliverChunk b  s).pending = s.pending := by
  unfold deliverChunk
  try dsimp only
  (repeat' split) <;> simp

@[simp] theorem chunkDelivery_frame (s : State) :
      (chunkDelivery s).bp.wel = s.bp.wel ∧ (chunkDelivery s).bp.writeRecord = s.bp.writeRecord ∧
      (chunkDelivery s).bp.readTxn = s.bp.readTxn ∧ (chunkDelivery s).bp.laneMode = s.bp.laneMode ∧
      (chunkDelivery s).bp.resetEnable = s.bp.resetEnable ∧
      (chunkDelivery s).tu.violations = s.tu.violations ∧
      (chunkDelivery s).tu.firstRefusal = s.tu.firstRefusal ∧ (chunkDelivery s).fp.prep = s.fp.prep ∧
      (chunkDelivery s).flash = s.flash ∧ (chunkDelivery s).store = s.store ∧
      (chunkDelivery s).mc.mask = s.mc.mask ∧ (chunkDelivery s).mc.state = s.mc.state ∧
      (chunkDelivery s).mc.request = s.mc.request ∧ (chunkDelivery s).mc.dropped = s.mc.dropped ∧
      (chunkDelivery s).rstLow = s.rstLow ∧ (chunkDelivery s).clock = s.clock ∧
      (chunkDelivery s).draws = s.draws ∧ (chunkDelivery s).pending = s.pending := by
  unfold chunkDelivery
  try dsimp only
  (repeat' split) <;> simp

@[simp] theorem reportAbsorbed_frame (i : DigestItem)  (s : State) :
      (reportAbsorbed i  s).bp = s.bp ∧ (reportAbsorbed i  s).tu = s.tu ∧ (reportAbsorbed i  s).fp = s.fp ∧
      (reportAbsorbed i  s).flash = s.flash ∧ (reportAbsorbed i  s).de = s.de ∧
      (reportAbsorbed i  s).su = s.su ∧ (reportAbsorbed i  s).isc.boot = s.isc.boot ∧
      (reportAbsorbed i  s).isc.stage = s.isc.stage ∧ (reportAbsorbed i  s).isc.scan = s.isc.scan ∧
      (reportAbsorbed i  s).lanes = s.lanes ∧ (reportAbsorbed i  s).store = s.store ∧
      (reportAbsorbed i  s).writes = s.writes ∧ (reportAbsorbed i  s).cred = s.cred ∧
      (reportAbsorbed i  s).mc = s.mc ∧ (reportAbsorbed i  s).socRun = s.socRun ∧
      (reportAbsorbed i  s).rstLow = s.rstLow ∧ (reportAbsorbed i  s).clock = s.clock ∧
      (reportAbsorbed i  s).draws = s.draws ∧ (reportAbsorbed i  s).pending = s.pending := by
  unfold reportAbsorbed
  try dsimp only
  (repeat' split) <;> simp

@[simp] theorem scanChunkEnd_frame (i : DigestItem)  (s : State) :
      (scanChunkEnd i  s).bp.wel = s.bp.wel ∧ (scanChunkEnd i  s).bp.writeRecord = s.bp.writeRecord ∧
      (scanChunkEnd i  s).bp.readTxn = s.bp.readTxn ∧ (scanChunkEnd i  s).bp.laneMode = s.bp.laneMode ∧
      (scanChunkEnd i  s).bp.resetEnable = s.bp.resetEnable ∧
      (scanChunkEnd i  s).tu.violations = s.tu.violations ∧
      (scanChunkEnd i  s).tu.firstRefusal = s.tu.firstRefusal ∧ (scanChunkEnd i  s).fp.op = s.fp.op ∧
      (scanChunkEnd i  s).fp.prep = s.fp.prep ∧ (scanChunkEnd i  s).flash = s.flash ∧
      (scanChunkEnd i  s).store = s.store ∧ (scanChunkEnd i  s).mc.mask = s.mc.mask ∧
      (scanChunkEnd i  s).mc.state = s.mc.state ∧ (scanChunkEnd i  s).mc.request = s.mc.request ∧
      (scanChunkEnd i  s).mc.dropped = s.mc.dropped ∧ (scanChunkEnd i  s).rstLow = s.rstLow ∧
      (scanChunkEnd i  s).clock = s.clock ∧ (scanChunkEnd i  s).draws = s.draws ∧
      (scanChunkEnd i  s).pending = s.pending := by
  unfold scanChunkEnd
  try dsimp only
  (repeat' split) <;> simp

@[simp] theorem channelChunkEnd_frame (i : DigestItem)  (s : State) :
      (channelChunkEnd i  s).bp = s.bp ∧ (channelChunkEnd i  s).tu = s.tu ∧
      (channelChunkEnd i  s).fp.prep = s.fp.prep ∧ (channelChunkEnd i  s).flash = s.flash ∧
      (channelChunkEnd i  s).isc.boot = s.isc.boot ∧ (channelChunkEnd i  s).isc.stage = s.isc.stage ∧
      (channelChunkEnd i  s).store = s.store ∧ (channelChunkEnd i  s).mc.flags = s.mc.flags ∧
      (channelChunkEnd i  s).mc.mask = s.mc.mask ∧ (channelChunkEnd i  s).mc.dropped = s.mc.dropped ∧
      (channelChunkEnd i  s).socRun = s.socRun ∧ (channelChunkEnd i  s).rstLow = s.rstLow ∧
      (channelChunkEnd i  s).clock = s.clock ∧ (channelChunkEnd i  s).draws = s.draws ∧
      (channelChunkEnd i  s).pending = s.pending := by
  unfold channelChunkEnd
  try dsimp only
  (repeat' split) <;> simp

@[simp] theorem chunkEnd_frame (s : State) :
      (chunkEnd s).bp.wel = s.bp.wel ∧ (chunkEnd s).bp.writeRecord = s.bp.writeRecord ∧
      (chunkEnd s).bp.readTxn = s.bp.readTxn ∧ (chunkEnd s).bp.laneMode = s.bp.laneMode ∧
      (chunkEnd s).bp.resetEnable = s.bp.resetEnable ∧ (chunkEnd s).tu.violations = s.tu.violations ∧
      (chunkEnd s).tu.firstRefusal = s.tu.firstRefusal ∧ (chunkEnd s).fp.prep = s.fp.prep ∧
      (chunkEnd s).flash = s.flash ∧ (chunkEnd s).store = s.store ∧ (chunkEnd s).mc.mask = s.mc.mask ∧
      (chunkEnd s).mc.dropped = s.mc.dropped ∧ (chunkEnd s).rstLow = s.rstLow ∧
      (chunkEnd s).clock = s.clock ∧ (chunkEnd s).draws = s.draws ∧ (chunkEnd s).pending = s.pending := by
  unfold chunkEnd
  try dsimp only
  (repeat' split) <;> simp

@[simp] theorem identityGenerated_frame (s : State) :
      (identityGenerated s).bp = s.bp ∧ (identityGenerated s).tu = s.tu ∧ (identityGenerated s).fp = s.fp ∧
      (identityGenerated s).flash = s.flash ∧ (identityGenerated s).de = s.de ∧
      (identityGenerated s).isc = s.isc ∧ (identityGenerated s).lanes = s.lanes ∧
      (identityGenerated s).store = s.store ∧ (identityGenerated s).cred = s.cred ∧
      (identityGenerated s).mc.response = s.mc.response ∧
      (identityGenerated s).mc.scrubTimer = s.mc.scrubTimer ∧ (identityGenerated s).mc.flags = s.mc.flags ∧
      (identityGenerated s).mc.mask = s.mc.mask ∧ (identityGenerated s).mc.request = s.mc.request ∧
      (identityGenerated s).mc.dropped = s.mc.dropped ∧ (identityGenerated s).socRun = s.socRun ∧
      (identityGenerated s).rstLow = s.rstLow ∧ (identityGenerated s).clock = s.clock ∧
      (identityGenerated s).pending = s.pending := by
  unfold identityGenerated
  try dsimp only
  (repeat' split) <;> simp

@[simp] theorem scanSignature_frame (o : SigOp)  (s : State) :
      (scanSignature o  s).bp.wel = s.bp.wel ∧ (scanSignature o  s).bp.writeRecord = s.bp.writeRecord ∧
      (scanSignature o  s).bp.readTxn = s.bp.readTxn ∧ (scanSignature o  s).bp.laneMode = s.bp.laneMode ∧
      (scanSignature o  s).bp.resetEnable = s.bp.resetEnable ∧
      (scanSignature o  s).tu.violations = s.tu.violations ∧
      (scanSignature o  s).tu.firstRefusal = s.tu.firstRefusal ∧ (scanSignature o  s).fp.op = s.fp.op ∧
      (scanSignature o  s).fp.prep = s.fp.prep ∧ (scanSignature o  s).flash = s.flash ∧
      (scanSignature o  s).store = s.store ∧ (scanSignature o  s).mc.mask = s.mc.mask ∧
      (scanSignature o  s).mc.state = s.mc.state ∧ (scanSignature o  s).mc.request = s.mc.request ∧
      (scanSignature o  s).mc.dropped = s.mc.dropped ∧ (scanSignature o  s).rstLow = s.rstLow ∧
      (scanSignature o  s).clock = s.clock ∧ (scanSignature o  s).draws = s.draws ∧
      (scanSignature o  s).pending = s.pending := by
  unfold scanSignature
  try dsimp only
  (repeat' split) <;> simp

@[simp] theorem resetWriteEnded_frame (s : State) :
      (resetWriteEnded s).bp = s.bp ∧ (resetWriteEnded s).tu = s.tu ∧ (resetWriteEnded s).fp.op = s.fp.op ∧
      (resetWriteEnded s).flash = s.flash ∧ (resetWriteEnded s).de = s.de ∧ (resetWriteEnded s).su = s.su ∧
      (resetWriteEnded s).isc = s.isc ∧ (resetWriteEnded s).lanes = s.lanes ∧
      (resetWriteEnded s).store = s.store ∧ (resetWriteEnded s).writes = s.writes ∧
      (resetWriteEnded s).cred = s.cred ∧ (resetWriteEnded s).mc.response = s.mc.response ∧
      (resetWriteEnded s).mc.scrubTimer = s.mc.scrubTimer ∧ (resetWriteEnded s).mc.flags = s.mc.flags ∧
      (resetWriteEnded s).mc.mask = s.mc.mask ∧ (resetWriteEnded s).mc.request = s.mc.request ∧
      (resetWriteEnded s).mc.dropped = s.mc.dropped ∧ (resetWriteEnded s).socRun = s.socRun ∧
      (resetWriteEnded s).rstLow = s.rstLow ∧ (resetWriteEnded s).clock = s.clock ∧
      (resetWriteEnded s).draws = s.draws ∧ (resetWriteEnded s).pending = s.pending := by
  unfold resetWriteEnded
  simp

@[simp] theorem writeEnded_frame (w : Requester)  (s : State) :
      (writeEnded w  s).bp.wel = s.bp.wel ∧ (writeEnded w  s).bp.writeRecord = s.bp.writeRecord ∧
      (writeEnded w  s).bp.readTxn = s.bp.readTxn ∧ (writeEnded w  s).bp.laneMode = s.bp.laneMode ∧
      (writeEnded w  s).bp.resetEnable = s.bp.resetEnable ∧
      (writeEnded w  s).tu.violations = s.tu.violations ∧
      (writeEnded w  s).tu.firstRefusal = s.tu.firstRefusal ∧ (writeEnded w  s).flash = s.flash ∧
      (writeEnded w  s).store = s.store ∧ (writeEnded w  s).mc.mask = s.mc.mask ∧
      (writeEnded w  s).mc.dropped = s.mc.dropped ∧ (writeEnded w  s).rstLow = s.rstLow ∧
      (writeEnded w  s).clock = s.clock ∧ (writeEnded w  s).draws = s.draws ∧
      (writeEnded w  s).pending = s.pending := by
  unfold writeEnded
  try dsimp only
  (repeat' split) <;> simp

@[simp] theorem beginWaitingWrite_frame (s : State) :
      (beginWaitingWrite s).bp = s.bp ∧ (beginWaitingWrite s).tu = s.tu ∧ (beginWaitingWrite s).fp = s.fp ∧
      (beginWaitingWrite s).flash = s.flash ∧ (beginWaitingWrite s).de = s.de ∧
      (beginWaitingWrite s).su = s.su ∧ (beginWaitingWrite s).isc = s.isc ∧
      (beginWaitingWrite s).lanes = s.lanes ∧ (beginWaitingWrite s).store = s.store ∧
      (beginWaitingWrite s).cred = s.cred ∧ (beginWaitingWrite s).mc = s.mc ∧
      (beginWaitingWrite s).socRun = s.socRun ∧ (beginWaitingWrite s).rstLow = s.rstLow ∧
      (beginWaitingWrite s).clock = s.clock ∧ (beginWaitingWrite s).draws = s.draws ∧
      (beginWaitingWrite s).pending = s.pending := by
  unfold beginWaitingWrite
  try dsimp only
  simp

@[simp] theorem storeWriteEnd_frame (s : State) :
      (storeWriteEnd s).bp.wel = s.bp.wel ∧ (storeWriteEnd s).bp.writeRecord = s.bp.writeRecord ∧
      (storeWriteEnd s).bp.readTxn = s.bp.readTxn ∧ (storeWriteEnd s).bp.laneMode = s.bp.laneMode ∧
      (storeWriteEnd s).bp.resetEnable = s.bp.resetEnable ∧
      (storeWriteEnd s).tu.violations = s.tu.violations ∧
      (storeWriteEnd s).tu.firstRefusal = s.tu.firstRefusal ∧ (storeWriteEnd s).flash = s.flash ∧
      (storeWriteEnd s).mc.mask = s.mc.mask ∧ (storeWriteEnd s).mc.dropped = s.mc.dropped ∧
      (storeWriteEnd s).rstLow = s.rstLow ∧ (storeWriteEnd s).clock = s.clock ∧
      (storeWriteEnd s).draws = s.draws ∧ (storeWriteEnd s).pending = s.pending := by
  unfold storeWriteEnd
  try dsimp only
  (repeat' split) <;> simp

@[simp] theorem secretResponseExpiry_frame (s : State) :
      (secretResponseExpiry s).bp.wel = s.bp.wel ∧
      (secretResponseExpiry s).bp.writeRecord = s.bp.writeRecord ∧
      (secretResponseExpiry s).bp.readTxn = s.bp.readTxn ∧
      (secretResponseExpiry s).bp.laneMode = s.bp.laneMode ∧
      (secretResponseExpiry s).bp.resetEnable = s.bp.resetEnable ∧ (secretResponseExpiry s).tu = s.tu ∧
      (secretResponseExpiry s).fp = s.fp ∧ (secretResponseExpiry s).flash = s.flash ∧
      (secretResponseExpiry s).de = s.de ∧ (secretResponseExpiry s).su = s.su ∧
      (secretResponseExpiry s).isc = s.isc ∧ (secretResponseExpiry s).lanes = s.lanes ∧
      (secretResponseExpiry s).store = s.store ∧ (secretResponseExpiry s).writes = s.writes ∧
      (secretResponseExpiry s).cred = s.cred ∧ (secretResponseExpiry s).mc.flags = s.mc.flags ∧
      (secretResponseExpiry s).mc.mask = s.mc.mask ∧ (secretResponseExpiry s).mc.state = s.mc.state ∧
      (secretResponseExpiry s).mc.request = s.mc.request ∧
      (secretResponseExpiry s).mc.dropped = s.mc.dropped ∧ (secretResponseExpiry s).socRun = s.socRun ∧
      (secretResponseExpiry s).rstLow = s.rstLow ∧ (secretResponseExpiry s).draws = s.draws ∧
      (secretResponseExpiry s).pending = s.pending := by
  unfold secretResponseExpiry
  try dsimp only
  (repeat' split) <;> simp

@[simp] theorem expireIfDue_frame (s : State) :
      (expireIfDue s).bp.wel = s.bp.wel ∧ (expireIfDue s).bp.writeRecord = s.bp.writeRecord ∧
      (expireIfDue s).bp.readTxn = s.bp.readTxn ∧ (expireIfDue s).bp.laneMode = s.bp.laneMode ∧
      (expireIfDue s).bp.resetEnable = s.bp.resetEnable ∧ (expireIfDue s).tu = s.tu ∧
      (expireIfDue s).fp = s.fp ∧ (expireIfDue s).flash = s.flash ∧ (expireIfDue s).de = s.de ∧
      (expireIfDue s).su = s.su ∧ (expireIfDue s).isc = s.isc ∧ (expireIfDue s).lanes = s.lanes ∧
      (expireIfDue s).store = s.store ∧ (expireIfDue s).writes = s.writes ∧ (expireIfDue s).cred = s.cred ∧
      (expireIfDue s).mc.flags = s.mc.flags ∧ (expireIfDue s).mc.mask = s.mc.mask ∧
      (expireIfDue s).mc.state = s.mc.state ∧ (expireIfDue s).mc.request = s.mc.request ∧
      (expireIfDue s).mc.dropped = s.mc.dropped ∧ (expireIfDue s).socRun = s.socRun ∧
      (expireIfDue s).rstLow = s.rstLow ∧ (expireIfDue s).draws = s.draws ∧
      (expireIfDue s).pending = s.pending := by
  unfold expireIfDue
  try dsimp only
  (repeat' split) <;> simp

@[simp] theorem runOneMillisecond_frame (s : State) :
      (runOneMillisecond s).bp.wel = s.bp.wel ∧ (runOneMillisecond s).bp.readTxn = s.bp.readTxn ∧
      (runOneMillisecond s).bp.fetchTxn = s.bp.fetchTxn ∧ (runOneMillisecond s).bp.laneMode = s.bp.laneMode ∧
      (runOneMillisecond s).bp.resetEnable = s.bp.resetEnable ∧ (runOneMillisecond s).tu = s.tu ∧
      (runOneMillisecond s).fp.prep = s.fp.prep ∧ (runOneMillisecond s).isc.boot = s.isc.boot ∧
      (runOneMillisecond s).isc.stage = s.isc.stage ∧ (runOneMillisecond s).lanes = s.lanes ∧
      (runOneMillisecond s).store = s.store ∧ (runOneMillisecond s).writes = s.writes ∧
      (runOneMillisecond s).cred = s.cred ∧ (runOneMillisecond s).mc = s.mc ∧
      (runOneMillisecond s).socRun = s.socRun ∧ (runOneMillisecond s).rstLow = s.rstLow ∧
      (runOneMillisecond s).clock = s.clock ∧ (runOneMillisecond s).pending = s.pending := by
  unfold runOneMillisecond
  try dsimp only
  (repeat' split) <;> simp

@[simp] theorem tick_frame (s : State) :
      (tick s).bp.wel = s.bp.wel ∧ (tick s).bp.readTxn = s.bp.readTxn ∧
      (tick s).bp.laneMode = s.bp.laneMode ∧ (tick s).bp.resetEnable = s.bp.resetEnable ∧
      (tick s).tu = s.tu ∧ (tick s).fp.prep = s.fp.prep ∧ (tick s).isc.boot = s.isc.boot ∧
      (tick s).isc.stage = s.isc.stage ∧ (tick s).lanes = s.lanes ∧ (tick s).store = s.store ∧
      (tick s).writes = s.writes ∧ (tick s).cred = s.cred ∧ (tick s).mc.flags = s.mc.flags ∧
      (tick s).mc.mask = s.mc.mask ∧ (tick s).mc.state = s.mc.state ∧ (tick s).mc.request = s.mc.request ∧
      (tick s).mc.dropped = s.mc.dropped ∧ (tick s).socRun = s.socRun ∧ (tick s).rstLow = s.rstLow ∧
      (tick s).pending = s.pending := by
  unfold tick
  simp

@[simp] theorem endRunIfDone_frame (i : Nat)  (s : State) :
      (endRunIfDone i  s).bp = s.bp ∧ (endRunIfDone i  s).tu = s.tu ∧ (endRunIfDone i  s).fp.op = s.fp.op ∧
      (endRunIfDone i  s).fp.prep = s.fp.prep ∧ (endRunIfDone i  s).flash = s.flash ∧
      (endRunIfDone i  s).de = s.de ∧ (endRunIfDone i  s).su = s.su ∧ (endRunIfDone i  s).isc = s.isc ∧
      (endRunIfDone i  s).lanes = s.lanes ∧ (endRunIfDone i  s).store = s.store ∧
      (endRunIfDone i  s).writes = s.writes ∧ (endRunIfDone i  s).cred = s.cred ∧
      (endRunIfDone i  s).mc = s.mc ∧ (endRunIfDone i  s).socRun = s.socRun ∧
      (endRunIfDone i  s).rstLow = s.rstLow ∧ (endRunIfDone i  s).clock = s.clock ∧
      (endRunIfDone i  s).draws = s.draws ∧ (endRunIfDone i  s).pending = s.pending := by
  unfold endRunIfDone
  try dsimp only
  (repeat' split) <;> simp

@[simp] theorem driveByte_frame (b : Byte)  (s : State) :
      (driveByte b  s).bp.wel = s.bp.wel ∧ (driveByte b  s).bp.writeRecord = s.bp.writeRecord ∧
      (driveByte b  s).bp.fetchTxn = s.bp.fetchTxn ∧ (driveByte b  s).bp.laneMode = s.bp.laneMode ∧
      (driveByte b  s).bp.resetEnable = s.bp.resetEnable ∧ (driveByte b  s).tu = s.tu ∧
      (driveByte b  s).fp = s.fp ∧ (driveByte b  s).flash = s.flash ∧ (driveByte b  s).de = s.de ∧
      (driveByte b  s).su = s.su ∧ (driveByte b  s).isc = s.isc ∧ (driveByte b  s).lanes = s.lanes ∧
      (driveByte b  s).store = s.store ∧ (driveByte b  s).writes = s.writes ∧
      (driveByte b  s).cred = s.cred ∧ (driveByte b  s).mc = s.mc ∧ (driveByte b  s).socRun = s.socRun ∧
      (driveByte b  s).rstLow = s.rstLow ∧ (driveByte b  s).clock = s.clock ∧
      (driveByte b  s).draws = s.draws ∧ (driveByte b  s).pending = s.pending := by
  unfold driveByte
  simp

@[simp] theorem supplyByte_frame (e : SuspendReply)  (s : State) :
      (supplyByte e  s).bp.wel = s.bp.wel ∧ (supplyByte e  s).bp.fetchTxn = s.bp.fetchTxn ∧
      (supplyByte e  s).bp.laneMode = s.bp.laneMode ∧ (supplyByte e  s).bp.resetEnable = s.bp.resetEnable ∧
      (supplyByte e  s).tu = s.tu ∧ (supplyByte e  s).fp.prep = s.fp.prep ∧ (supplyByte e  s).de = s.de ∧
      (supplyByte e  s).su = s.su ∧ (supplyByte e  s).isc.boot = s.isc.boot ∧
      (supplyByte e  s).isc.stage = s.isc.stage ∧ (supplyByte e  s).isc.scan = s.isc.scan ∧
      (supplyByte e  s).lanes = s.lanes ∧ (supplyByte e  s).store = s.store ∧
      (supplyByte e  s).writes = s.writes ∧ (supplyByte e  s).cred = s.cred ∧ (supplyByte e  s).mc = s.mc ∧
      (supplyByte e  s).socRun = s.socRun ∧ (supplyByte e  s).rstLow = s.rstLow ∧
      (supplyByte e  s).clock = s.clock ∧ (supplyByte e  s).pending = s.pending := by
  unfold supplyByte
  try dsimp only
  (repeat' split) <;> simp

@[simp] theorem supplyBytes_frame (e : SuspendReply) (n : Nat)  (s : State) :
      (supplyBytes e n  s).bp.wel = s.bp.wel ∧ (supplyBytes e n  s).bp.fetchTxn = s.bp.fetchTxn ∧
      (supplyBytes e n  s).bp.laneMode = s.bp.laneMode ∧
      (supplyBytes e n  s).bp.resetEnable = s.bp.resetEnable ∧ (supplyBytes e n  s).tu = s.tu ∧
      (supplyBytes e n  s).fp.prep = s.fp.prep ∧ (supplyBytes e n  s).de = s.de ∧
      (supplyBytes e n  s).su = s.su ∧ (supplyBytes e n  s).isc.boot = s.isc.boot ∧
      (supplyBytes e n  s).isc.stage = s.isc.stage ∧ (supplyBytes e n  s).isc.scan = s.isc.scan ∧
      (supplyBytes e n  s).lanes = s.lanes ∧ (supplyBytes e n  s).store = s.store ∧
      (supplyBytes e n  s).writes = s.writes ∧ (supplyBytes e n  s).cred = s.cred ∧
      (supplyBytes e n  s).mc = s.mc ∧ (supplyBytes e n  s).socRun = s.socRun ∧
      (supplyBytes e n  s).rstLow = s.rstLow ∧ (supplyBytes e n  s).clock = s.clock ∧
      (supplyBytes e n  s).pending = s.pending := by
  induction n generalizing s with
  | zero => simp [supplyBytes]
  | succ n ih => simp [supplyBytes, ih]

@[simp] theorem clockData_frame (e : SuspendReply) (n : Nat)  (s : State) :
      (clockData e n  s).bp.wel = s.bp.wel ∧ (clockData e n  s).bp.fetchTxn = s.bp.fetchTxn ∧
      (clockData e n  s).bp.laneMode = s.bp.laneMode ∧
      (clockData e n  s).bp.resetEnable = s.bp.resetEnable ∧ (clockData e n  s).tu = s.tu ∧
      (clockData e n  s).fp.prep = s.fp.prep ∧ (clockData e n  s).de = s.de ∧
      (clockData e n  s).su = s.su ∧ (clockData e n  s).isc.boot = s.isc.boot ∧
      (clockData e n  s).isc.stage = s.isc.stage ∧ (clockData e n  s).isc.scan = s.isc.scan ∧
      (clockData e n  s).lanes = s.lanes ∧ (clockData e n  s).store = s.store ∧
      (clockData e n  s).writes = s.writes ∧ (clockData e n  s).cred = s.cred ∧
      (clockData e n  s).mc = s.mc ∧ (clockData e n  s).socRun = s.socRun ∧
      (clockData e n  s).rstLow = s.rstLow ∧ (clockData e n  s).clock = s.clock ∧
      (clockData e n  s).pending = s.pending := by
  unfold clockData
  try dsimp only
  (repeat' split) <;> simp

@[simp] theorem startStream_frame (e : SuspendReply)  (s : State) :
      (startStream e  s).bp.wel = s.bp.wel ∧ (startStream e  s).bp.fetchTxn = s.bp.fetchTxn ∧
      (startStream e  s).bp.laneMode = s.bp.laneMode ∧ (startStream e  s).bp.resetEnable = s.bp.resetEnable ∧
      (startStream e  s).tu = s.tu ∧ (startStream e  s).fp.prep = s.fp.prep ∧ (startStream e  s).de = s.de ∧
      (startStream e  s).su = s.su ∧ (startStream e  s).isc.boot = s.isc.boot ∧
      (startStream e  s).isc.stage = s.isc.stage ∧ (startStream e  s).isc.scan = s.isc.scan ∧
      (startStream e  s).lanes = s.lanes ∧ (startStream e  s).store = s.store ∧
      (startStream e  s).writes = s.writes ∧ (startStream e  s).cred = s.cred ∧
      (startStream e  s).mc = s.mc ∧ (startStream e  s).socRun = s.socRun ∧
      (startStream e  s).rstLow = s.rstLow ∧ (startStream e  s).clock = s.clock ∧
      (startStream e  s).draws = s.draws ∧ (startStream e  s).pending = s.pending := by
  unfold startStream
  try dsimp only
  (repeat' split) <;> simp

@[simp] theorem readTransactionEnd_frame (n : Nat) (e : SuspendReply)  (s : State) :
      (readTransactionEnd n e  s).bp.wel = s.bp.wel ∧
      (readTransactionEnd n e  s).bp.fetchTxn = s.bp.fetchTxn ∧
      (readTransactionEnd n e  s).bp.laneMode = s.bp.laneMode ∧ (readTransactionEnd n e  s).tu = s.tu ∧
      (readTransactionEnd n e  s).fp.prep = s.fp.prep ∧ (readTransactionEnd n e  s).isc.boot = s.isc.boot ∧
      (readTransactionEnd n e  s).isc.stage = s.isc.stage ∧ (readTransactionEnd n e  s).lanes = s.lanes ∧
      (readTransactionEnd n e  s).store = s.store ∧ (readTransactionEnd n e  s).writes = s.writes ∧
      (readTransactionEnd n e  s).cred = s.cred ∧ (readTransactionEnd n e  s).mc = s.mc ∧
      (readTransactionEnd n e  s).socRun = s.socRun ∧ (readTransactionEnd n e  s).rstLow = s.rstLow ∧
      (readTransactionEnd n e  s).clock = s.clock ∧ (readTransactionEnd n e  s).pending = s.pending := by
  unfold readTransactionEnd
  try dsimp only
  simp

@[simp] theorem driveBytes_frame (b : Bytes)  (s : State) :
      (driveBytes b  s).bp.wel = s.bp.wel ∧ (driveBytes b  s).bp.writeRecord = s.bp.writeRecord ∧
      (driveBytes b  s).bp.readTxn = s.bp.readTxn ∧ (driveBytes b  s).bp.fetchTxn = s.bp.fetchTxn ∧
      (driveBytes b  s).bp.laneMode = s.bp.laneMode ∧ (driveBytes b  s).bp.resetEnable = s.bp.resetEnable ∧
      (driveBytes b  s).tu = s.tu ∧ (driveBytes b  s).fp = s.fp ∧ (driveBytes b  s).flash = s.flash ∧
      (driveBytes b  s).de = s.de ∧ (driveBytes b  s).su = s.su ∧ (driveBytes b  s).isc = s.isc ∧
      (driveBytes b  s).lanes = s.lanes ∧ (driveBytes b  s).store = s.store ∧
      (driveBytes b  s).writes = s.writes ∧ (driveBytes b  s).cred = s.cred ∧ (driveBytes b  s).mc = s.mc ∧
      (driveBytes b  s).socRun = s.socRun ∧ (driveBytes b  s).rstLow = s.rstLow ∧
      (driveBytes b  s).clock = s.clock ∧ (driveBytes b  s).draws = s.draws ∧
      (driveBytes b  s).pending = s.pending := by
  unfold driveBytes
  simp

@[simp] theorem handOver_frame (c : TakenCommand)  (s : State) :
      (handOver c  s).bp.wel = s.bp.wel ∧ (handOver c  s).bp.readTxn = s.bp.readTxn ∧
      (handOver c  s).bp.fetchTxn = s.bp.fetchTxn ∧ (handOver c  s).bp.laneMode = s.bp.laneMode ∧
      (handOver c  s).bp.resetEnable = s.bp.resetEnable ∧ (handOver c  s).tu = s.tu ∧
      (handOver c  s).fp = s.fp ∧ (handOver c  s).flash = s.flash ∧ (handOver c  s).de = s.de ∧
      (handOver c  s).su = s.su ∧ (handOver c  s).isc = s.isc ∧ (handOver c  s).lanes = s.lanes ∧
      (handOver c  s).store = s.store ∧ (handOver c  s).writes = s.writes ∧ (handOver c  s).cred = s.cred ∧
      (handOver c  s).mc = s.mc ∧ (handOver c  s).socRun = s.socRun ∧ (handOver c  s).rstLow = s.rstLow ∧
      (handOver c  s).clock = s.clock ∧ (handOver c  s).draws = s.draws ∧ (handOver c  s).pending = s.pending := by
  unfold handOver
  try dsimp only
  (repeat' split) <;> simp

@[simp] theorem portReset_frame (s : State) :
      (portReset s).bp.writeRecord = s.bp.writeRecord ∧ (portReset s).bp.readTxn = s.bp.readTxn ∧
      (portReset s).bp.fetchTxn = s.bp.fetchTxn ∧ (portReset s).tu = s.tu ∧ (portReset s).fp = s.fp ∧
      (portReset s).flash = s.flash ∧ (portReset s).de = s.de ∧ (portReset s).su = s.su ∧
      (portReset s).isc = s.isc ∧ (portReset s).lanes = s.lanes ∧ (portReset s).store = s.store ∧
      (portReset s).writes = s.writes ∧ (portReset s).cred = s.cred ∧ (portReset s).mc = s.mc ∧
      (portReset s).socRun = s.socRun ∧ (portReset s).rstLow = s.rstLow ∧ (portReset s).clock = s.clock ∧
      (portReset s).draws = s.draws ∧ (portReset s).pending = s.pending := by
  unfold portReset
  simp

@[simp] theorem clockFetch_frame (n : Nat)  (s : State) :
      (clockFetch n  s).bp.wel = s.bp.wel ∧ (clockFetch n  s).bp.writeRecord = s.bp.writeRecord ∧
      (clockFetch n  s).bp.readTxn = s.bp.readTxn ∧ (clockFetch n  s).bp.laneMode = s.bp.laneMode ∧
      (clockFetch n  s).bp.resetEnable = s.bp.resetEnable ∧ (clockFetch n  s).tu = s.tu ∧
      (clockFetch n  s).fp = s.fp ∧ (clockFetch n  s).flash = s.flash ∧ (clockFetch n  s).de = s.de ∧
      (clockFetch n  s).su = s.su ∧ (clockFetch n  s).isc = s.isc ∧ (clockFetch n  s).lanes = s.lanes ∧
      (clockFetch n  s).store = s.store ∧ (clockFetch n  s).writes = s.writes ∧
      (clockFetch n  s).cred = s.cred ∧ (clockFetch n  s).mc = s.mc ∧ (clockFetch n  s).socRun = s.socRun ∧
      (clockFetch n  s).rstLow = s.rstLow ∧ (clockFetch n  s).clock = s.clock ∧
      (clockFetch n  s).draws = s.draws ∧ (clockFetch n  s).pending = s.pending := by
  unfold clockFetch
  try dsimp only
  (repeat' split) <;> simp

@[simp] theorem hardReset_frame (s : State) :
      (hardReset s).rstLow = s.rstLow ∧ (hardReset s).clock = s.clock ∧ (hardReset s).pending = s.pending := by
  unfold hardReset
  simp

@[simp] theorem restartWork_frame (f : Option Word32)  (s : State) :
      (restartWork f  s).bp = s.bp ∧ (restartWork f  s).tu = s.tu ∧ (restartWork f  s).fp.op = s.fp.op ∧
      (restartWork f  s).flash = s.flash ∧ (restartWork f  s).de = s.de ∧ (restartWork f  s).su = s.su ∧
      (restartWork f  s).isc = s.isc ∧ (restartWork f  s).lanes = s.lanes ∧
      (restartWork f  s).store = s.store ∧ (restartWork f  s).cred = s.cred ∧
      (restartWork f  s).mc.response = s.mc.response ∧ (restartWork f  s).mc.scrubTimer = s.mc.scrubTimer ∧
      (restartWork f  s).mc.flags = s.mc.flags ∧ (restartWork f  s).mc.mask = s.mc.mask ∧
      (restartWork f  s).mc.request = s.mc.request ∧ (restartWork f  s).mc.dropped = s.mc.dropped ∧
      (restartWork f  s).socRun = s.socRun ∧ (restartWork f  s).rstLow = s.rstLow ∧
      (restartWork f  s).clock = s.clock ∧ (restartWork f  s).draws = s.draws ∧
      (restartWork f  s).pending = s.pending := by
  unfold restartWork
  try dsimp only
  (repeat' split) <;> simp

@[simp] theorem restartReset_frame (s : State) :
      (restartReset s).flash = s.flash ∧ (restartReset s).store = s.store ∧
      (restartReset s).rstLow = s.rstLow ∧ (restartReset s).clock = s.clock ∧
      (restartReset s).draws = s.draws ∧ (restartReset s).pending = s.pending := by
  unfold restartReset
  try dsimp only
  (repeat' split) <;> simp

@[simp] theorem flashResetRecoveryEnd_frame (s : State) :
      (flashResetRecoveryEnd s).bp = s.bp ∧ (flashResetRecoveryEnd s).tu = s.tu ∧
      (flashResetRecoveryEnd s).fp.op = s.fp.op ∧ (flashResetRecoveryEnd s).flash = s.flash ∧
      (flashResetRecoveryEnd s).de = s.de ∧ (flashResetRecoveryEnd s).su = s.su ∧
      (flashResetRecoveryEnd s).isc = s.isc ∧ (flashResetRecoveryEnd s).lanes = s.lanes ∧
      (flashResetRecoveryEnd s).store = s.store ∧ (flashResetRecoveryEnd s).writes = s.writes ∧
      (flashResetRecoveryEnd s).cred = s.cred ∧ (flashResetRecoveryEnd s).mc = s.mc ∧
      (flashResetRecoveryEnd s).socRun = s.socRun ∧ (flashResetRecoveryEnd s).rstLow = s.rstLow ∧
      (flashResetRecoveryEnd s).clock = s.clock ∧ (flashResetRecoveryEnd s).draws = s.draws ∧
      (flashResetRecoveryEnd s).pending = s.pending := by
  unfold flashResetRecoveryEnd
  try dsimp only
  (repeat' split) <;> simp

@[simp] theorem downstreamIdCapture_frame (a b : Byte)  (s : State) :
      (downstreamIdCapture a b  s).bp.wel = s.bp.wel ∧
      (downstreamIdCapture a b  s).bp.writeRecord = s.bp.writeRecord ∧
      (downstreamIdCapture a b  s).bp.readTxn = s.bp.readTxn ∧
      (downstreamIdCapture a b  s).bp.fetchTxn = s.bp.fetchTxn ∧
      (downstreamIdCapture a b  s).bp.laneMode = s.bp.laneMode ∧
      (downstreamIdCapture a b  s).bp.resetEnable = s.bp.resetEnable ∧
      (downstreamIdCapture a b  s).tu.violations = s.tu.violations ∧
      (downstreamIdCapture a b  s).tu.firstRefusal = s.tu.firstRefusal ∧
      (downstreamIdCapture a b  s).flash = s.flash ∧ (downstreamIdCapture a b  s).lanes = s.lanes ∧
      (downstreamIdCapture a b  s).store = s.store ∧ (downstreamIdCapture a b  s).cred = s.cred ∧
      (downstreamIdCapture a b  s).mc.response = s.mc.response ∧
      (downstreamIdCapture a b  s).mc.scrubTimer = s.mc.scrubTimer ∧
      (downstreamIdCapture a b  s).mc.mask = s.mc.mask ∧ (downstreamIdCapture a b  s).mc.state = s.mc.state ∧
      (downstreamIdCapture a b  s).mc.request = s.mc.request ∧
      (downstreamIdCapture a b  s).mc.dropped = s.mc.dropped ∧
      (downstreamIdCapture a b  s).rstLow = s.rstLow ∧ (downstreamIdCapture a b  s).clock = s.clock ∧
      (downstreamIdCapture a b  s).draws = s.draws ∧ (downstreamIdCapture a b  s).pending = s.pending := by
  unfold downstreamIdCapture
  try dsimp only
  (repeat' split) <;> simp

end Sys2Proof.Machine
end

