-- ==== Sys2Proof/Laws/Memory.lean ====
section
/-! SUPPORT. The flash contents: every memory operation keeps the canonical form, and a byte read after a ranged
write is the byte written or the byte that stood there before. -/

namespace Sys2Proof.Machine

/-- The canonical form in terms of the list: no entry at the erased value, addresses strictly rising. -/
theorem cellsWf_iff (cells : List Host.Cell) :
    cellsWf cells = true ↔ (∀ c ∈ cells, c.2 ≠ erasedByte) ∧ cells.Pairwise fun c d => c.1 < d.1 := by
  induction cells with
  | nil => simp [cellsWf]
  | cons c rest ih =>
    cases rest with
    | nil => simp [cellsWf]
    | cons d rest =>
      rw [cellsWf, Bool.and_eq_true, Bool.and_eq_true, ih]
      simp only [bne_iff_ne, decide_eq_true_eq, List.pairwise_cons, List.mem_cons]
      constructor
      · rintro ⟨⟨hc, hcd⟩, hne, hd, hp⟩
        refine ⟨?_, ?_, hd, hp⟩
        · rintro x (rfl | hx)
          · exact hc
          · exact hne x hx
        · rintro x (rfl | hx)
          · exact hcd
          · exact hcd.trans (hd x hx)
      · rintro ⟨hne, hc, hd, hp⟩
        exact ⟨⟨hne c (.inl rfl), hc d (.inl rfl)⟩, fun x hx => hne x (.inr hx), hd, hp⟩

/-- Every listed cell of a range lies in it, holds the byte given for it, and is not erased. -/
theorem mem_cellsOf {p len : Nat} {g : Nat → Byte} {c : Host.Cell} :
    c ∈ cellsOf p len g ↔ p ≤ c.1 ∧ c.1 < p + len ∧ c.2 = g c.1 ∧ c.2 ≠ erasedByte := by
  obtain ⟨a, b⟩ := c
  simp only [cellsOf, List.mem_filterMap, List.mem_range]
  constructor
  · rintro ⟨i, hi, h⟩
    split at h
    · cases h
    · rename_i hne
      cases h
      exact ⟨by omega, by omega, rfl, hne⟩
  · rintro ⟨hp, hl, rfl, hne⟩
    refine ⟨a - p, by omega, ?_⟩
    have : p + (a - p) = a := by omega
    rw [this, if_neg hne]

/-- The listed cells of a range stand in rising order of address. -/
theorem cellsOf_pairwise (p len : Nat) (g : Nat → Byte) :
    (cellsOf p len g).Pairwise fun c d => c.1 < d.1 := by
  refine (List.pairwise_filterMap).2 (List.pairwise_lt_range.imp ?_)
  intro a b hab c hc d hd
  split at hc <;> cases hc
  split at hd <;> cases hd
  simp only [Nat.add_lt_add_iff_left]
  exact hab

/-- A ranged write keeps the canonical form. -/
theorem cellsWrite_wf {cells : List Host.Cell} (p len : Nat) (g : Nat → Byte) (h : cellsWf cells = true) :
    cellsWf (cellsWrite cells p len g) = true := by
  rw [cellsWf_iff] at h ⊢
  obtain ⟨hne, hp⟩ := h
  refine ⟨fun c hc => ?_, ?_⟩
  · simp only [cellsWrite, List.mem_append, List.mem_filter, mem_cellsOf] at hc
    rcases hc with (hc | hc) | hc
    · exact hne c hc.1
    · exact hc.2.2.2
    · exact hne c hc.1
  · simp only [cellsWrite, List.pairwise_append, List.mem_append, List.mem_filter, mem_cellsOf, decide_eq_true_eq]
    refine ⟨⟨hp.filter _, cellsOf_pairwise p len g, ?_⟩, hp.filter _, ?_⟩
    · rintro c ⟨-, hc⟩ d hd
      omega
    · rintro c (⟨-, hc⟩ | hc) d ⟨-, hd⟩ <;> omega

/-- A byte read after a ranged write. -/
theorem cellsRead_cellsWrite (cells : List Host.Cell) (p len : Nat) (g : Nat → Byte) (q : Nat) :
    cellsRead (cellsWrite cells p len g) q =
      if p ≤ q ∧ q < p + len then g q else cellsRead cells q := by
  have outside : ∀ (P : Host.Cell → Bool), (∀ c : Host.Cell, c.1 = q → P c = true) →
      (cells.filter P).find? (fun c => c.1 == q) = cells.find? fun c => c.1 == q := by
    intro P hP
    rw [List.find?_filter]
    refine List.find?_congr fun c _ => ?_
    by_cases hq : c.1 = q <;> simp [hq, hP]
  have inside : ∀ (P : Host.Cell → Bool), (∀ c : Host.Cell, c.1 = q → P c = false) →
      (cells.filter P).find? (fun c => c.1 == q) = none := by
    intro P hP
    rw [List.find?_eq_none]
    intro c hc hq
    simp only [List.mem_filter] at hc
    simp [hP c (by simpa using hq)] at hc
  unfold cellsRead cellsWrite
  rw [List.find?_append, List.find?_append]
  split
  · next h =>
    rw [inside _ (by intro c hc; simp; omega), inside _ (by intro c hc; simp; omega)]
    simp only [Option.none_or, Option.or_none]
    by_cases hg : g q = erasedByte
    · rw [List.find?_eq_none.2, hg]
      · rfl
      · intro c hc hq
        rw [mem_cellsOf] at hc
        simp only [beq_iff_eq] at hq
        subst hq
        exact hc.2.2.2 (hc.2.2.1.trans hg)
    · have hm : (q, g q) ∈ cellsOf p len g := mem_cellsOf.2 ⟨h.1, h.2, rfl, hg⟩
      cases hf : (cellsOf p len g).find? fun c => c.1 == q with
      | none => exact absurd (List.find?_eq_none.1 hf _ hm) (by simp)
      | some c =>
        have h1 := List.find?_some hf
        have h2 := mem_cellsOf.1 (List.mem_of_find?_eq_some hf)
        simp only [beq_iff_eq] at h1
        simp [h2.2.2.1, h1]
  · next h =>
    have hm : (cellsOf p len g).find? (fun c => c.1 == q) = none := by
      rw [List.find?_eq_none]
      intro c hc hq
      rw [mem_cellsOf] at hc
      simp only [beq_iff_eq] at hq
      omega
    rw [hm, Option.or_none]
    by_cases hq : q < p
    · rw [outside _ (by intro c hc; simp; omega)]
      cases cells.find? fun c => c.1 == q with
      | none => rw [inside _ (by intro c hc; simp; omega)]; rfl
      | some c => rfl
    · rw [inside (fun c => decide (c.1 < p)) (by intro c hc; simp; omega),
        outside _ (by intro c hc; simp; omega), Option.none_or]

/-- An erased list of cells reads as erased everywhere. -/
@[simp] theorem cellsRead_nil (p : Nat) : cellsRead [] p = erasedByte := rfl

/-- Every write to the flash keeps the canonical form. -/
theorem Flash.write_wf {f : Flash} (p len : Nat) (g : Nat → Byte) (h : f.wf = true) : (f.write p len g).wf = true := by
  unfold Flash.write
  split
  · exact cellsWrite_wf p len g h
  · exact h

/-- The end of the command in hand keeps the canonical form. -/
theorem Flash.finish_wf {f : Flash} (o : FlightOp) (h : f.wf = true) : (f.finish o).wf = true :=
  Flash.write_wf _ _ _ h

/-- Cutting the command in hand short keeps the canonical form. -/
theorem Flash.cutShort_wf {f : Flash} (o : FlightOp) (draw : Nat) (h : f.wf = true) : (f.cutShort o draw).wf = true :=
  Flash.write_wf _ _ _ h

/-- A write neither fits nor removes the flash. -/
@[simp] theorem Flash.write_present (f : Flash) (p len : Nat) (g : Nat → Byte) :
    (f.write p len g).present = f.present := by
  unfold Flash.write
  split <;> rfl

/-- A byte of a fitted flash read after a write. -/
theorem Flash.read_write {f : Flash} (p len : Nat) (g : Nat → Byte) (q : Nat) (h : f.present = true) :
    (f.write p len g).read q = if p ≤ q ∧ q < p + len then g q else f.read q := by
  simp only [Flash.read, Flash.write, h, if_true, cellsRead_cellsWrite]

/-- A byte outside the range of a write reads as before. -/
theorem Flash.read_write_outside (f : Flash) (p len : Nat) (g : Nat → Byte) (q : Nat) (h : q < p ∨ p + len ≤ q) :
    (f.write p len g).read q = f.read q := by
  cases hp : f.present with
  | false => simp [Flash.write, hp]
  | true => rw [Flash.read_write p len g q hp, if_neg (by omega)]

/-- An absent flash is not changed by a write. -/
theorem Flash.write_absent {f : Flash} (p len : Nat) (g : Nat → Byte) (h : f.present = false) :
    f.write p len g = f := by
  simp [Flash.write, h]

/-- The flash of the state after reset is canonical. -/
theorem reset_flash_canonical : cellsWf State.reset.flash.cells = true := rfl

end Sys2Proof.Machine
end

