-- ==== Sys2Proof/Laws/Requests.lean ====
section
/-! SUPPORT. Request frames read back (R204), and what a request command does on a free channel (R186): its own taking,
on the accepted frame. -/

namespace Sys2Proof.Machine

/-! ### Bytes -/

@[simp] theorem leBytes_length (n v : Nat) : (leBytes n v).length = n := by
  induction n generalizing v with
  | zero => rfl
  | succ n ih => simp [leBytes, ih]

/-- R201: a number below 256ⁿ reads back from its `n` bytes. -/
theorem leNat_leBytes (n v : Nat) (h : v < 256 ^ n) : leNat (leBytes n v) = v := by
  induction n generalizing v with
  | zero => simp at h; simp [leBytes, leNat, h]
  | succ n ih =>
    have : v / 256 < 256 ^ n := by rw [Nat.div_lt_iff_lt_mul (by decide)]; rwa [Nat.pow_succ] at h
    simp only [leBytes, leNat, ih _ this, BitVec.toNat_ofNat]
    omega

theorem byteAt_append_left {a b : Bytes} {i : Nat} (h : i < a.length) : byteAt (a ++ b) i = byteAt a i := by
  simp [byteAt, List.getD_eq_getElem?_getD, List.getElem?_append_left h]

theorem slice_append_right {a b : Bytes} {n : Nat} (len : Nat) (h : a.length = n) :
    slice (a ++ b) n len = b.take len := by
  subst h; simp [slice]

/-! ### Request frames -/

/-- The four header bytes of a request frame. -/
theorem requestFrame_header (r : Request) (proof : Option Bytes) (body : Bytes) :
    requestFrame r proof body =
      [BitVec.ofNat 8 (requestLength proof body), BitVec.ofNat 8 (requestLength proof body / 256), requestCode r,
        flagByte proof.isSome] ++ (proof.getD [] ++ body) := by
  simp [requestFrame, leBytes]

@[simp] theorem requestFrame_code (r : Request) (proof : Option Bytes) (body : Bytes) :
    frameCode (requestFrame r proof body) = requestCode r := by
  simp [requestFrame_header, frameCode, byteAt]

@[simp] theorem requestFrame_flags (r : Request) (proof : Option Bytes) (body : Bytes) :
    frameFlags (requestFrame r proof body) = flagByte proof.isSome := by
  simp [requestFrame_header, frameFlags, byteAt]

@[simp] theorem requestFrame_hasProof (r : Request) (proof : Option Bytes) (body : Bytes) :
    frameHasProof (requestFrame r proof body) = proof.isSome := by
  cases proof <;> simp [frameHasProof, flagByte]

theorem requestFrame_length_field (r : Request) (proof : Option Bytes) (body : Bytes)
    (h : requestLength proof body ≤ 290) :
    frameLength (requestFrame r proof body) = requestLength proof body := by
  have : slice (requestFrame r proof body) 0 2 = leBytes 2 (requestLength proof body) := by
    simp [requestFrame_header, slice, leBytes]
  simp only [frameLength, leAt, this]
  exact leNat_leBytes 2 _ (by omega)

@[simp] theorem requestFrame_length (r : Request) (proof : Option Bytes) (body : Bytes) :
    (requestFrame r proof body).length = 2 + requestLength proof body := by
  cases proof <;> simp [requestFrame_header, requestLength] <;> omega

theorem requestLength_le {proof : Option Bytes} {body : Bytes} (h : requestWellFormed proof body = true) :
    requestLength proof body ≤ 290 := by
  simp [requestWellFormed] at h; exact h.2

theorem proof_length {proof : Option Bytes} {body : Bytes} (h : requestWellFormed proof body = true) (p : Bytes)
    (hp : proof = some p) : p.length = 32 := by
  subst hp; simp [requestWellFormed] at h; exact h.1

/-- R204: the body reads back. -/
theorem requestFrame_body (r : Request) (proof : Option Bytes) (body : Bytes)
    (h : requestWellFormed proof body = true) : frameBody (requestFrame r proof body) = body := by
  have hl := requestLength_le h
  have hf := requestFrame_length_field r proof body hl
  unfold frameBody
  rw [hf]
  cases proof with
  | none =>
    simp only [frameBodyStart, requestFrame_hasProof, Option.isSome_none, Bool.false_eq_true, if_false]
    rw [requestFrame_header, slice_append_right _ (by rfl)]
    simp [requestLength]; omega
  | some p =>
    have hp := proof_length h p rfl
    simp only [frameBodyStart, requestFrame_hasProof, Option.isSome_some, if_true]
    rw [requestFrame_header, ← List.append_assoc, slice_append_right _ (by simp [hp])]
    simp [requestLength, hp]; omega

/-- R204: the proof reads back. -/
theorem requestFrame_proof (r : Request) (proof : Option Bytes) (body : Bytes)
    (h : requestWellFormed proof body = true) : frameProof (requestFrame r proof body) = proof := by
  cases proof with
  | none => simp [frameProof]
  | some p =>
    have hp := proof_length h p rfl
    simp only [frameProof, requestFrame_hasProof, Option.isSome_some, if_true]
    rw [requestFrame_header, slice_append_right _ (by rfl)]
    simp [← hp]

/-- R188: the frame of a request with a body of at most 259 bytes passes the frame checks. -/
theorem requestFrame_good (r : Request) (proof : Option Bytes) (body : Bytes)
    (h : requestWellFormed proof body = true) (hb : body.length ≤ 259) :
    badFrame (requestFrame r proof body) = false := by
  have hl := requestLength_le h
  cases proof with
  | none => simp [badFrame, flagByte, requestFrame_body r _ body h, hb]
  | some p =>
    have hp := proof_length h p rfl
    simp [badFrame, flagByte, requestFrame_body r _ body h, hb, requestFrame_length_field r _ body hl,
      requestLength, hp]

/-! ### Transactions on a free bus -/

theorem busFree_iff {s : State} :
    busFree s = true ↔ s.rstLow = false ∧ s.bp.readTxn = none ∧ s.bp.fetchTxn = none := by
  simp [busFree, and_assoc]

theorem channelFree_iff {s : State} : channelFree s = true ↔ busFree s = true ∧ s.mc.state = .idle := by
  simp [channelFree]

/-- With no transaction in progress there is none to end. -/
theorem endOpenTransaction_none {s : State} (hr : s.bp.readTxn = none) (hf : s.bp.fetchTxn = none) :
    endOpenTransaction s = s := by
  simp [endOpenTransaction, endFetch, endRead, hr, hf]

/-- A transaction on a free bus acts with nothing driven yet. -/
theorem transaction_free {s : State} (act : State → State) (h : busFree s = true) :
    transaction act s = act { freshPort s with bp.out := [] } := by
  obtain ⟨h1, h2, h3⟩ := busFree_iff.mp h
  rw [transaction, h1, if_neg (by simp), endOpenTransaction_none (s := freshPort s) h2 h3]

/-- R46: a whole transaction on a free bus acts with the reset-enable state clear. -/
theorem wholeTransaction_free {s : State} (act : State → State) (h : busFree s = true) :
    wholeTransaction act s = act (afterTransaction s) := by
  rw [wholeTransaction, transaction_free _ h]
  rfl

/-- What a whole transaction leaves beside its own effect. -/
@[simp] theorem afterTransaction_frame (s : State) :
    (afterTransaction s).bp.wel = s.bp.wel ∧ (afterTransaction s).bp.writeRecord = s.bp.writeRecord ∧
      (afterTransaction s).bp.laneMode = s.bp.laneMode ∧ (afterTransaction s).bp.resetEnable = false ∧
      (afterTransaction s).bp.idManufacturer = s.bp.idManufacturer ∧ (afterTransaction s).bp.idType = s.bp.idType ∧
      (afterTransaction s).bp.pageBuffer = s.bp.pageBuffer ∧ (afterTransaction s).bp.intakeCount = s.bp.intakeCount ∧
      (afterTransaction s).bp.intake = s.bp.intake ∧ (afterTransaction s).bp.readTxn = s.bp.readTxn ∧
      (afterTransaction s).bp.fetchTxn = s.bp.fetchTxn ∧ (afterTransaction s).bp.out = [] ∧
      (afterTransaction s).bp.outLines = s.bp.outLines ∧ (afterTransaction s).tu = s.tu ∧
      (afterTransaction s).fp.run = s.fp.run ∧ (afterTransaction s).fp.op = s.fp.op ∧
      (afterTransaction s).fp.chunk = s.fp.chunk ∧ (afterTransaction s).fp.chunkBuffer = s.fp.chunkBuffer ∧
      (afterTransaction s).fp.prep = s.fp.prep ∧ (afterTransaction s).fp.sent = [] ∧
      (afterTransaction s).flash = s.flash ∧ (afterTransaction s).de = s.de ∧ (afterTransaction s).su = s.su ∧
      (afterTransaction s).isc = s.isc ∧ (afterTransaction s).lanes = s.lanes ∧ (afterTransaction s).store = s.store ∧
      (afterTransaction s).writes = s.writes ∧ (afterTransaction s).cred = s.cred ∧ (afterTransaction s).mc = s.mc ∧
      (afterTransaction s).socRun = s.socRun ∧ (afterTransaction s).rstLow = s.rstLow ∧
      (afterTransaction s).clock = s.clock ∧ (afterTransaction s).draws = s.draws ∧
      (afterTransaction s).pending = s.pending := by
  refine ⟨?_, ?_, ?_, ?_, ?_, ?_, ?_, ?_, ?_, ?_, ?_, ?_, ?_, ?_, ?_, ?_, ?_, ?_, ?_, ?_, ?_, ?_, ?_, ?_, ?_, ?_, ?_,
    ?_, ?_, ?_, ?_, ?_, ?_, ?_⟩ <;> rfl

/-- R27: a taken command on a free bus. -/
theorem takenCommand_free {s : State} (leading : Nat) (clocks : List Clock) (act : Bytes → State → State)
    (h : busFree s = true) :
    takenCommand leading clocks act s =
      if onBoundary s.bp.laneMode clocks && decide (leading ≤ (receivedBytes s.bp.laneMode clocks).length) then
        act (receivedBytes s.bp.laneMode clocks) (afterTransaction s)
      else afterTransaction s := by
  rw [takenCommand, wholeTransaction_free _ h]
  rfl

/-- On a free bus a request command is a whole POST transaction. -/
theorem openForTaking_free {s : State} (h : busFree s = true) : openForTaking s = false := by
  obtain ⟨_, h2, h3⟩ := busFree_iff.mp h
  simp [openForTaking, h2, h3]

/-! ### Taking a request -/

/-- A frame that the intake holds whole is kept whole, whatever follows it. -/
theorem kept_frame (r : Request) (proof : Option Bytes) (body extra : Bytes)
    (h : requestWellFormed proof body = true) :
    ((requestFrame r proof body ++ extra).take 292).take (2 + requestLength proof body) = requestFrame r proof body := by
  have hl := requestLength_le h
  rw [List.take_take, Nat.min_eq_left (by omega), List.take_append_of_le_length (by simp)]
  exact List.take_of_length_le (by simp)

theorem kept_length_field (r : Request) (proof : Option Bytes) (body extra : Bytes)
    (h : requestWellFormed proof body = true) :
    frameLength ((requestFrame r proof body ++ extra).take 292) = requestLength proof body := by
  have hl := requestLength_le h
  have : slice ((requestFrame r proof body ++ extra).take 292) 0 2 = leBytes 2 (requestLength proof body) := by
    simp [requestFrame_header, slice, leBytes]
  simp only [frameLength, leAt, this]
  exact leNat_leBytes 2 _ (by omega)

/-- R186, R188: the POST of a request's frame on an IDLE channel is accepted and dispatched. -/
theorem post_requestFrame (r : Request) (proof : Option Bytes) (body extra : Bytes) (dispatch : State → State)
    (s : State) (hi : s.mc.state = .idle) (h : requestWellFormed proof body = true) (hb : body.length ≤ 259) :
    post (requestFrame r proof body ++ extra) dispatch s =
      dispatch
        { emptyResponse { s with bp.intakeCount := 0, bp.intake := [] } with
          mc.request := requestFrame r proof body
          mc.state := .working .taken } := by
  have hl := requestLength_le h
  have hd : dropsPost { s with bp.intakeCount := 0, bp.intake := [] } (requestFrame r proof body ++ extra).length
      ((requestFrame r proof body ++ extra).take 292) = false := by
    have : 2 ≤ requestLength proof body := by simp [requestLength]; omega
    simp [dropsPost, kept_length_field r proof body extra h, managementBusy, hi]
    omega
  simp only [post, receivePost, hd, acceptPost, kept_length_field r proof body extra h,
    kept_frame r proof body extra h, requestFrame_good r proof body h hb]
  rfl

/-- A request command on a free channel is its taking on the accepted frame (log 11). -/
theorem requestCommand_taken {r : Request} {dispatch : State → State} {proof : Option Bytes} {body : Bytes} {s : State}
    (hs : channelFree s = true) (h : requestWellFormed proof body = true) (hb : body.length ≤ 259) :
    requestCommand r dispatch proof body s = dispatch (accepted (requestFrame r proof body) .taken s) := by
  obtain ⟨hf, hi⟩ := channelFree_iff.mp hs
  have := post_requestFrame r proof body [] dispatch (afterTransaction s) hi h hb
  rw [List.append_nil] at this
  simp only [requestCommand, openForTaking_free hf, Bool.false_eq_true, if_false]
  rw [wholeTransaction_free _ hf, this]
  simp only [emptyResponse, accepted]
  rw [show (afterTransaction s).bp.fetchTxn = none from (busFree_iff.mp hf).2.2]
  congr 1

/-! ### The accepted frame -/

/-- A short body fits a frame whatever the proof. -/
theorem requestWellFormed_short {proof : Option Bytes} {short body : Bytes}
    (h : requestWellFormed proof short = true) (hb : body.length ≤ 256) : requestWellFormed proof body = true := by
  cases proof with
  | none => simp [requestWellFormed, requestLength]; omega
  | some p =>
    simp [requestWellFormed, requestLength] at h
    simp [requestWellFormed, requestLength, h.1]; omega

/-- R188: the body of an accepted frame is the request's. -/
theorem requestBody_accepted {r : Request} {proof : Option Bytes} {body : Bytes} {j : Job} {s : State}
    (h : requestWellFormed proof body = true) : requestBody (accepted (requestFrame r proof body) j s) = body :=
  requestFrame_body r proof body h

/-- R190: a response to an accepted frame is the answer with the request's code. -/
@[simp] theorem respond_accepted (r : Request) (proof : Option Bytes) (body : Bytes) (j : Job) (status : Status)
    (answer : Bytes) (s : State) :
    respond status answer (accepted (requestFrame r proof body) j s) = answered r status answer s := by
  simp [respond, answered, accepted]

theorem lifecycleIs_accepted (frame : Bytes) (j : Job) (s : State) (x : Lifecycle) :
    lifecycleIs (accepted frame j s) x = decide (s.store.lifecycle = x) := rfl

theorem slotRecordOf_accepted (frame : Bytes) (j : Job) (s : State) :
    slotRecordOf (accepted frame j s) = slotRecordOf s := rfl

theorem liveInactive_accepted (frame : Bytes) (j : Job) (s : State) :
    liveInactive (accepted frame j s) = s.tu.selector.other := rfl

@[simp] theorem accepted_frame (frame : Bytes) (j : Job) (s : State) :
    (accepted frame j s).tu = s.tu ∧ (accepted frame j s).flash = s.flash ∧ (accepted frame j s).de = s.de ∧
      (accepted frame j s).su = s.su ∧ (accepted frame j s).isc = s.isc ∧ (accepted frame j s).lanes = s.lanes ∧
      (accepted frame j s).store = s.store ∧ (accepted frame j s).writes = s.writes ∧
      (accepted frame j s).cred = s.cred ∧ (accepted frame j s).socRun = s.socRun ∧
      (accepted frame j s).rstLow = s.rstLow ∧ (accepted frame j s).clock = s.clock ∧
      (accepted frame j s).draws = s.draws ∧ (accepted frame j s).pending = s.pending ∧
      (accepted frame j s).fp.op = s.fp.op ∧ (accepted frame j s).fp.chunk = s.fp.chunk ∧
      (accepted frame j s).fp.run = s.fp.run ∧ (accepted frame j s).fp.prep = s.fp.prep ∧
      (accepted frame j s).bp.readTxn = s.bp.readTxn ∧ (accepted frame j s).bp.wel = s.bp.wel ∧
      (accepted frame j s).bp.writeRecord = s.bp.writeRecord ∧
      (accepted frame j s).mc.request = frame ∧ (accepted frame j s).mc.state = .working j ∧
      (accepted frame j s).mc.response = none ∧ (accepted frame j s).mc.scrubTimer = none ∧
      (accepted frame j s).mc.flags = s.mc.flags ∧ (accepted frame j s).mc.mask = s.mc.mask ∧
      (accepted frame j s).mc.dropped = s.mc.dropped := by
  refine ⟨?_, ?_, ?_, ?_, ?_, ?_, ?_, ?_, ?_, ?_, ?_, ?_, ?_, ?_, ?_, ?_, ?_, ?_, ?_, ?_, ?_, ?_, ?_, ?_, ?_, ?_, ?_,
    ?_⟩ <;> rfl

end Sys2Proof.Machine
end

