-- ==== Sys2Proof/Laws/Work.lean ====
section
/-! SUPPORT. What follows a step of itself: each part of `settle` where there is nothing to start, and where there is;
and the digest of an item of one chunk (R70). -/

namespace Sys2Proof.Machine

/-! ### Nothing to start -/

theorem startOperation_none {s : State} (h : s.fp.op = none) : startOperation s = s := by
  simp [startOperation, h]

theorem startOperation_busy {s : State} {o : FlightOp} (h : s.fp.op = some o) (hp : o.phase ≠ .queued) :
    startOperation s = s := by
  simp [startOperation, h, hp]

theorem startAbsorption_busy {s : State} (h : s.de.absorbing.isSome = true) : startAbsorption s = s := by
  simp [startAbsorption, h]

theorem startAbsorption_empty {s : State} (hs : s.de.scan = none) (hc : s.de.channel = none) :
    startAbsorption s = s := by
  simp [startAbsorption, chooseWork, hs, hc]

theorem startSignature_empty {s : State} (hs : s.su.scan = none) (hc : s.su.channel = none) :
    startSignature s = s := by
  simp [startSignature, hs, hc]

theorem startChunkRead_none {s : State} (h : s.fp.chunk = none) : startChunkRead s = s := by
  simp [startChunkRead, h]

theorem startChunkRead_op {s : State} (h : s.fp.op.isSome = true) : startChunkRead s = s := by
  unfold startChunkRead
  split
  · rfl
  · simp [Option.isSome_iff_ne_none.mp h]

/-- R67: without a restart in hand none is due. -/
theorem restartDue_none {s : State} (h : ∀ f, s.mc.state ≠ .working (.restart f)) : restartDue s = false := by
  unfold restartDue
  split
  · exact absurd ‹_› (h _)
  · rfl

/-- R67: while an operation is in flight no restart is due. -/
theorem restartDue_op {s : State} (h : s.fp.op.isSome = true) : restartDue s = false := by
  unfold restartDue
  split
  · simp [Option.isSome_iff_ne_none.mp h]
  · rfl

/-- What follows a step while no restart is due. -/
theorem settle_notDue {s : State} (h : restartDue s = false) :
    settle s = startChunkRead (startSignature (startAbsorption (startOperation s))) := by
  simp [settle, h]

/-- R67: once a restart is due nothing follows a step. -/
theorem settle_due {s : State} (h : restartDue s = true) : settle s = s := by
  simp [settle, h]

/-- R67: an event of the old state happens while no restart is due. -/
theorem unlessRestartDue_notDue (event : State → State) {s : State} (h : restartDue s = false) :
    unlessRestartDue event s = event s := by
  simp [unlessRestartDue, h]

/-- R67, log 6: once a restart is due an event of the old state does not happen. -/
theorem unlessRestartDue_due (event : State → State) {s : State} (h : restartDue s = true) :
    unlessRestartDue event s = s := by
  simp [unlessRestartDue, h]

/-- With no work waiting, nothing follows a step. -/
theorem settle_quiet {s : State} (ho : s.fp.op = none) (hs : s.de.scan = none) (hc : s.de.channel = none)
    (hv : s.su.scan = none) (hg : s.su.channel = none) (hk : s.fp.chunk = none) : settle s = s := by
  rw [settle, startOperation_none ho, startAbsorption_empty hs hc, startSignature_empty hv hg,
    startChunkRead_none hk, ite_self]

theorem startOperation_noChunk {s : State} (hk : s.fp.chunk = none) :
    (startOperation s).isc = s.isc ∧ (startOperation s).fp.chunk = none ∧
      (startOperation s).fp.chunkBuffer = s.fp.chunkBuffer ∧ (startOperation s).de = s.de ∧
      (startOperation s).su = s.su := by
  unfold startOperation preemptChunk
  rw [hk]
  dsimp only
  split
  · simp [hk]
  · split <;> simp [send, hk]

theorem startAbsorption_noScan {s : State} (hd : s.de.scan = none) :
    (startAbsorption s).isc = s.isc ∧ (startAbsorption s).fp = s.fp ∧ (startAbsorption s).de.scan = none ∧
      (startAbsorption s).de.owed = s.de.owed ∧ (startAbsorption s).su = s.su := by
  unfold startAbsorption
  rw [hd]
  split
  · simp [hd]
  · split <;> simp_all

/-- With no scan work in hand, what follows a step leaves the scan's side of the part alone. -/
theorem settle_noScan {s : State} (hd : s.de.scan = none) (hk : s.fp.chunk = none) (hv : s.su.scan = none) :
    (settle s).isc = s.isc ∧ (settle s).fp.chunk = none ∧ (settle s).fp.chunkBuffer = s.fp.chunkBuffer ∧
      (settle s).de.scan = none ∧ (settle s).de.owed = s.de.owed ∧ (settle s).su.scan = none := by
  obtain ⟨a1, a2, a3, a4, a5⟩ := startOperation_noChunk hk
  obtain ⟨b1, b2, b3, b4, b5⟩ := startAbsorption_noScan (s := startOperation s) (by rw [a4, hd])
  have c : (startSignature (startAbsorption (startOperation s))).su.scan = none := by
    unfold startSignature
    rw [b5, a5, hv]
    split
    · rw [b5, a5, hv]
    · split <;> simp_all
  cases hr : restartDue s with
  | true => simp [settle_due hr, hd, hk, hv]
  | false =>
    rw [settle_notDue hr, startChunkRead_none (by simp [b2, a2])]
    simp [b1, b2, b3, b4, a1, a2, a3, c]

/-! ### States with everything free -/

theorem enginesFree_iff {s : State} :
    enginesFree s = true ↔
      s.de.scan = none ∧ s.de.channel = none ∧ s.de.absorbing = none ∧ s.su.scan = none ∧ s.su.channel = none := by
  simp [enginesFree, and_assoc]

theorem flashIdle_iff {s : State} : flashIdle s = true ↔ s.fp.op = none ∧ s.fp.chunk = none := by
  simp [flashIdle]

theorem storeFree_iff {s : State} :
    storeFree s = true ↔ s.writes.current = none ∧ s.writes.waiting = none := by
  simp [storeFree]

theorem ready_iff {s : State} :
    ready s = true ↔
      channelFree s = true ∧ enginesFree s = true ∧ storeFree s = true ∧ flashIdle s = true := by
  simp [ready, and_assoc]

/-! ### A channel item alone in the engine -/

/-- The engine, free but for a channel item, absorbs that item. -/
theorem settle_channel_item {s : State} (ho : s.fp.op = none) (hs : s.de.scan = none)
    (hc : s.de.channel.isSome = true) (ha : s.de.absorbing = none) (hv : s.su.scan = none) (hg : s.su.channel = none)
    (hk : s.fp.chunk = none) (hr : restartDue s = false) : settle s = { s with de.absorbing := some .channel } := by
  have h1 : startAbsorption s = { s with de.absorbing := some .channel } := by
    simp [startAbsorption, chooseWork, hs, hc, ha]
  rw [settle_notDue hr, startOperation_none ho, h1]
  rw [startSignature_empty (s := { s with de.absorbing := some .channel }) hv hg]
  exact startChunkRead_none (s := { s with de.absorbing := some .channel }) hk

/-- R68, R71: a channel item placed in the free engine is absorbed at once. -/
theorem digestAndWait_free {s : State} (job : Job) (item : DigestItem) (ho : s.fp.op = none)
    (he : enginesFree s = true) (hk : s.fp.chunk = none) (hj : ∀ f, job ≠ .restart f) :
    digestAndWait job item s =
      { s with
        mc.state := .working job
        de.channel := some item
        de.scanFirst := false
        de.absorbing := some .channel } := by
  obtain ⟨h1, h2, h3, h4, h5⟩ := enginesFree_iff.mp he
  have : (waitFor job (placeChannelItem item s)) =
      { s with mc.state := .working job, de.channel := some item, de.scanFirst := false } := by
    simp [waitFor, placeChannelItem, h1]
  rw [digestAndWait, this]
  exact settle_channel_item ho h1 rfl h3 h4 h5 hk (restartDue_none (by simpa using hj))

/-! ### Digests of one chunk -/

theorem chunkCount_one {n : Nat} (h1 : 0 < n) (h2 : n ≤ 256) : chunkCount n = 1 := by
  unfold chunkCount; omega

/-- R70: the digest of an item of one chunk. -/
theorem bufferItem_digest (work : DigestWork) (input : Bytes) (h1 : 0 < input.length) (h2 : input.length ≤ 256) :
    (bufferItem work input).lastChunk = true ∧
      shaOutput (bufferItem work input).absorbed.running = sha256 input := by
  have hl : (bufferItem work input).lastChunk = true := by
    simp [DigestItem.lastChunk, bufferItem, chunkCount_one h1 h2]
  refine ⟨hl, ?_⟩
  have hc : (bufferItem work input).chunk = input := by
    simp [DigestItem.chunk, bufferItem, slice, List.take_of_length_le h2]
  simp only [DigestItem.absorbed, hl, hc, absorbChunk, if_true]
  rfl

/-- R72, R74: the chunk end of a channel item of one chunk hands its digest over, with both places empty. -/
theorem channelChunkEnd_one {s : State} (work : DigestWork) (input : Bytes) (h1 : 0 < input.length)
    (h2 : input.length ≤ 256) (hs : s.de.scan = none) :
    channelChunkEnd (bufferItem work input) s =
      channelDigest (sha256 input) { s with de.channel := none, de.absorbing := none } := by
  obtain ⟨hl, hd⟩ := bufferItem_digest work input h1 h2
  simp [channelChunkEnd, hl, hd, segmentInScanPlace, hs]

/-- The CHUNK_END of a channel item of one chunk, alone in the engine. -/
theorem chunkEnd_channel {s : State} (work : DigestWork) (input : Bytes) (h1 : 0 < input.length)
    (h2 : input.length ≤ 256) (hs : s.de.scan = none) (hc : s.de.channel = some (bufferItem work input))
    (ha : s.de.absorbing = some .channel) (hr : restartDue s = false) :
    exec .chunkEnd s =
      .next (settle (channelDigest (sha256 input)
        { s with de.channel := none, de.absorbing := none, fp.sent := [] })) := by
  show Host.Outcome.next (unlessRestartDue chunkEnd (freshPort s)) = _
  rw [unlessRestartDue_notDue chunkEnd (s := freshPort s) hr]
  have : chunkEnd (freshPort s) = settle (channelChunkEnd (bufferItem work input) (freshPort s)) := by
    unfold chunkEnd
    rw [show (freshPort s).de.absorbing = some .channel from ha, show (freshPort s).de.channel = some _ from hc]
  rw [this, channelChunkEnd_one work input h1 h2 (s := freshPort s) hs]
  rfl

/-! ### Store writes -/

theorem askWrite_free {s : State} (who : Requester) (w : StoreWrite) (h : s.writes.current = none) :
    askWrite who w s = { s with writes.current := some ⟨who, w⟩ } := by
  simp [askWrite, h]

/-- R148: the end of the one write in hand. -/
theorem storeWriteEnd_alone {s : State} (who : Requester) (w : StoreWrite) (hc : s.writes.current = some ⟨who, w⟩)
    (hw : s.writes.waiting = none) (hr : ∀ f, s.mc.state ≠ .working (.restart f)) :
    exec .storeWriteEnd s =
      .next (settle (writeEnded who
        { s with store := s.store.apply w, writes := ⟨none, none⟩, fp.sent := [] })) := by
  show Host.Outcome.next (storeWriteEnd (freshPort s)) = _
  have h1 : (freshPort s).writes.current = some ⟨who, w⟩ := hc
  unfold storeWriteEnd
  rw [h1]
  have h2 : restartDue { freshPort s with store := (freshPort s).store.apply w, writes.current := none } = false :=
    restartDue_none hr
  have h3 : beginWaitingWrite { freshPort s with store := (freshPort s).store.apply w, writes.current := none } =
      { s with store := s.store.apply w, writes := ⟨none, none⟩, fp.sent := [] } := by
    simp [beginWaitingWrite, freshPort, hw]
  simp only [h2, h3]
  rfl

/-- R67, R149: where a restart waited for the end of the write in hand, that end is all that happens. -/
theorem storeWriteEnd_due {s : State} (who : Requester) (w : StoreWrite) (hc : s.writes.current = some ⟨who, w⟩)
    (ho : s.fp.op = none) (hr : ∃ f, s.mc.state = .working (.restart f)) :
    exec .storeWriteEnd s =
      .next { s with store := s.store.apply w, writes.current := none, fp.sent := [] } := by
  obtain ⟨f, hf⟩ := hr
  show Host.Outcome.next (storeWriteEnd (freshPort s)) = _
  have h1 : (freshPort s).writes.current = some ⟨who, w⟩ := hc
  unfold storeWriteEnd
  rw [h1]
  have h2 : restartDue { freshPort s with store := (freshPort s).store.apply w, writes.current := none } = true := by
    simp [restartDue, freshPort, hf, ho]
  simp only [h2]
  rfl

/-- No work waits in the engines or for the flash: nothing follows a step. -/
def atRest (s : State) : Prop :=
  s.fp.op = none ∧ s.de.scan = none ∧ s.de.channel = none ∧ s.su.scan = none ∧ s.su.channel = none ∧ s.fp.chunk = none

theorem settle_atRest {s : State} (h : atRest s) : settle s = s := by
  obtain ⟨h1, h2, h3, h4, h5, h6⟩ := h
  exact settle_quiet h1 h2 h3 h4 h5 h6

/-- R148, R190: the end of a request's last write, with nothing else in hand, is answered OK. -/
theorem lastWrite_answered {s : State} (r : Request) (w : StoreWrite)
    (hc : s.writes.current = some ⟨.channel, w⟩) (hw : s.writes.waiting = none)
    (hj : s.mc.state = .working (.lastWrite r)) (hr : atRest s) :
    exec .storeWriteEnd s =
      .next (respond .ok (writtenBody r { s with store := s.store.apply w, writes := ⟨none, none⟩, fp.sent := [] })
        { s with store := s.store.apply w, writes := ⟨none, none⟩, fp.sent := [] }) := by
  rw [storeWriteEnd_alone _ _ hc hw (by simp [hj])]
  simp only [writeEnded, channelWriteEnded, hj]
  rw [settle_atRest (by exact hr)]

/-- R148, R187: a request that has asked for its last write `w`, with the accepted frame still in hand. -/
def writing (r : Request) (frame : Bytes) (w : StoreWrite) (s : State) : State :=
  { accepted frame (.lastWrite r) s with writes.current := some ⟨.channel, w⟩ }

/-- R148: a taking that asks for a write while none is in hand. -/
theorem writeAndWait_accepted {s : State} (r : Request) (frame : Bytes) (j : Job) (w : StoreWrite)
    (h : s.writes.current = none) : writeAndWait r w (accepted frame j s) = writing r frame w s := by
  rw [writeAndWait, askWrite_free _ _ (by simpa using h)]
  rfl

/-- R148, R190: the end of that write is answered OK over the written store. -/
theorem writing_ends {s : State} {r : Request} {proof : Option Bytes} {body : Bytes} (w : StoreWrite)
    (hs : storeFree s = true) (hr : atRest s) :
    exec .storeWriteEnd (writing r (requestFrame r proof body) w s) =
      .next (answered r .ok
        (writtenBody r (accepted (requestFrame r proof body) (.lastWrite r) { s with store := s.store.apply w }))
        { s with store := s.store.apply w }) := by
  obtain ⟨h1, h2⟩ := storeFree_iff.mp hs
  have hw : s.writes = ⟨none, none⟩ := by cases h : s.writes; simp_all
  have := lastWrite_answered (s := writing r (requestFrame r proof body) w s) r w rfl h2 rfl hr
  rw [this]
  have : ({ writing r (requestFrame r proof body) w s with
      store := (writing r (requestFrame r proof body) w s).store.apply w, writes := ⟨none, none⟩, fp.sent := [] } :
      State) = accepted (requestFrame r proof body) (.lastWrite r) { s with store := s.store.apply w } := by
    simp [writing, accepted, afterTransaction, hw]
  rw [this, respond_accepted]

/-- A request command on a free channel whose taking gives `t`. -/
theorem requestCommand_next {r : Request} {dispatch : State → State} {proof : Option Bytes} {body : Bytes} {s t : State}
    (hs : channelFree s = true) (h : requestWellFormed proof body = true) (hb : body.length ≤ 259)
    (ht : dispatch (accepted (requestFrame r proof body) .taken s) = t) :
    (Host.Outcome.next (requestCommand r dispatch proof body s) : Result) = .next t := by
  rw [requestCommand_taken hs h hb, ht]

end Sys2Proof.Machine
end

