-- ==== Sys2Proof/Tests/Slice0.lean ====
section
/-! SUPPORT. Tests: the WellFormed smoke, a witness for every statement that has hypotheses, small one-step tests, and
known answers of the spec's worked examples and of the published standards. -/

namespace Sys2Proof.Tests.Slice0

open Sys2Proof Sys2Proof.Machine

set_option Elab.async false

/-! ### Small states -/

/-- A BLANK part after its release, every block idle (R98). -/
def up : State :=
  { State.reset with
    fp := { FlashPort.afterReset with prep := .ready }
    tu := { TranslationUnit.afterReset with table := identityTable }
    isc.stage := .released
    socRun := true }

/-- The slot map of 1.8: slots at 0x000000 and 0x600000, the recovery area at 0xC00000. -/
def map18 : SlotMap := ⟨0, 96, 96, 192, 16⟩

def zeros (n : Nat) : Bytes := zeroBytes n

/-- The clocks that carry bytes to the part over BP_IO0. -/
def sent (bytes : Bytes) : List Clock := sendClocks .single bytes

/-- A flash that shows the command suspended, and one that shows it ended. -/
def shown : SuspendReply := [⟨0, 0x80⟩]
def ended : SuspendReply := [⟨0, 0⟩]

/-- An update key and an identity key that no test signs with. -/
def someKey : Bytes := zeros 64

/-- A PROVISIONED part with slot A VALID and booted, slot B EMPTY. -/
def provisioned : State :=
  { up with
    isc.boot := ⟨.pass, .a, some 2, some 1⟩
    store :=
      { Store.delivered with
        lifecycle := .provisioned
        identity := some ⟨1, someKey⟩
        slotMap := some map18
        slotRecord := some ⟨.a, .valid, .empty⟩
        floor := some 2
        keys := [.active someKey, .active someKey, .empty, .empty] } }

/-- A credential without an owner gate. -/
def plain (b : Binding) : Credential := ⟨31, .tlsKey, true, false, b, [0x5A]⟩

/-- An OWNED part with a credential at handle 31. -/
def owned (b : Binding) : State :=
  { provisioned with
    store :=
      { provisioned.store with
        lifecycle := .owned
        verifier := some (sha256 (zeros 32))
        credentials := [plain b] } }

/-- A directory of sixteen secrets of 128 bytes. -/
def fullDirectory : State :=
  { owned .none with
    store.credentials := (List.range 16).map fun h => ⟨h, .tlsKey, true, false, .none, zeros 128⟩ }

/-- A sector erase RUNNING at physical 0x1000. -/
def erasing : FlightOp := ⟨.sectorErase, [0x1000], [], 0, .running, 0⟩

/-- A page program RUNNING at physical 0. -/
def programming : FlightOp := ⟨.program, [0], List.replicate 256 0xF0, 0, .running, 0⟩

/-- A state with an operation in flight. -/
def flying (o : FlightOp) (s : State) : State := { s with fp.op := some o, bp.writeRecord := .inFlight }

/-- A secret response that became ready at clock 0. -/
def secretWaiting : State :=
  { owned .none with
    mc.response := some ⟨[3, 0, 0x51, 0, 0xAA], false, true, none, some 0⟩
    mc.scrubTimer := some 50 }

/-- A command that is being decided. -/
def deciding (c : TakenCommand) (s : State) : State := { s with bp.writeRecord := .deciding c }

/-- A table with one STAGING entry over the first 64 KiB block and nothing above. -/
def stagingTable : List Region :=
  installedRegion 16 .staging rightsAll 0 :: List.replicate 15 (installedRegion 16 .none .empty 0)

/-- A staged scan of slot B in its manifest read. -/
def verifying : State :=
  { provisioned with
    tu.table := stagingTable
    isc.staging.state := .verifying
    isc.scan := { ScanRecord.afterReset with owner := .stagedScan, slot := .b, phase := .manifestRead }
    fp.chunk := some ⟨.stagedScan, 0x600000, 544, true⟩ }

/-- What a test reads from an outcome. -/
def after {α : Type} (o : Host.Outcome State Fault Refusal) (f : State → α) : Option α :=
  match o with
  | .next t => some (f t)
  | _ => none

/-! ### Which operands a command can have -/

theorem test_read_with_four_leading_bytes_refused :
    (Instr.read (List.replicate 25 0) 0 shown).wellFormed = false := by decide
theorem test_read_data_before_address_refused : (Instr.read (sent [0, 0]) 1 shown).wellFormed = false := by decide
theorem test_fastRead_with_five_leading_bytes_refused :
    (Instr.fastRead (sent [0, 0, 0, 0, 0]) 0 shown).wellFormed = false := by decide
theorem test_fastRead_data_before_dummy_refused : (Instr.fastRead (sent [0, 0, 0]) 1 shown).wellFormed = false := by
  decide
theorem test_quadOutputRead_data_before_dummy_refused :
    (Instr.quadOutputRead (sent [0, 0, 0]) 1 shown).wellFormed = false := by decide
theorem test_undecided_suspend_reply_refused :
    (Instr.readTransactionEnd 0 [⟨1, 0⟩]).wellFormed = false ∧ (Instr.read [] 0 []).wellFormed = false ∧
      (Instr.ignoredTransaction ⟨[], [⟨0, 0⟩, ⟨0, 0x80⟩]⟩).wellFormed = false := by decide
theorem test_chipErase_other_opcode_refused : (Instr.chipErase 0x20 [] []).wellFormed = false := by decide
theorem test_request_short_proof_refused :
    (Instr.eraseCredential (some (zeros 31)) [0]).wellFormed = false := by decide
theorem test_request_too_long_refused : (Instr.getInfo none (zeros 289)).wellFormed = false := by decide +kernel
theorem test_every_request_checks_its_operands :
    allRequests.all (fun r => (requestInstr r (some [0]) []).wellFormed == false) = true := by decide
theorem test_well_formed_commands :
    [Instr.read (sent [0, 0, 0]) 4 shown, .fastRead (sendClocks .quadAll [0, 0, 0, 0]) 4 ended, .chipErase 0x60 [] [],
      .readTransactionEnd 9 [⟨1, 0⟩, ⟨1, 0x80⟩], .ignoredTransaction ⟨sent [0x90], shown⟩, .getInfo (some (zeros 32)) [],
      .storeCredential none (zeros 288)].all Instr.wellFormed = true := by decide +kernel

/-! ### Witnesses: a state and operands that meet every hypothesis of a statement -/

theorem witness_EmptyQueue_idle :
    up.pending = [] ∧ up.mc.scrubTimer = none ∧ up.fp.op = none := by decide
theorem witness_EmptyQueue_running :
    (flying { programming with runningTime := 18 } up).pending = [] ∧
    (flying { programming with runningTime := 18 } up).mc.scrubTimer = none ∧
      18 + 1 < timeLimit .program := by decide
theorem witness_EmptyQueue_limit :
    (flying { programming with runningTime := 19 } up).pending = [] ∧ timeLimit .program ≤ 19 + 1 := by decide
theorem witness_EmptyQueue_expiry :
    ({ secretWaiting with clock := 49 } : State).pending = [] ∧ secretWaiting.mc.scrubTimer = some 50 ∧ 50 ≤ 49 + 1 ∧
      secretWaiting.mc.response.any (·.secret) = true := by decide

/-- A state in which all the kept items of the invariants hold something. -/
def busy : State :=
  { flying programming secretWaiting with
    flash.cells := [(0, 0x12), (5, 0x34)]
    tu.violations := 1
    tu.firstRefusal := some ⟨0, .chipErase, .chipErase⟩
    writes.current := some ⟨.slotController, .slotRecord ⟨.b, .valid, .empty⟩⟩ }

theorem witness_invariants_of_a_busy_state :
    busy.flash.wf = true ∧ secretOk busy = true ∧ lanesOk busy = true ∧
      violationsOk busy = true ∧ flightOk busy = true ∧ queueOk busy = true ∧ directoryOk busy = true ∧ floorGuarded busy = true ∧
      busy.store.floor = some 2 := by decide
theorem witness_a_busy_state_steps : ∃ t, step busy = .next t := ⟨_, rfl⟩
theorem witness_StoreChanges :
    (∃ t, exec .storeWriteEnd busy = .next t) ∧
      busy.writes.current = some ⟨.slotController, .slotRecord ⟨.b, .valid, .empty⟩⟩ ∧
      busy.store.lifecycle ≠ .blank := ⟨⟨_, rfl⟩, by decide, by decide +kernel⟩
theorem witness_TableAndSocRun :
    bootOk up = true ∧ up.socRun = true ∧ (∃ t, exec .powerOn up = .next t ∧ t.socRun = false) ∧
    (∃ t, exec (.restrictRegion none [0, 1]) up = .next t ∧ t.tu.table ≠ up.tu.table) ∧
    bootOk { State.reset with fp.prep := .identifying } = true ∧
    ∃ t, exec (.downstreamIdCapture 0 0) { State.reset with fp.prep := .identifying } = .next t ∧ t.socRun = true :=
  ⟨by decide +kernel, by decide, ⟨_, rfl, by decide⟩, ⟨_, rfl, by decide +kernel⟩, by decide, ⟨_, rfl, by decide +kernel⟩⟩
theorem witness_FlashChanges :
    ∃ t, exec .operationCompletion (flying programming up) = .next t ∧
      t.flash.read 255 ≠ (flying programming up).flash.read 255 := ⟨_, rfl, by decide +kernel⟩
theorem witness_WriteEnableLatch :
    (∃ t, exec (.writeEnable [] []) up = .next t ∧ up.bp.wel = false ∧ t.bp.wel = true) ∧
    ∃ t, exec (.writeDisable [] []) { up with bp.wel := true } = .next t ∧ t.bp.wel = false :=
  ⟨⟨_, rfl, by decide, by decide +kernel⟩, ⟨_, rfl, by decide +kernel⟩⟩
/-- A boot scan that folds the event of a failed scan of slot A, which is on trial, into lane 0. -/
def bootFold : State :=
  { provisioned with
    store.slotRecord := some ⟨.a, .trial 2, .fallback⟩
    tu := .afterReset
    socRun := false
    isc :=
      { SlotController.afterReset with
        stage := .failureFold
        bootX := .a
        bootXTrial := true
        scan := { ScanRecord.afterReset with slot := .a, phase := .ended, result := some (.failure .badMagic 0) } }
    lanes :=
      { Lane.afterReset with extending := some ⟨zeros 32, ⟨sha256 [0, 1], .scanFailure, 1⟩⟩ } ::
        List.replicate 7 Lane.afterReset
    de.scan := some (bufferItem .bootExtend (zeros 32 ++ sha256 [0, 1]))
    de.absorbing := some .scan }

/-- The released secret of a record bound to the values of lanes 0 and 7. -/
def releasedSecret : State :=
  { owned (.lanes 0x81 (sha256 (zeros 64))) with
    mc.response := some ⟨[5, 0, 0x51, 0, 31, 3, 1, 0x5A], false, true, some 0x81, some 0⟩
    mc.scrubTimer := some 50 }

theorem witness_invariants_of_a_boot_scan :
    slotOk bootFold = true ∧ bootOk bootFold = true ∧ blankOk bootFold = true ∧ floorGuarded bootFold = true ∧
      keysOk bootFold = true ∧ foldsOk bootFold = true ∧ lanesOk bootFold = true ∧
      ∃ t, step { bootFold with pending := [.chunkEnd] } = .next t := by
  refine ⟨?_, ?_, ?_, ?_, ?_, ?_, ?_, _, rfl⟩ <;> decide +kernel
/-- The FAILED record of that scan's slot in hand, and the same record in hand where no step waits for it. -/
def bootWriting (stage : BootStage) : State :=
  { bootFold with
    store.slotRecord := some ⟨.a, .valid, .empty⟩
    isc.stage := stage
    de := .afterReset
    lanes := List.replicate 8 .afterReset
    writes.current := some ⟨.slotController, .slotRecord ⟨.a, .failed, .empty⟩⟩ }

theorem witness_invariants_of_a_boot_write :
    slotOk (bootWriting .failedWrite) = true ∧ bootOk (bootWriting .failedWrite) = true ∧
      blankOk (bootWriting .failedWrite) = true ∧ floorGuarded (bootWriting .failedWrite) = true ∧
      slotOk (bootWriting .failureDigest) = false ∧
      ∃ t, step { bootWriting .failedWrite with pending := [.storeWriteEnd] } = .next t := by
  refine ⟨?_, ?_, ?_, ?_, ?_, _, rfl⟩ <;> decide +kernel
theorem witness_policy_of_a_secret_response :
    policyOk releasedSecret = true ∧ directoryOk releasedSecret = true ∧ foldsOk releasedSecret = true ∧
      slotOk releasedSecret = true ∧ lanesOk releasedSecret = true ∧ bootOk releasedSecret = true ∧
      floorGuarded releasedSecret = true ∧ secretOk releasedSecret = true ∧
      (∃ t, exec (.managementFetch 8) releasedSecret = .next t) ∧
      policyOk { releasedSecret with isc.boot.outcome := .recovery } = false := by
  refine ⟨?_, ?_, ?_, ?_, ?_, ?_, ?_, ?_, ⟨_, rfl⟩, ?_⟩ <;> decide +kernel

/-- A wrong proof under digest while a slot record is being written, and the count's write then waiting. -/
def wrongProof : State :=
  { owned .none with
    mc.state := .working (.gateDigest .releaseOwnership)
    de.channel := some (bufferItem .ownerProof (1 :: zeros 31))
    de.absorbing := some .channel
    writes.current := some ⟨.slotController, .slotRecord ⟨.a, .valid, .empty⟩⟩ }
def writeWaiting : State :=
  { wrongProof with
    mc.state := .working (.gateWrite .releaseOwnership false)
    de.channel := none
    de.absorbing := none
    writes.waiting := some ⟨.channel, .failures 1⟩ }

theorem witness_StoreChanges_waiting :
    wrongProof.writes.current.isSome = true ∧ (1 :: zeros 31).length = 32 ∧
      wrongProof.store.verifier ≠ some (sha256 (1 :: zeros 31)) ∧
      writeWaiting.writes = ⟨wrongProof.writes.current, some ⟨.channel, .failures 1⟩⟩ ∧
      (∀ f, writeWaiting.mc.state ≠ .working (.restart f)) ∧
      ({ writeWaiting with mc.state := .working (.restart none) } : State).fp.op = none ∧ up.pending = [] := by
  refine ⟨?_, ?_, ?_, ?_, fun f => ?_, ?_, ?_⟩
  case refine_5 => simp [writeWaiting]
  all_goals decide +kernel

theorem witness_Lookup_mapped :
    1 < stagingTable.length ∧ ∀ i, i < 1 →
      ((0xFFFF : LogicalAddress).toNat < (stagingTable.getD 0 .held).stop * 4096) := by decide
theorem witness_Lookup_unmapped :
    ∀ i, i < stagingTable.length → (stagingTable.getD i .held).stop * 4096 ≤ (0x10000 : LogicalAddress).toNat := by
  decide
theorem witness_PhysicalAddress :
    (lookup stagingTable 0xFFFF).isSome = true ∧ (lookup identityTable 0xFFFFFF).isSome = true ∧
    (lookup [installedRegion 1 .active rightsAll 0] 0xFFF).isSome = true ∧
    (lookup [installedRegion 1 .none .empty 0] 0).isSome = true := by decide
theorem witness_IdentityTable : up.tu.table = identityTable := by decide
theorem witness_RecoveryTable :
    map18.valid = true ∧ (0x0FFFFF : LogicalAddress).toNat < map18.recoveryLength * 65536 ∧
    map18.recoveryLength * 65536 ≤ (0x100000 : LogicalAddress).toNat ∧
    (0x6FFFFF : LogicalAddress).toNat < (map18.recoveryLength + map18.slotLength) * 65536 ∧
    (map18.recoveryLength + map18.slotLength) * 65536 ≤ (0x700000 : LogicalAddress).toNat := by decide
theorem witness_RestrictRegion :
    channelFree up = true ∧ requestWellFormed none [15, 7] = true ∧ (byteAt [15, 7] 0).toNat ≤ 15 ∧
      (byteAt [15, 7] 1).toNat ≤ 7 ∧ 15 < (byteAt [16, 7] 0).toNat ∧ 7 < (byteAt [15, 8] 1).toNat ∧
      requestWellFormed none (zeros 259) = true ∧ (zeros 259).length ≠ 2 := by decide +kernel

/-- A READ at logical address 0 in progress. -/
def reading : State :=
  { up with bp.readTxn := some ⟨up.tu.table, up.tu.selector, 0, true, true, true, .io1, 8⟩ }

theorem witness_RestrictRegion_under_a_read :
    reading.rstLow = false ∧ reading.bp.readTxn.isSome = true ∧ reading.bp.fetchTxn = none ∧ reading.mc.state = .idle ∧
      requestWellFormed none [0, 1] = true ∧ (1 : Byte).getLsbD 0 = true ∧
      (translate reading.tu.table reading.tu.selector reading.store.slotMap 0xFFFFFF).map (fun x => x.1.index) =
        some (0 : Byte).toNat := by decide

theorem witness_PowerOnAndPinReset :
    up.rstLow = false ∧ up.store.failures ≠ 8 ∧
      ({ up with store.failures := 8 } : State).store.failures = 8 ∧ ({ up with rstLow := true } : State).rstLow = true ∧
      busy.writes.current.isSome = true ∧ (busy.fp.op.map FlightOp.phase) = some .running := by decide
theorem witness_Preparation :
    State.reset.fp.prep = .recovery ∧
    ({ State.reset with fp.prep := .identifying } : State).store.lifecycle = .blank ∧
      enginesFree State.reset = true ∧ flashIdle State.reset = true ∧ State.reset.fp.prep ≠ .identifying := by decide
theorem witness_Restart :
    channelFree up = true ∧ requestWellFormed none [] = true ∧ requestWellFormed none (zeros 259) = true ∧
      up.fp.op = none ∧ up.writes.current = none := by decide +kernel

/-- A part that waits for its restart. -/
def restarting (s : State) : State := { s with mc.state := .working (.restart none) }

theorem witness_restart_due :
    restartDue (restarting up) = true ∧ restartDue State.reset = false ∧
      ({ restarting up with bp.writeRecord := .deciding ⟨.chipErase, 0, []⟩ } : State).mc.state =
        .working (.restart none) ∧ restartDue (restarting busy) = false := by decide

theorem witness_Restart_waiting :
    (restarting busy).mc.state = .working (.restart none) ∧
      ({ up with mc.state := .working (.restart (some 4)) } : State).mc.state = .working (.restart (some 4)) ∧ (restarting { busy with fp.op := none }).fp.op = none ∧
      (restarting busy).writes.current.isSome = true ∧
      (restarting (flying erasing up)).fp.op = some erasing ∧ erasing.phase = .running ∧ erasing.kind ≠ .eraseSeries ∧
      up.flash.present = true ∧ up.writes.current = none ∧
      15 ≤ (⟨.eraseSeries, List.replicate 16 0, [], 15, .running, 0⟩ : FlightOp).index := by decide

/-- A provisioned part whose identification read is in progress. -/
def booting (r : SlotRecord) : State :=
  { provisioned with
    fp.prep := .identifying
    store.slotRecord := some r
    isc.stage := .idle
    socRun := false }

theorem witness_BootScanFirstStep (r : SlotRecord) :
    (booting r).fp.prep = .identifying ∧ (booting r).store.lifecycle ≠ .blank ∧
      (booting r).store.slotRecord = some r ∧ (booting r).store.slotMap = some map18 ∧
      enginesFree (booting r) = true ∧ flashIdle (booting r) = true ∧ storeFree (booting r) = true ∧
      busFree (booting r) = true ∧ (booting r).mc.state = .idle :=
  ⟨rfl, by simp [booting, provisioned], rfl, rfl, rfl, rfl, rfl, rfl, rfl⟩
theorem witness_BootScanFirstStep_rows :
    (⟨.a, .trial 1, .fallback⟩ : SlotRecord).stateOf .a = .trial (0 + 1) ∧
      (⟨.b, .fallback, .trial 0⟩ : SlotRecord).stateOf .b = .trial 0 ∧
      (⟨.b, .fallback, .trial 0⟩ : SlotRecord).stateOf .a = .fallback ∧
      (⟨.b, .empty, .trial 0⟩ : SlotRecord).stateOf .a ≠ .fallback ∧
      isTrial ((⟨.a, .valid, .empty⟩ : SlotRecord).stateOf .a) = false := by decide
/-- A slot record write of the boot scan in progress. -/
def writingRecord : State :=
  { provisioned with writes.current := some ⟨.slotController, .slotRecord ⟨.b, .valid, .empty⟩⟩ }

/-- A boot scan between its steps, at a stage, with a digest item in absorption. -/
def folding (stage : BootStage) (item : DigestItem) : State :=
  { booting ⟨.a, .trial 2, .fallback⟩ with
    fp.prep := .ready
    isc.stage := stage
    isc.scan.result := some (.failure .segmentMismatch 7)
    de.scan := some item
    de.absorbing := some .scan
    lanes := List.replicate 8
      { Lane.afterReset with extending := some ⟨zeros 32, ⟨zeros 32, .scanFailure, 0⟩⟩ } }

theorem witness_BootWritesEnd_free :
    busFree writingRecord = true ∧ flashIdle writingRecord = true ∧ writingRecord.de.channel = none ∧
      writingRecord.su.scan = none ∧ writingRecord.su.channel = none ∧ writingRecord.writes.waiting = none ∧
      writingRecord.store.slotMap = some map18 ∧ writingRecord.lanes.length = 8 ∧ writingRecord.de.scan = none ∧
      writingRecord.de.absorbing = none ∧ writingRecord.mc.state = .idle ∧ writingRecord.cred = none ∧
      writingRecord.mc.response = none ∧
      writingRecord.writes.current = some ⟨.slotController, .slotRecord ⟨.b, .valid, .empty⟩⟩ := by decide
theorem witness_BootWritesEnd_reset :
    ∃ t, exec .powerOn { provisioned with store.failures := 8 } = .next t ∧ enginesFree t = true ∧ flashIdle t = true ∧
      busFree t = true ∧ t.writes = ⟨some ⟨.partReset, .lockoutLowering⟩, none⟩ ∧
      t.mc.state = .working .resetWrite := ⟨_, rfl, by decide +kernel⟩
theorem witness_BootWritesEnd_digests (stage : BootStage) (item : DigestItem) :
    busFree (folding stage item) = true ∧ flashIdle (folding stage item) = true ∧
      (folding stage item).de.channel = none ∧ (folding stage item).su.scan = none ∧
      (folding stage item).su.channel = none ∧ (folding stage item).writes = ⟨none, none⟩ ∧
      (folding stage item).store.slotMap = some map18 ∧ (folding stage item).lanes.length = 8 ∧
      (folding stage item).mc.state = .idle ∧ (folding stage item).cred = none ∧
      (folding stage item).mc.response = none ∧
      (folding stage item).store.slotRecord = some ⟨.a, .trial 2, .fallback⟩ ∧
      (folding stage item).de.absorbing = some .scan ∧ (folding stage item).isc.stage = stage ∧
      (folding stage item).de.scan = some item ∧
      ((folding stage item).lanes.getD 7 .afterReset).extending = some ⟨zeros 32, ⟨zeros 32, .scanFailure, 0⟩⟩ ∧
      ((folding stage item).lanes.getD 0 .afterReset).log.length < 16 ∧
      (folding stage item).isc.scan.result = some (.failure .segmentMismatch 7) :=
  ⟨rfl, rfl, rfl, rfl, rfl, rfl, rfl, rfl, rfl, rfl, rfl, rfl, rfl, rfl, rfl, rfl, show ([] : List LogRecord).length < 16 by decide, rfl⟩
theorem witness_BootWritesEnd_failure_rows :
    (⟨.a, .trial 2, .fallback⟩ : SlotRecord).stateOf .b = .fallback ∧
      (⟨.a, .failed, .empty⟩ : SlotRecord).stateOf .a = .failed ∧ (⟨.a, .valid, .empty⟩ : SlotRecord).stateOf .a ≠ .failed ∧
      (zeros 32).length + (zeros 32).length = 64 := by decide

theorem witness_Reads :
    busFree up = true ∧ up.fp.op = none ∧ restartDue up = false ∧ restartDue (restarting up) = true ∧
      (receivedBytes .single (sent [0, 0, 0])).length = 3 ∧ (receivedBytes .single (sent [0, 0, 0, 0])).length = 4 ∧
      (receivedBytes .single ((sent [0, 0, 0]).dropLast)).length < 3 := by decide +kernel
theorem witness_Reads_preempting :
    verifying.fp.chunk = some ⟨.stagedScan, 0x600000, 544, true⟩ ∧ busFree verifying = true ∧ verifying.fp.op = none ∧
      (translate verifying.tu.table verifying.tu.selector verifying.store.slotMap (addressOf [0, 0, 0])).map
        (fun x => x.1.region.live.r) = some true := by decide +kernel

theorem witness_ReadTransactionEnd :
    reading.fp.op = none ∧ restartDue reading = false ∧ reading.bp.readTxn.map ReadTxn.streaming = some true ∧
      reading.bp.readTxn.map ReadTxn.dataPhase = some true ∧ up.bp.readTxn = none ∧
      (⟨up.tu.table, .a, 0, false, false, false, .io1, 0⟩ : ReadTxn).holdsFlash = false ∧
      (⟨up.tu.table, .a, 0, false, true, false, .io1, 0⟩ : ReadTxn).streaming = false := by decide
theorem witness_ReadSuspends :
    busFree (flying erasing up) = true ∧ erasing.phase = .running ∧
      3 ≤ (receivedBytes .single (sent [0, 0, 0])).length ∧
      ((translate up.tu.table up.tu.selector up.store.slotMap (addressOf [0, 0, 0])).map fun x =>
        (x.2, x.1.region.live.r)) = some (0, true) ∧ up.flash.present = true ∧
      (⟨.eraseSeries, List.replicate 16 0, [], 14, .running, 0⟩ : FlightOp).index < 15 ∧
      (restarting (flying erasing up)).writes.current = none ∧
      ([⟨1, 0x7F⟩] : SuspendReply).all (fun q => !q.suspended.getLsbD 7 && q.busy.getLsbD 0) = true ∧
      (0x80 : Byte).getLsbD 7 = true ∧ (0 : Byte).getLsbD 0 = false := by decide +kernel
theorem witness_ReadSuspends_fast_and_quad :
    4 ≤ (receivedBytes .single (sent [0, 0x10, 0, 9])).length ∧ erasing.target = (addressOf [0, 0x10, 0]).toNat ∧
      busFree (flying programming up) = true ∧ programming.target = (addressOf [0, 0, 0]).toNat ∧
      (⟨0, 0⟩ : StatusPair).suspended.getLsbD 7 = false := by decide +kernel

/-- A program SUSPENDED, or held back QUEUED, by the read in progress at its page. -/
def heldUnderRead (phase : OpPhase) : State :=
  { reading with fp.op := some { programming with phase := phase }, bp.writeRecord := .inFlight }

/-- A table whose first sector is unmapped and whose next ones are the flash's. -/
def gapTable : List Region :=
  installedRegion 1 .none .empty 0 :: List.replicate 15 (installedRegion 4096 .direct rightsAll 0)

/-- A sector erase RUNNING beside a read that stands at the last byte of the unmapped sector. -/
def besideRunning : State :=
  { flying erasing up with
    tu.table := gapTable
    bp.readTxn := some ⟨gapTable, .a, 0xFFF, true, true, false, .io1, 8⟩ }

theorem witness_ReadTransactionEnd_running :
    besideRunning.fp.op = some erasing ∧ besideRunning.fp.run = none ∧
      besideRunning.bp.readTxn.any (fun x => x.streaming && x.dataPhase && !x.holdsFlash) = true ∧
      bytesBegun .io1 (8 + 8) - bytesBegun .io1 8 = 1 ∧ bytesBegun .io1 (8 + 16) - bytesBegun .io1 8 = 2 ∧
      translate gapTable .a none 0xFFF = none ∧
      (translate gapTable .a none 0x1000).map (fun x => (x.2, x.1.region.live.r)) = some (0, true) ∧
      ({ restarting besideRunning with writes := ⟨none, none⟩ } : State).writes.current = none := by decide +kernel
theorem witness_suspendAnswer :
    suspendAnswer up [⟨1, 0⟩, ⟨1, 0x80⟩] [⟨1, 0⟩] ⟨1, 0x80⟩ ∧ suspendAnswer up [⟨0, 0⟩] [] ⟨0, 0⟩ ∧
      suspendAnswer { up with flash.present := false } [⟨0, 0⟩] [] ⟨0xFF, 0xFF⟩ := by
  simp only [suspendAnswer]; decide
theorem witness_ReadSuspends_late_and_with_a_write :
    busFree { flying erasing up with tu.table := gapTable } = true ∧
      (addressOf [0, 0x0F, 0xFF]) = 0xFFF ∧ (receivedBytes .single (sent [0, 0x0F, 0xFF])).length = 3 ∧
      busFree (restarting { busy with fp.op := some erasing }) = true ∧
      (restarting { busy with fp.op := some erasing }).writes.current.isSome = true ∧
      (translate busy.tu.table busy.tu.selector busy.store.slotMap 0).map (fun x => x.1.region.live.r) = some true := by
  decide +kernel
theorem test_end_of_a_read_suspends_at_the_first_readable_byte :
    after (exec (.readTransactionEnd 16 ended) besideRunning) (fun t => (t.fp.op, t.fp.sent)) =
      some (none, [.suspend, .readBusy, .readSuspended, .read 0]) := by decide +kernel
theorem witness_ReadTransactionEnd_held :
    [OpPhase.suspended, .queued].all (fun phase =>
      (heldUnderRead phase).fp.op.any (fun o => decide (o.phase ≠ .running)) &&
        (heldUnderRead phase).bp.readTxn.any fun x => x.streaming && x.dataPhase && x.holdsFlash) = true := by decide
theorem witness_free_bus : busFree up = true ∧ busFree { up with bp.resetEnable := true } = true := by decide
theorem witness_LaneModes :
    onBoundary .single [] = true ∧ onBoundary .single (sent [7]) = true ∧ commandByte .single (sent [0x06, 7]) =
      some (0x06, sent [7]) ∧ busCommandOfByte 0x06 = some .writeEnable := by decide
theorem witness_PortReset :
    beginsTransaction (.readStatus 8) = true ∧ spells .single (.readStatus 8) = some (.readStatus, []) ∧
      beginsTransaction (.getInfo none []) = true ∧ spells .single (.getInfo none []) = none ∧
      beginsTransaction (.ignoredTransaction ⟨sent [0x38], shown⟩) = true ∧
      spells .single (.ignoredTransaction ⟨sent [0x38], shown⟩) = some (.enterQuadAll, []) := by decide
theorem witness_NotTaken :
    ({ up with rstLow := true } : State).rstLow = true ∧ beginsTransaction (.readId 0) = true ∧
      (receivedBytes .single (sent [0, 0])).length < 3 ∧ (receivedBytes .single (sent [0, 0, 0])).length < 4 ∧
      up.bp.wel = false ∧ onBoundary .single [0] = false ∧ commandByte .single (List.replicate 7 0) = none ∧
      commandByte .single (sent [0x90]) = some (0x90, []) ∧ busCommandOfByte 0x90 = none := by decide +kernel
theorem witness_ProgramsAndErases :
    busFree { up with bp.wel := true } = true ∧ up.bp.writeRecord = .none ∧
      onBoundary .single (sent [0, 0, 0, 0]) = true ∧ (receivedBytes .single (sent [0, 0, 0, 0])).length = 4 := by
  decide +kernel

/-- A program of the first page whose every byte is 0. -/
def aProgram : TakenCommand := ⟨.program, 0x0000FF, List.replicate 256 (some 0)⟩

/-- An erase of the block at a logical address. -/
def aBlockErase (a : LogicalAddress) : TakenCommand := ⟨.blockErase, a, List.replicate 256 none⟩

theorem witness_VerdictOnOneUnit :
    (deciding aProgram up).bp.writeRecord = .deciding aProgram ∧
      (translate identityTable .a none 0).map (fun x => (x.2, x.1.region.live.p)) = some (0, true) ∧
      translate heldTable .a none 0 = none ∧
      (translate [installedRegion 1 .direct rightsReadOnly 0] .a none 0).map (fun x => x.1.region.live.p) =
        some false ∧
      (translate stagingTable .a (some map18) 0).map (fun x => (x.2, x.1.region.target, x.1.region.live.p)) =
        some (0x600000, .staging, true) := by decide +kernel
theorem witness_verdicts_before_a_restart_is_due :
    restartDue (deciding aProgram up) = false ∧ restartDue (deciding aProgram verifying) = false ∧
      restartDue { up with bp.wel := true } = false := by decide
theorem witness_VerdictOnOneUnit_preempting :
    flashHeld (deciding aProgram up) = false ∧ up.de.scan = none ∧
      ({ up with fp.chunk := some ⟨.stagedScan, 0, 256, true⟩ } : State).fp.chunk.map ChunkRequest.reading = some true := by
  decide
theorem witness_VerdictOnBlockErase :
    (∀ k, k < 16 → ∃ st, checkUnit up.tu none .closed .sectorErase (BitVec.ofNat 24 (0xFF0000 + 4096 * k)) =
      .ok (0xFF0000 + 4096 * k, st)) ∧
    checkUnit { up.tu with table := heldTable } none .closed .sectorErase 0 = .error .unmapped := by
  refine ⟨?_, by decide⟩
  intro k hk
  refine ⟨false, ?_⟩
  interval_cases k <;> rfl
theorem witness_StagingWrite :
    (deciding aProgram verifying).bp.writeRecord = .deciding aProgram ∧ verifying.isc.staging.state = .verifying ∧
      (translate verifying.tu.table verifying.tu.selector verifying.store.slotMap 0).map
        (fun x => (x.1.region.target, x.1.region.live.p)) = some (.staging, true) ∧
      ((List.range 16).all fun k =>
        (translate verifying.tu.table verifying.tu.selector verifying.store.slotMap (BitVec.ofNat 24 (4096 * k))).any
          fun x => x.1.region.live.e && decide (x.1.region.target = .staging)) = true := by decide +kernel
theorem witness_RunningCommand :
    (flying erasing up).fp.op = some erasing ∧ erasing.phase = .running ∧ up.flash.present = true ∧
      ({ flying erasing up with flash.present := false } : State).flash.present = false ∧ up.fp.op = none := by decide


/-! #### The Management Channel -/

theorem witness_PostOfFrame :
    requestWellFormed (some (zeros 32)) (zeros 256) = true ∧ requestWellFormed none (zeros 288) = true ∧
      up.bp.readTxn = none ∧ up.bp.fetchTxn = none ∧
      receivedBytes .single (sent (requestFrame .getInfo none [] ++ [9])) = requestFrame .getInfo none [] ++ [9] := by
  decide +kernel
theorem witness_PostOfFrame_under_a_read :
    reading.rstLow = false ∧ reading.bp.readTxn.isSome = true ∧ reading.bp.fetchTxn = none := by decide
theorem witness_UnfitPosts :
    frameLength [1, 0, 1, 0] < 2 ∧ 290 < frameLength [0x23, 1] ∧ ([2, 0, 1] : Bytes).length < 2 + frameLength [2, 0, 1] ∧
      channelFree up = true ∧ frameLength [2, 0, 1, 2] + 2 = ([2, 0, 1, 2] : Bytes).length ∧
      1 < (byteAt [2, 0, 1, 2] 3).toNat ∧ frameLength ([0x22, 1] ++ zeros 290) + 2 = ([0x22, 1] ++ zeros 290).length ∧
      allRequests.all (fun r => requestCode r != byteAt [2, 0, 0x55, 0] 2) = true := by decide +kernel

/-- A part with a five-byte response waiting. -/
def answering : State := { up with mc.response := some ⟨[3, 0, 0x04, 0, 0x0F], false, false, none, none⟩ }

theorem witness_Fetch :
    busFree answering = true ∧ (answering.mc.response.map fun r => (r.frame.length, r.secret)) = some (5, false) ∧
      wholeBytes .io1 (39 + 0) < 5 ∧ 5 ≤ wholeBytes .io1 (39 + 1) ∧ busFree secretWaiting = true ∧
      (secretWaiting.mc.response.map fun r => (r.frame.length, r.secret)) = some (5, true) := by decide
theorem witness_SecretResponseExpires :
    secretWaiting.mc.scrubTimer = some 50 ∧ secretWaiting.mc.response.any (·.secret) = true ∧
      up.mc.scrubTimer = none ∧ (⟨some 5, false, 7⟩ : FetchTxn).fixedLength.isSome = true := by decide
theorem witness_Reports :
    channelFree provisioned = true ∧ requestWellFormed none [] = true ∧ provisioned.store.lifecycle ≠ .blank ∧
      provisioned.store.identity.isSome = true ∧
      ({ provisioned with store.endorsement := .complete 1 [7] } : State).store.endorsement = .complete 1 [7] ∧
      provisioned.store.endorsement = .absent ∧ up.store.lifecycle = .blank ∧ up.store.identity = none ∧
      (7 : Byte).toNat ≤ 7 ∧ 7 < (8 : Byte).toNat ∧ requestWellFormed none (zeros 259) = true := by decide +kernel
theorem witness_ClearEvents :
    channelFree up = true ∧ requestWellFormed none [7] = true ∧ (7 : Byte).toNat ≤ 7 ∧ (7 : Byte).getLsbD 1 = true ∧
      (5 : Byte).getLsbD 1 = false ∧ 7 < (8 : Byte).toNat ∧ (15 : Byte).toNat ≤ 15 ∧ 15 < (16 : Byte).toNat := by
  decide

/-! #### Updates, provisioning, ownership -/

theorem witness_StagingRequests :
    ready provisioned = true ∧ provisioned.store.lifecycle ≠ .blank ∧ provisioned.socRun = true ∧
      provisioned.store.slotMap = some map18 ∧ provisioned.isc.staging.state = .closed ∧
      (slotRecordOf provisioned).stateOf provisioned.tu.selector.other = .empty ∧
      ready { provisioned with isc.staging.state := .opened } = true ∧
      channelFree verifying = true ∧ verifying.isc.staging.state = .verifying := by decide
theorem witness_CommitAndConfirm :
    ready { provisioned with isc.staging.state := .verified } = true ∧
      (⟨.a, .valid, .empty⟩ : SlotRecord).stateOf .a = .valid ∧ requestWellFormed none [8] = true ∧
      provisioned.isc.boot.outcome = .pass ∧ isTrial ((⟨.a, .trial 3, .fallback⟩ : SlotRecord).stateOf .a) = true ∧
      provisioned.store.floor = some 2 ∧ (2 : Word32) < 3 ∧ provisioned.isc.boot.version = some 2 := by decide
/-- Bodies of a wrong length, and the states whose check comes before the length. -/
theorem witness_refused_bodies :
    channelFree up = true ∧ channelFree provisioned = true ∧ channelFree (owned .none) = true ∧
      requestWellFormed none (zeros 259) = true ∧ requestWellFormed none [] = true ∧ (zeros 259) ≠ [] ∧
      [0, 1, 2, 4, 32, 33, 37, 65].all (fun n => decide ((zeros 259).length ≠ n)) = true ∧ up.store.identity = none ∧
      provisioned.store.identity.isSome = true ∧ byteAt (zeros 33) 32 = 0 ∧ (zeros 33).length = 33 ∧
      up.store.lifecycle = .blank ∧ provisioned.store.lifecycle = .provisioned ∧ (owned .none).store.lifecycle = .owned :=
  by decide +kernel
theorem witness_FinishProvisioning_refused :
    (∀ declared bytes, provisioned.store.endorsement ≠ .part declared bytes) ∧
      ({ provisioned with store.lifecycle := .blank } : State).store.lifecycle = .blank ∧
      provisioned.store.slotMap.isSome = true ∧ ∃ key, .active key ∈ provisioned.store.keys :=
  ⟨by intro _ _; simp [provisioned, Store.delivered], rfl, rfl, someKey, by simp [provisioned]⟩

/-- A BLANK part with an identity key and the first part of an endorsement of 300 bytes. -/
def halfEndorsed : State :=
  { up with
    store.identity := some ⟨1, someKey⟩
    store.endorsement := .part 300 (zeros 256) }

theorem witness_ProvisioningWrites_refused :
    ready halfEndorsed = true ∧ halfEndorsed.store.lifecycle = .blank ∧ up.store.identity = none ∧
      ([0, 1] : Bytes).length < 3 ∧ 1 < (byteAt [2, 1, 0, 9] 0).toNat ∧ leAt [0, 0, 0] 1 2 = 0 ∧
      512 < leAt [0, 1, 2, 9] 1 2 ∧ ([0, 2, 0, 9] : Bytes).length - 3 ≠ min 256 (leAt [0, 2, 0, 9] 1 2) ∧
      leAt [1, 0, 1] 1 2 ≤ 256 ∧ leAt [1, 1, 1, 9] 1 2 = 257 ∧ ([1, 1, 1, 9] : Bytes).length - 3 = 257 - 256 ∧
      (∀ first, halfEndorsed.store.endorsement ≠ .part 257 first) ∧ 3 < (byteAt (4 :: someKey) 0).toNat ∧
      (4 :: someKey).length = 65 := by
  refine ⟨?_, ?_, ?_, ?_, ?_, ?_, ?_, ?_, ?_, ?_, ?_, fun first => ?_, ?_, ?_⟩
  case refine_12 => simp [halfEndorsed]
  all_goals decide +kernel
theorem test_quote_without_a_key_or_lanes :
    after (exec (.quote none []) up) (fun t => t.mc.response.map (·.frame)) = some (some [2, 0, 0x21, 0x13]) ∧
      after (exec (.quote none (zeros 33)) provisioned) (fun t => t.mc.response.map (·.frame)) =
        some (some [2, 0, 0x21, 0x12]) := by decide +kernel
theorem witness_StagingRequests_refused :
    channelFree up = true ∧ up.store.lifecycle = .blank ∧ requestWellFormed none (zeros 259) = true ∧
      (zeros 259) ≠ [] ∧ channelFree (booting ⟨.a, .valid, .empty⟩) = true ∧
      (booting ⟨.a, .valid, .empty⟩).socRun = false ∧
      (⟨.a, .trial 2, .fallback⟩ : SlotRecord).stateOf provisioned.tu.selector.other = .fallback ∧
      channelFree provisioned = true ∧ provisioned.store.lifecycle ≠ .blank ∧
      (⟨.a, .valid, .rejected⟩ : SlotRecord).stateOf provisioned.tu.selector.other = .rejected := by decide +kernel
theorem witness_CommitAndConfirm_refused :
    provisioned.isc.staging.state ≠ .verified ∧ up.isc.boot.outcome ≠ .pass ∧
      (⟨.a, .trial 2, .fallback⟩ : SlotRecord).stateOf .a ≠ .valid ∧
      (⟨.a, .trial 2, .fallback⟩ : SlotRecord).stateOf .a ≠ .failed ∧
      provisioned.isc.boot.slot ≠ (⟨.b, .fallback, .trial 2⟩ : SlotRecord).active ∧
      isTrial ((⟨.a, .valid, .empty⟩ : SlotRecord).stateOf .a) = false ∧ ([] : Bytes).length ≠ 1 ∧
      provisioned.isc.boot.slot = (⟨.a, .trial 2, .fallback⟩ : SlotRecord).active := by decide
/-- The slot map of 1.8 as the body of LOAD_SLOT_MAP, and one whose slot B and recovery area share unit 191. -/
theorem witness_ProvisioningWrites_slot_map :
    let body : Bytes := [0, 0, 96, 0, 96, 192, 0, 16]
    leAt body 0 2 = 0 ∧ leAt body 2 2 = 96 ∧ (byteAt body 4).toNat = 96 ∧ leAt body 5 2 = 192 ∧
      (byteAt body 7).toNat = 16 ∧ (∀ u, ¬ (0 ≤ u ∧ u < 0 + 96 ∧ 96 ≤ u ∧ u < 96 + 96)) ∧
      (∀ u, ¬ (0 ≤ u ∧ u < 0 + 96 ∧ 192 ≤ u ∧ u < 192 + 16)) ∧
      (∀ u, ¬ (96 ≤ u ∧ u < 96 + 96 ∧ 192 ≤ u ∧ u < 192 + 16)) ∧
      leAt [0, 0, 96, 0, 96, 191, 0, 16] 5 2 = 191 ∧ (96 ≤ 191 ∧ 191 < 96 + 96 ∧ 191 ≤ 191 ∧ 191 < 191 + 16) :=
  ⟨by decide, by decide, by decide, by decide, by decide, fun u => by omega, fun u => by omega, fun u => by omega,
    by decide, by decide⟩
theorem witness_ProvisioningWrites :
    ready up = true ∧ up.store.keys.length = 4 ∧
      (byteAt (3 :: someKey) 0).toNat ≤ 3 ∧ leAt [0, 2, 0, 7, 8] 1 2 ≤ 512 ∧
      (([0, 2, 0, 7, 8] : Bytes).drop 3).length = min 256 (leAt [0, 2, 0, 7, 8] 1 2) ∧
      leAt [1, 1, 1, 9] 1 2 = 257 ∧ (([1, 1, 1, 9] : Bytes).drop 3).length = 257 - 256 ∧
      provisioned.store.identity.isSome = true := by decide
theorem witness_GenerateIdentity : ready up = true ∧ up.store.lifecycle = .blank := by decide
theorem witness_FinishProvisioning :
    ready { provisioned with store.lifecycle := .blank } = true ∧ provisioned.store.slotMap.isSome = true ∧
      provisioned.store.keys.any keyActive = true ∧ up.store.slotMap.isSome = false := by decide
theorem witness_TakeOwnership :
    ready provisioned = true ∧ provisioned.store.lifecycle = .provisioned ∧ requestWellFormed none (zeros 32) = true := by
  decide

theorem witness_GatedRequests :
    ready (owned .none) = true ∧ proofRight (owned .none) (zeros 32) = true ∧ (owned .none).store.failures = 0 ∧
      (owned .none).store.keys.getD 3 .empty = .empty ∧ (owned .none).store.keys.getD 0 .empty = .active someKey ∧
      (owned .none).isc.boot.signer ≠ some 0 ∧ ((owned .none).store.keys.filter keyActive).length ≠ 1 ∧
      (credentialAt (owned .none).store.credentials 31).isSome = true := by decide +kernel
theorem witness_GatedRequests_store :
    storeBodyOf ([31, 3, 1, 1, 0, 0, 0, 1] ++ zeros 36 ++ [0xA5]) ⟨31, .tlsKey, false, true, .none, [0xA5]⟩ ∧
      requestWellFormed (some (zeros 32)) ([31, 3, 1, 1, 0, 0, 0, 1] ++ zeros 36 ++ [0xA5]) = true ∧
      directoryOk (owned .none) = true :=
  ⟨by unfold storeBodyOf; decide, by decide, by decide⟩
theorem witness_GatedRequests_store_bindings :
    storeBodyOf ([0, 0, 0, 0, 1, 0x81, 0, 1] ++ zeros 4 ++ List.replicate 32 7 ++ [1])
        ⟨0, .ownerPassphrase, true, false, .lanes 0x81 (List.replicate 32 7), [1]⟩ ∧
      storeBodyOf ([0, 0, 0, 0, 2, 0, 3, 1, 1, 2, 0, 0] ++ zeros 32 ++ [1])
        ⟨0, .ownerPassphrase, true, false, .signer 3 0x201, [1]⟩ :=
  ⟨by unfold storeBodyOf; decide, by unfold storeBodyOf; decide⟩
theorem witness_GatedRequests_store_refused : ∀ c, ¬ storeBodyOf [32] c := by
  intro c h
  have := h.2.1
  have := h.1
  simp [byteAt] at this
  omega
theorem witness_GatedRequests_refused :
    (owned .none).store.keys.getD 1 .empty ≠ .empty ∧ (owned .none).isc.boot.signer = some 1 ∧
      (([.active someKey, .empty, .revoked someKey, .empty] : List KeySlot).filter keyActive).length = 1 ∧
      credentialAt (owned .none).store.credentials 30 = none ∧
      (fullDirectory.store.credentials.map fun d => d.secret.length).sum + 1 = 2049 ∧
      proofRight fullDirectory (zeros 32) = true := by decide +kernel
theorem witness_OwnerGate :
    (owned .none).store.lifecycle = .owned ∧ (owned .none).store.verifier ≠ some (sha256 (1 :: zeros 31)) ∧
      (zeros 256).length ≤ 256 ∧ 7 < 8 ∧ ready { owned .none with store.failures := 8 } = true := by decide +kernel

/-! #### Credentials, lanes, quotes -/

theorem witness_CredentialUse :
    ready (owned (.signer 1 2)) = true ∧ (31 : Byte).toNat ≤ 31 ∧
      credentialAt (owned (.signer 1 2)).store.credentials 31 = some (plain (.signer 1 2)) ∧
      (owned (.signer 1 2)).isc.boot.outcome = .pass ∧ (owned (.signer 1 2)).isc.boot.signer = some 1 ∧
      (owned (.signer 1 2)).isc.boot.version = some 2 ∧ (plain (.signer 1 2)).secret.length ≤ 128 ∧
      credentialAt (owned .none).store.credentials 30 = none := by decide
theorem witness_CredentialUse_lanes :
    (plain (.lanes 0x81 (sha256 (zeros 64)))).binding = .lanes 0x81 (sha256 (zeros 64)) ∧
      (∀ k, k < 8 → ((owned .none).lanes.getD k .afterReset).value.length = 32) ∧ (0x81 : Byte) ≠ 0 := by decide +kernel

/-- A record with an owner gate. -/
def gatedRecord : Credential := { plain .none with gated := true }

theorem witness_CredentialUse_gated :
    gatedRecord.gated = true ∧ proofRight (owned .none) (zeros 32) = true ∧ (owned .none).store.failures = 0 ∧
      requestWellFormed (some (zeros 32)) (31 :: zeros 64) = true ∧ (zeros 64).length = 64 ∧
      (owned .none).store.verifier ≠ some (sha256 (1 :: zeros 31)) ∧ (plain .none).exportable = true := by decide +kernel
theorem witness_CredentialUse_counted :
    ready { owned .none with store.failures := 7 } = true ∧ 7 < 8 ∧ 7 ≠ 0 ∧
      (owned .none).store.verifier = some (sha256 (zeros 32)) := by decide +kernel
theorem witness_CredentialUse_refused :
    requestWellFormed none (zeros 66) = true ∧ 65 < (zeros 66).length ∧ (zeros 1).length < 2 ∧
      31 < (byteAt [32] 0).toNat ∧ up.store.lifecycle ≠ .owned ∧
      ({ plain .none with exportable := false } : Credential).exportable = false := by decide +kernel

/-- A derive in hand whose lane was extended. -/
def extended : State :=
  { owned .none with
    mc.state := .working .deriveDigest
    cred := some ⟨plain (.lanes 0x80 (zeros 32)), some (owned .none).isc.boot, some (zeros 32), true⟩
    de.channel := some (bufferItem .derive (zeros 256))
    de.absorbing := some .channel }

theorem witness_CredentialUse_extends :
    (beginExtend 7 ⟨zeros 32, .request, 0⟩ extended).isSome = true ∧
      (beginExtend 7 ⟨zeros 32, .request, 0⟩ secretWaiting).isSome = true ∧
      (0x80 : Byte).getLsbD 7 = true ∧ extended.cred.map CredWork.boundLaneExtended = some true ∧
      (zeros 256).length ≤ 256 := by decide +kernel
theorem witness_ExtendLane :
    ready up = true ∧ requestWellFormed none ([7] ++ zeros 32 ++ [1, 2, 3, 4]) = true ∧ 4 ≤ (7 : Byte).toNat ∧
      (up.lanes.getD 7 .afterReset).log.length < 16 ∧ up.lanes.length = 8 ∧
      16 ≤ (({ Lane.afterReset with log := List.replicate 16 ⟨zeros 32, .request, 0⟩ } : Lane)).log.length := by decide
theorem witness_Quote :
    ready provisioned = true ∧ requestWellFormed none (zeros 32 ++ [0xFF]) = true ∧
      provisioned.store.identity = some ⟨1, someKey⟩ ∧ (0xFF : Byte) ≠ 0 ∧
      ∀ k, k < 8 → (provisioned.lanes.getD k .afterReset).value.length = 32 := by decide

/-! #### Scans -/

theorem witness_ChunkedDigest :
    (zeros 257) ≠ [] ∧ 0 + 1 < chunkCount (zeros 257).length ∧ 1 + 1 = chunkCount (zeros 257).length ∧
      ({ up with
          de.absorbing := some .channel
          de.channel := some (bufferItem .quoteBody (zeros 257)) } : State).de.channel =
        some ((DigestItem.absorbed)^[0] (bufferItem .quoteBody (zeros 257))) := by decide +kernel
/-- A program that a read transaction holds back. -/
def queuedUnderRead : State :=
  { flying ⟨.program, [0], zeros 256, 0, .queued, 0⟩ up with
    bp.readTxn := some ⟨up.tu.table, up.tu.selector, 0, true, true, true, .io1, 0⟩ }

theorem witness_queueOk :
    queueOk queuedUnderRead = true ∧ flashHeld queuedUnderRead = true ∧ queueOk (flying erasing up) = true := by decide
theorem witness_ChunkedDigest_order :
    up.de.absorbing = none ∧ (segmentItem 700).kind = .segment ∧ (bufferItem .manifest (zeros 480)).kind = .buffer := by
  decide

/-- A manifest with one measured segment of one byte, an ACTIVE entry over the first block, and an all-zero signature:
format 1, signer slot 1, version 3, segment 0 at offset 1 sector of the slot. -/
def manifest1 : Bytes :=
  [0x46, 0x4D, 0x4E, 0x31, 1, 1, 1, 0] ++ [3, 0, 0, 0] ++ zeros 4 ++ zeros 16 ++
  ([16, 0, 2, 7, 0, 0, 0, 0] ++ (List.replicate 15 ([16, 0, 0, 0, 0, 0, 0, 0] : Bytes)).flatten) ++
  ([1, 0, 0xFF, 0, 1, 0, 0, 0] ++ sha256 [0x77] ++ zeros 280) ++ zeros 64

theorem witness_ManifestDelivery :
    enginesFree verifying = true ∧ busFree verifying = true ∧ verifying.fp.op = none ∧
      verifying.fp.chunk = some ⟨.stagedScan, 0x600000, 544, true⟩ ∧ verifying.isc.scan.phase = .manifestRead ∧
      verifying.isc.scan.owner = .stagedScan ∧ manifest1.length = 544 ∧
      manifest1.take 4 = [0x46, 0x4D, 0x4E, 0x31] ∧ formatOk manifest1 = true ∧
      verifying.store.keys.getD (byteAt manifest1 5).toNat .empty = .active someKey := by decide +kernel

/-- A boot scan of slot B in its manifest read. -/
def bootScanning : State :=
  { verifying with
    isc.scan.owner := .bootScan
    fp.chunk := some ⟨.bootScan, 0x600000, 544, true⟩ }

theorem witness_ManifestDelivery_of_a_boot_scan :
    enginesFree bootScanning = true ∧ busFree bootScanning = true ∧ bootScanning.fp.op = none ∧
      restartDue bootScanning = false ∧ bootScanning.isc.scan.phase = .manifestRead ∧
      bootScanning.fp.chunk = some ⟨bootScanning.isc.scan.owner, 0x600000, 544, true⟩ := by decide
theorem test_boot_scan_of_an_empty_slot_fails :
    after (exec .chunkDelivery bootScanning) (fun t => (t.isc.stage, t.de.scan, t.isc.staging.state, t.mc.flags.scanDone)) =
      some (.failureDigest, some (bufferItem .scanFailureEvent ([1, 1] ++ zeros 32)), .verifying, false) := by
  decide +kernel

/-- A scan of slot B at the last chunk of its manifest digest, for either owner. -/
def inManifestDigest (owner : ScanOwner) : State :=
  { verifying with
    fp.chunk := none
    isc.scan.owner := owner
    isc.scan.phase := .manifestDigest
    isc.scan.manifest := some manifest1
    isc.scan.signerKey := some someKey
    de.scan := some (DigestItem.absorbed (bufferItem .manifest (manifest1.take 480)))
    de.absorbing := some .scan }

theorem witness_VerifyCompletion_manifest_digest (owner : ScanOwner) :
    (inManifestDigest owner).fp.op = none ∧ (inManifestDigest owner).fp.chunk = none ∧
      (inManifestDigest owner).de.channel = none ∧ (inManifestDigest owner).su.channel = none ∧
      (inManifestDigest owner).de.scan = some ((DigestItem.absorbed)^[1] (bufferItem .manifest (manifest1.take 480))) ∧
      1 + 1 = chunkCount (manifest1.take 480).length ∧ manifest1.take 480 ≠ [] ∧
      restartDue (inManifestDigest owner) = false := by
  refine ⟨rfl, rfl, rfl, rfl, rfl, ?_, ?_, ?_⟩
  · decide +kernel
  · decide +kernel
  · cases owner <;> decide

/-- A staged scan of slot B that reads a segment of two chunks. -/
def inSegment : State :=
  { verifying with
    fp.chunk := some ⟨.stagedScan, 0x601000, 256, true⟩
    isc.scan.phase := .segments
    isc.scan.nextChunk := 1
    isc.scan.manifest := some ((manifest1.set 164 0).set 165 2)
    de.scan := some (segmentItem 512) }

theorem witness_ManifestDelivery_undue_and_segment :
    up.fp.chunk = none ∧ busFree inSegment = true ∧ inSegment.fp.op = none ∧ restartDue inSegment = false ∧
      inSegment.su.scan = none ∧ inSegment.su.channel = none ∧ (segmentItem 512).kind = .segment ∧
      (segmentItem 512).chunkSlot = none ∧ inSegment.store.slotMap = some map18 ∧ inSegment.de.absorbing = none ∧
      inSegment.de.channel = none ∧
      inSegment.isc.scan.nextChunk < chunkCount (manifestSegment (scanManifest inSegment) 0).length ∧
      chunkCount (manifestSegment manifest1 0).length ≤ 1 ∧ restartDue verifying = false := by decide +kernel

/-- A staged scan of slot B whose VERIFY runs. -/
def inSignature : State :=
  { verifying with
    fp.chunk := none
    isc.scan.phase := .signature
    isc.scan.manifest := some manifest1
    su.scan := some ⟨.verify (zeros 32) someKey (zeros 64), true⟩ }

theorem witness_VerifyCompletion :
    busFree inSignature = true ∧ inSignature.fp.op = none ∧ inSignature.fp.chunk = none ∧ inSignature.de.scan = none ∧
      inSignature.de.channel = none ∧ inSignature.de.absorbing = none ∧
      inSignature.su.channel = none ∧ inSignature.su.scan = some ⟨.verify (zeros 32) someKey (zeros 64), true⟩ ∧
      inSignature.isc.scan.owner = .stagedScan ∧ inSignature.isc.scan.manifest = some manifest1 ∧
      inSignature.isc.scan.phase = .signature ∧ inSignature.store.slotMap = some map18 ∧
      inSignature.mc.state = .idle ∧ restartDue inSignature = false := by decide +kernel
theorem witness_VerifyCompletion_of_a_boot_scan :
    ({ inSignature with isc.scan.owner := .bootScan } : State).mc.state = .idle ∧
      ({ inSignature with isc.scan.owner := .bootScan } : State).su.scan =
        some ⟨.verify (zeros 32) someKey (zeros 64), true⟩ ∧
      ({ inSignature with su.channel := some ⟨.generate, false⟩ } : State).su.channel = some ⟨.generate, false⟩ := by
  decide +kernel
theorem witness_VerifyCompletion_checks :
    tableChecks (some 2) map18 manifest1 = none ∧ tableChecks (some 4) map18 manifest1 = some .versionBelowFloor ∧
      tableChecks (some 2) map18 (manifest1.set 33 17) = some .badRegionTable ∧
      tableChecks (some 2) map18 (manifest1.set 34 1) = some .regionAlias ∧
      tableChecks (some 2) map18 (manifest1.set 162 4) = some .badSegment := by decide +kernel

/-- A scan of slot B at the end of the digest of its only segment. -/
def inLastSegment (owner : ScanOwner) : State :=
  { inSignature with
    su.scan := none
    isc.scan.owner := owner
    isc.scan.phase := .segments
    isc.scan.nextChunk := 1
    de.scan := some { segmentItem 1 with inHand := [0x77] }
    de.absorbing := some .scan }

theorem witness_LastSegment :
    busFree (inLastSegment .stagedScan) = true ∧ (inLastSegment .stagedScan).fp.op = none ∧
      (inLastSegment .stagedScan).fp.chunk = none ∧ (inLastSegment .bootScan).su.scan = none ∧
      ({ segmentItem 1 with inHand := [0x77] } : DigestItem).lastChunk = true ∧
      (inLastSegment .stagedScan).isc.scan.segmentIndex + 1 = manifestSegmentCount manifest1 ∧
      shaOutput ({ segmentItem 1 with inHand := [0x77] } : DigestItem).absorbed.running =
        (manifestSegment manifest1 0).digest ∧
      (inLastSegment .bootScan).store.slotRecord = some ⟨.a, .valid, .empty⟩ ∧
      (manifestSegment manifest1 0).measuredLane = none ∧
      (⟨.a, .valid, .failed⟩ : SlotRecord).stateOf .b = .failed ∧ (inLastSegment .bootScan).mc.state = .idle ∧
      (inLastSegment .bootScan).writes.current = none ∧ (inLastSegment .bootScan).lanes.length = 8 := by decide +kernel
theorem witness_LastSegment_other_ends :
    shaOutput ({ segmentItem 1 with inHand := [0x76] } : DigestItem).absorbed.running ≠
        (manifestSegment manifest1 0).digest ∧
      (inLastSegment .stagedScan).isc.scan.segmentIndex + 1 < manifestSegmentCount (manifest1.set 6 2) ∧
      restartDue (inLastSegment .stagedScan) = false ∧ (inLastSegment .bootScan).store.slotMap = some map18 ∧
      (manifestSegment (manifest1.set 162 3) 0).measuredLane = some 3 := by decide +kernel


/-! ### Translation: the worked translations of 1.8 -/

/-- The manifest table of 1.8, as installed. -/
def table18 : List Region :=
  [installedRegion 1536 .active rightsReadOnly 0, installedRegion 3072 .staging rightsAll 0,
    installedRegion 3584 .direct rightsAll 4352, installedRegion 3648 .direct rightsReadOnly 4864] ++
    List.replicate 12 (installedRegion 3648 .none .empty 0)

/-- The table of the erase series of 1.8. -/
def seriesTable : List Region :=
  [installedRegion 1536 .active rightsReadOnly 0, installedRegion 3072 .staging rightsAll 0,
    installedRegion 3076 .direct rightsAll 4352, installedRegion 3584 .direct rightsAll 4400,
    installedRegion 3648 .direct rightsReadOnly 4864] ++ List.replicate 11 (installedRegion 3648 .none .empty 0)

/-- The part of 1.8 with a selector and a staging state. -/
def part18 (x : Slot) (g : StagingState) : State :=
  { provisioned with tu.table := table18, tu.selector := x, isc.staging.state := g }

/-- An erase RUNNING in slot B, the staging slot. -/
def stagingErase : State := flying ⟨.sectorErase, [0x600000], [], 0, .running, 0⟩ (part18 .a .opened)

theorem witness_LiveRights :
    tableOk stagingErase = true ∧ bootOk stagingErase = true ∧ blankOk stagingErase = true ∧
      mapGuarded stagingErase = true ∧ stagingErase.store.lifecycle ≠ .blank ∧
      ([0, 0x5FFFFF, 0xC00000, 0xCFFFFF].all (protectedAddress stagingErase)) = true ∧
      protectedAddress stagingErase 0x600000 = false ∧
      ∃ t, exec .operationCompletion stagingErase = .next t := by
  refine ⟨?_, ?_, ?_, ?_, ?_, ?_, ?_, _, rfl⟩ <;> decide +kernel

theorem witness_Directory :
    directoryOk fullDirectory = true ∧ floorGuarded fullDirectory = true ∧
      bytesUsed fullDirectory.store.credentials = 2048 := by decide +kernel

theorem test_slot_map_of_1_8_is_valid : map18.valid = true := by decide
theorem test_single_addresses_of_1_8 :
    ([0x012345, 0x612345, 0xC01000, 0xE50000] : List LogicalAddress).map (fun a =>
      ((translate table18 .a (some map18) a).map (·.2), (translate table18 .b (some map18) a).map (·.2))) =
      [(some 0x0012345, some 0x0612345), (some 0x0612345, some 0x0012345), (some 0x1101000, some 0x1101000),
        (none, none)] := by decide +kernel
theorem test_recovery_table_of_1_8 :
    (recoveryTable map18).map (fun e => (e.stop, e.target, e.base)) =
      (256, .direct, 3072) :: (1792, .staging, 0) :: List.replicate 14 (1792, .none, 0) ∧
    (translate (recoveryTable map18) .a (some map18) 0x100000).map (·.2) = some 0x0600000 ∧
    (translate (recoveryTable map18) .a (some map18) 0x6FFFFF).map (·.2) = some 0x0BFFFFF ∧
    translate (recoveryTable map18) .a (some map18) 0x700000 = none := by decide +kernel

theorem test_read_across_an_entry_boundary :
    after (exec (.read (sent [0x5F, 0xFF, 0xFE]) 25 shown) { part18 .b .closed with flash.cells := [(1, 0x11), (0xBFFFFE, 0x22)] })
      (fun t => (t.bp.out, t.fp.sent)) = some ([0x22, 0xFF, 0xFF, 0x11], [.read 0x0BFFFFE, .read 0]) := by
  decide +kernel
theorem test_fastRead_takes_a_dummy_byte :
    after (exec (.fastRead (sent [0, 0, 1, 0xAB]) 1 shown) { up with flash.cells := [(1, 0x11), (2, 0x22)] })
      (·.bp.out) = some [0x11] := by decide +kernel
theorem test_quadOutputRead_drives_four_lines :
    after (exec (.quadOutputRead (sent [0, 0, 1, 0xAB]) 2 shown) { up with flash.cells := [(1, 0x11)] })
      (fun t => (t.bp.out, t.bp.outLines)) = some ([0x11], .io0to3) := by decide +kernel
theorem test_program_wraps_in_its_page :
    after (exec (.pageProgram (sent ([0x60, 0x00, 0xF0] ++ (List.range 32).map (BitVec.ofNat 8))) [])
      { part18 .a .opened with bp.wel := true }) (fun t =>
        match t.bp.writeRecord with
        | .deciding c => (c.address.toNat, c.page.getD 0xF0 none, c.page.getD 0xFF none, c.page.getD 0x0F none,
            (c.page.filter Option.isSome).length)
        | _ => (0, none, none, none, 0)) = some (0x6000F0, some 0, some 15, some 31, 32) := by decide +kernel
theorem test_verified_staging_refuses_a_program :
    after (exec .writeVerdict (deciding ⟨.program, 0x6000F0, List.replicate 256 none⟩ (part18 .a .verified)))
      (fun t => (t.tu.violations, t.tu.firstRefusal)) = some (1, some ⟨0x6000F0, .program, .stagingClosed⟩) := by
  decide +kernel
theorem test_block_erase_stays_one_block :
    after (exec .writeVerdict (deciding (aBlockErase 0xBF0000) (part18 .b .opened))) (·.fp.sent) =
      some [.writeEnable, .blockErase 0x05F0000] := by decide +kernel
theorem test_block_erase_without_right_refused :
    after (exec .writeVerdict (deciding (aBlockErase 0xE30000) (part18 .a .closed)))
      (fun t => (t.tu.violations, t.tu.firstRefusal, t.mc.flags.violation)) =
      some (1, some ⟨0xE30000, .blockErase, .noRight⟩, true) := by decide +kernel
theorem test_block_erase_becomes_a_series :
    after (exec .writeVerdict (deciding (aBlockErase 0xC00000) { part18 .a .closed with tu.table := seriesTable }))
      (fun t => (t.fp.op.map fun o => (o.kind, o.targets.getD 3 0, o.targets.getD 4 0, o.targets.getD 15 0), t.fp.sent)) =
      some (some (.eraseSeries, 0x1103000, 0x1130000, 0x113B000), [.writeEnable, .sectorErase 0x1100000]) := by
  decide +kernel

/-! ### The Boot Port and the Flash Port -/

theorem test_status_byte_bits :
    statusByte { answering with
      bp.wel := true
      bp.writeRecord := .inFlight
      mc.flags.bootNotice := true
      mc.state := .working .generate } = 0xE3 := by decide
theorem test_readId_returns_capacity_and_padding :
    after (exec (.readId 33) { up with bp.idManufacturer := 0xC2, bp.idType := 0x20 }) (·.bp.out) =
      some [0xC2, 0x20, 0x18, 0xFF, 0xFF] := by decide
theorem test_writeEnable_ignored_while_busy :
    after (exec (.writeEnable [] []) (flying erasing up)) (·.bp.wel) = some false := by decide
theorem test_sectorErase_ignored_without_latch :
    after (exec (.sectorErase (sent [0xE0, 0, 0]) []) up) (·.bp.writeRecord) = some .none := by decide
theorem test_sectorErase_refused_at_its_sector :
    after (exec .writeVerdict (deciding ⟨.sectorErase, 0xE00123, []⟩ (part18 .a .closed))) (·.tu.firstRefusal) =
      some (some ⟨0xE00000, .sectorErase, .noRight⟩) := by decide +kernel
theorem test_chipErase_second_opcode_refused :
    (runCommands [.chipErase 0x60 [] [], .writeVerdict] { up with bp.wel := true }).map
      (fun t => (t.tu.firstRefusal, t.bp.wel, t.bp.writeRecord)) =
      some (some ⟨0, .chipErase, .chipErase⟩, false, .none) := by decide +kernel
theorem test_chipErase_is_decided_first :
    after (exec (.chipErase 0xC7 [] []) { up with bp.wel := true }) (fun t => (statusByte t).toNat) = some 3 := by
  decide +kernel
theorem test_reset_needs_resetEnable :
    after (exec (.reset [] []) { up with bp.wel := true }) (·.bp.wel) = some true ∧
    after (exec (.reset [] []) { up with bp.wel := true, bp.resetEnable := true }) (·.bp.wel) = some false := by decide
theorem test_byte_on_one_line_and_on_four :
    byteClocks .io0 0xA1 = [1, 0, 1, 0, 0, 0, 0, 1] ∧ byteClocks .io1 0xA1 = [2, 0, 2, 0, 0, 0, 0, 2] ∧
    byteClocks .io0to3 0xA1 = [0xA, 1] ∧ byteOfClocks .io0to3 [0xA, 1] = 0xA1 ∧
    byteOfClocks .io0 [0xF, 0xE, 1, 2, 0, 8, 4, 1] = 0xA1 := by decide
theorem test_clocks_spell_a_command :
    after (exec (.ignoredTransaction ⟨sent [0x06], shown⟩) up) (·.bp.wel) = some true ∧
    after (exec (.ignoredTransaction ⟨sent [0x06], shown⟩) { up with bp.laneMode := .quadAll }) (·.bp.wel) =
      some false ∧
    after (exec (.ignoredTransaction ⟨List.replicate 3 0xF, shown⟩) { up with bp.laneMode := .quadAll }) (·.bp.laneMode) =
      some .quadAll ∧
    after (exec (.ignoredTransaction ⟨List.replicate 2 0xF, shown⟩) { up with bp.laneMode := .quadAll }) (·.bp.laneMode) =
      some .single := by decide +kernel

/-- The erase series of 3.8 at its step 1. -/
def series : FlightOp :=
  ⟨.eraseSeries, [0x1100000, 0x1101000, 0x1102000] ++ List.replicate 13 0, [], 1, .running, 5⟩

theorem test_read_suspends_a_series_step :
    after (exec (.read (sent [0, 0, 0]) 1 shown) (flying series (part18 .a .closed)))
      (fun t => (t.fp.op.map FlightOp.phase, t.fp.sent)) =
      some (some .suspended, [.suspend, .readBusy, .readSuspended, .read 0]) := by decide +kernel
theorem test_suspend_that_finds_the_sector_ended :
    after (exec (.read (sent [0, 0, 0]) 1 ended) (flying series (part18 .a .closed)))
      (fun t => t.fp.op.map fun o => (o.phase, o.index)) = some (some (.queued, 2)) := by decide +kernel
theorem test_suspend_reads_status_until_it_decides :
    after (exec (.read (sent [0, 0, 0]) 1 [⟨1, 0⟩, ⟨1, 0x80⟩]) (flying erasing (part18 .a .closed))) (·.fp.sent) =
      some [.suspend, .readBusy, .readSuspended, .readBusy, .readSuspended, .read 0] := by decide +kernel
theorem test_read_starts_no_run_once_a_restart_is_due :
    after (exec (.read (sent [0, 0, 0]) 1 ended) (restarting (flying erasing (part18 .a .closed))))
      (fun t => (t.fp.sent, t.bp.out)) = some ([.suspend, .readBusy, .readSuspended], []) := by decide +kernel
theorem test_verdict_changes_nothing_once_a_restart_is_due :
    after (exec .writeVerdict (restarting (deciding aProgram up))) id = some (restarting (deciding aProgram up)) ∧
      (after (exec .writeVerdict (deciding aProgram up)) fun t => t.fp.op.isSome) = some true := by decide +kernel
theorem test_queued_step_starts_at_select_rise :
    after (exec (.readTransactionEnd 0 shown)
      { flying { series with phase := .queued, index := 2 } (part18 .a .closed) with bp.readTxn := some ⟨table18, .a, 0, true, true, true, .io1, 8⟩ })
      (·.fp.sent) = some [.writeEnable, .sectorErase 0x1102000] := by decide +kernel
theorem test_preempted_chunk_is_counted :
    after (exec (.read (sent [0, 0x20, 0]) 256 shown)
      { part18 .a .verifying with fp.chunk := some ⟨.stagedScan, 0x601500, 256, true⟩ })
      (fun t => (t.isc.staging.preemptions, t.fp.chunk.map (·.reading))) = some (1, some false) := by decide +kernel
theorem test_program_clears_bits_only :
    after (exec .operationCompletion { flying programming up with flash.cells := [(3, 0x3C)] })
      (fun t => (t.flash.read 3, t.flash.read 4, t.bp.writeRecord)) = some (0x30, 0xF0, .none) := by decide +kernel
theorem test_timeout_resets_the_flash :
    after (exec .operationTimeout (flying erasing up)) (fun t => (t.fp.sent, t.fp.op)) =
      some ([.resetEnable, .reset], none) := by decide +kernel
theorem test_downstream_command_bytes :
    fpCommandBytes (.read 0x1234567) = [0x13, 0x01, 0x23, 0x45, 0x67] ∧
      fpCommandBytes (.blockErase 0x05F0000) = [0xDC, 0x00, 0x5F, 0x00, 0x00] := by decide

/-! ### Resets -/

theorem test_blank_part_releases_socRun :
    after (exec (.downstreamIdCapture 0xC2 0x20) { State.reset with fp.prep := .identifying })
      (fun t => (t.socRun, t.bp.idManufacturer, t.bp.idType)) = some (true, 0xC2, 0x20) := by decide +kernel
theorem test_recovery_interval_ends_in_identification :
    after (exec .flashResetRecoveryEnd State.reset) (·.fp.sent) = some [.readIdentification] := by decide
theorem test_release_after_lockout_writes_seven_first :
    after (exec .rstNRelease { State.reset with rstLow := true, store.failures := 8 }) (·.writes.current) =
      some (some ⟨.partReset, .lockoutLowering⟩) := by decide
theorem test_restart_waits_for_the_operation :
    after (exec .restartReset { flying erasing up with mc.state := .working (.restart none) }) (·.fp.op) =
      some (some erasing) := by decide
theorem test_trial_boot_spends_an_attempt :
    after (exec (.downstreamIdCapture 0 0) (booting ⟨.b, .fallback, .trial 3⟩)) (·.writes.current) =
      some (some ⟨.slotController, .slotRecord ⟨.b, .fallback, .trial 2⟩⟩) := by decide +kernel
theorem test_exhausted_trial_reverts :
    after (exec (.downstreamIdCapture 0 0) (booting ⟨.b, .fallback, .trial 0⟩)) (·.writes.current) =
      some (some ⟨.slotController, .slotRecord ⟨.a, .valid, .rejected⟩⟩) := by decide +kernel

/-! ### The Management Channel -/

theorem test_posts_judged_at_the_intake :
    after (exec (.managementPost (sent []) []) up) (·.mc.dropped) = some true ∧
    after (exec (.managementPost (sent [2, 0, 1]) []) up) (·.mc.dropped) = some true ∧
    after (exec (.managementPost (sent ([0x23, 1] ++ zeros 292)) []) up) (·.mc.dropped) = some true ∧
    after (exec (.managementPost (sent ([18, 0, 2, 1] ++ zeros 16)) []) up) (fun t => t.mc.response.map (·.frame)) =
      some (some [2, 0, 2, 0x10]) ∧
    after (exec (.managementPost (sent [2, 0, 0x55, 0]) []) up) (fun t => t.mc.response.map (·.frame)) =
      some (some [2, 0, 0x55, 0x11]) := by decide +kernel
theorem test_getInfo_of_a_delivered_part :
    after (exec (.getInfo none []) up) (fun t => t.mc.response.map (·.frame)) =
      some (some [31, 0, 1, 0, 0x16, 0x04, 1, 0, 0, 0, 0, 0, 0, 0, 0xFF, 0, 0xFF, 0xFF, 0xFF, 0xFF, 0, 0, 0, 0, 0,
        0, 0, 0, 0, 0, 0, 0, 0]) := by decide +kernel
theorem test_credential_frame_length :
    (requestFrame .releaseCredential (some (zeros 32)) [7]).take 5 = [35, 0, 0x51, 1, 0] ∧
      (requestFrame .releaseCredential (some (zeros 32)) [7]).length = 37 := by decide +kernel
theorem test_fetch_of_an_empty_buffer :
    after (exec (.managementFetch 41) up) (·.bp.out) = some [0, 0, 0xFF, 0xFF, 0xFF, 0xFF] := by decide
theorem test_whole_fetch_scrubs_a_secret :
    after (exec (.fetchCountReport 8)
      { secretWaiting with bp.fetchTxn := some ⟨some 5, true, 32⟩ }) (fun t => (t.mc.response, t.bp.out)) =
      some (none, [0xAA]) := by decide
theorem test_partial_fetch_keeps_a_secret :
    after (exec (.fetchCountReport 7) { secretWaiting with bp.fetchTxn := some ⟨some 5, true, 32⟩ })
      (·.mc.response.isSome) = some true := by decide
theorem test_restrict_region_reports_what_is_left :
    after (exec (.restrictRegion none [2, 4]) (part18 .a .closed)) (fun t => t.mc.response.map (·.frame)) =
      some (some [5, 0, 7, 0, 2, 7, 3]) := by decide +kernel
theorem test_clear_violation_clears_the_record :
    after (exec (.clearEvents none [2]) busy) (fun t => (t.tu.violations, t.tu.firstRefusal)) = some (0, none) := by
  decide +kernel
theorem test_alert_line_follows_the_mask :
    alertAsserted answering = true ∧
      after (exec (.setAlertMask none [0x0E]) answering) alertAsserted = some false := by decide +kernel
theorem test_endorsement_first_part :
    after (exec (.loadEndorsement none ([0, 0x90, 1] ++ zeros 256))
      { up with store.identity := some ⟨1, someKey⟩ }) (·.writes.current) =
      some (some ⟨.channel, .endorsement (.part 400 (zeros 256))⟩) := by decide +kernel
theorem test_commit_makes_the_staged_slot_trial :
    after (exec (.commitStaged none [3]) (part18 .a .verified)) (·.writes.current) =
      some (some ⟨.channel, .slotRecord ⟨.b, .fallback, .trial 3⟩⟩) := by decide +kernel
theorem test_confirm_writes_the_floor_first :
    after (exec (.confirmActive none [])
      { provisioned with isc.boot.version := some 9, store.slotRecord := some ⟨.a, .trial 1, .fallback⟩ })
      (·.writes.current) = some (some ⟨.channel, .floor 9⟩) := by decide +kernel
theorem test_gate_compares_before_arguments :
    after (exec .chunkEnd
      { owned .none with
        mc.request := requestFrame .revokeUpdateKey (some (zeros 32)) [9]
        mc.state := .working (.gateDigest .revokeUpdateKey)
        de.channel := some (bufferItem .ownerProof (zeros 32))
        de.absorbing := some .channel
        store.failures := 7 }) (·.writes.current) = some (some ⟨.channel, .failures 0⟩) := by decide +kernel
theorem test_revoke_of_the_booted_signer :
    after (exec .chunkEnd
      { owned .none with
        mc.request := requestFrame .revokeUpdateKey (some (zeros 32)) [1]
        mc.state := .working (.gateDigest .revokeUpdateKey)
        de.channel := some (bufferItem .ownerProof (zeros 32))
        de.absorbing := some .channel }) (fun t => t.mc.response.map (·.frame)) =
      some (some [2, 0, 0x44, 0x1A]) := by decide +kernel
theorem test_extend_lane_logs_its_tag :
    after (exec .chunkEnd
      { up with
        mc.state := .working (.laneFold 4)
        lanes := up.lanes.set 4 { Lane.afterReset with extending := some ⟨zeros 32, ⟨zeros 32, .request, 0x10⟩⟩ }
        de.channel := some (bufferItem .laneExtend (zeros 64))
        de.absorbing := some .channel })
      (fun t => ((t.lanes.getD 4 .afterReset).log.map LogRecord.tag, (t.lanes.getD 4 .afterReset).value.take 4)) =
      some ([0x10], [0xf5, 0xa5, 0xfd, 0x42]) := by decide +kernel

/-! ### Known answers of the published standards -/

theorem test_sha256_abc :
    beNat (sha256 [0x61, 0x62, 0x63]) = 0xba7816bf8f01cfea414140de5dae2223b00361a396177a9cb410ff61f20015ad := by
  decide +kernel
theorem test_sha256_two_blocks :
    beNat (sha256 ((List.range 14).flatMap fun i => (List.range 4).map fun j => BitVec.ofNat 8 (0x61 + i + j))) =
      0x248d6a61d20638b8e5c026930c3e6039a33ce45964ff2167f6ecedd419db06c1 := by decide +kernel

def sampleKey : Nat := 0xC9AFA9D845BA75166B5C215767B1D6934E50C3DB36E89B127B8A622B120F6721
def sampleDigest : Nat := 0xAF2BDBE1AA9B6EC1E2ADE1D694F41FC71A831D0268E9891562113D8A62ADD1BF

/-- RFC 6979, P-256 with SHA-256, message "sample". -/
theorem test_ecdsa_sample_signature :
    ecdsaSign sampleKey sampleDigest 0xA6E3C57DD01ABE90086538398355DD4C3B17AA873382B0F24D6129493D8AAD60 =
      some (0xEFD48B2AACB6A8FD1140DD9CD45E81D69D2C877B56AAF991C34D0EA84EAF3716,
        0xF7CB1C942D657C41D436C7A1B6E29F65F3E900DBB9AFF4064DC4AB2F843ACDA8) := by decide +kernel
theorem test_ecdsa_sample_public_key :
    leNat (publicKeyOf sampleKey) =
      0x60FED4BA255A9D31C961EB74C6356D68C049B8923B61FA6CE669622E60F29FB6 +
        2 ^ 256 * 0x7903FE1008B8BC99A41AE9E95628BC64F2F1B20C2D7E9F5177A3C294D4462299 := by decide +kernel
theorem test_ecdsa_sample_verifies :
    (List.map (fun e => ecdsaVerify 0x60FED4BA255A9D31C961EB74C6356D68C049B8923B61FA6CE669622E60F29FB6
      0x7903FE1008B8BC99A41AE9E95628BC64F2F1B20C2D7E9F5177A3C294D4462299 e
      0xEFD48B2AACB6A8FD1140DD9CD45E81D69D2C877B56AAF991C34D0EA84EAF3716
      0xF7CB1C942D657C41D436C7A1B6E29F65F3E900DBB9AFF4064DC4AB2F843ACDA8) [sampleDigest, sampleDigest + 1]) =
      [true, false] := by decide +kernel

end Sys2Proof.Tests.Slice0
end

section
/-! PROOFS. The address map and its translation (chapter 1, R7 and R9). -/

namespace Sys2Proof.Machine

/-! ### Lookup (R9) -/

/-- R9: the logical address at which entry `i` begins, in a table whose first entry begins at `start`: the end of the
entry before it. -/
def entryStart (start : Nat) (table : List Region) (i : Nat) : Nat :=
  if i = 0 then start else (table.getD (i - 1) .held).stop * 4096

theorem entryStart_cons (start : Nat) (e : Region) (rest : List Region) (i : Nat) :
    entryStart start (e :: rest) (i + 1) = entryStart (e.stop * 4096) rest i := by
  cases i <;> simp [entryStart]

theorem lookupFrom_below (i start : Nat) {a : Nat} {e : Region} (rest : List Region) (h : a < e.stop * 4096) :
    lookupFrom i start a (e :: rest) = some ⟨i, e, start⟩ := if_pos h

theorem lookupFrom_above (i start : Nat) {a : Nat} {e : Region} (rest : List Region) (h : e.stop * 4096 ≤ a) :
    lookupFrom i start a (e :: rest) = lookupFrom (i + 1) (e.stop * 4096) a rest := if_neg (Nat.not_lt.mpr h)

theorem lookupFrom_least {table : List Region} {a k : Nat} (i start : Nat) (hk : k < table.length)
    (hbelow : a < (table.getD k .held).stop * 4096)
    (hleast : ∀ j, j < k → (table.getD j .held).stop * 4096 ≤ a) :
    lookupFrom i start a table = some ⟨i + k, table.getD k .held, entryStart start table k⟩ := by
  induction table generalizing i start k with
  | nil => simp at hk
  | cons e rest ih =>
    cases k with
    | zero => exact lookupFrom_below i start rest hbelow
    | succ k =>
      have hhead : e.stop * 4096 ≤ a := hleast 0 k.succ_pos
      have htail := ih (i + 1) (e.stop * 4096) (Nat.lt_of_succ_lt_succ hk) hbelow
        fun j hj => hleast (j + 1) (Nat.succ_lt_succ hj)
      rw [lookupFrom_above i start rest hhead, htail, entryStart_cons, Nat.add_right_comm, Nat.add_assoc]
      rfl

theorem lookupFrom_none {table : List Region} {a : Nat} (i start : Nat)
    (habove : ∀ e ∈ table, e.stop * 4096 ≤ a) : lookupFrom i start a table = none := by
  induction table generalizing i start with
  | nil => rfl
  | cons e rest ih =>
    obtain ⟨hhead, htail⟩ := List.forall_mem_cons.mp habove
    rw [lookupFrom_above i start rest hhead, ih _ _ htail]

theorem lookup_least {table : List Region} {a : LogicalAddress} {i : Nat} (hi : i < table.length)
    (hbelow : a.toNat < (table.getD i .held).stop * 4096)
    (hleast : ∀ j, j < i → (table.getD j .held).stop * 4096 ≤ a.toNat) :
    lookup table a = some ⟨i, table.getD i .held, entryStart 0 table i⟩ := by
  rw [lookup, lookupFrom_least 0 0 hi hbelow hleast, Nat.zero_add]

theorem lookup_none {table : List Region} {a : LogicalAddress}
    (habove : ∀ i, i < table.length → (table.getD i .held).stop * 4096 ≤ a.toNat) : lookup table a = none := by
  refine lookupFrom_none 0 0 fun e he => ?_
  obtain ⟨i, hi, rfl⟩ := List.getElem_of_mem he
  exact List.getD_eq_getElem table .held hi ▸ habove i hi

/-- The entries before the one found end at or below the address, so the one found starts there or below. -/
theorem entryStart_le {table : List Region} {a i : Nat}
    (hleast : ∀ j, j < i → (table.getD j .held).stop * 4096 ≤ a) : entryStart 0 table i ≤ a := by
  cases i with
  | zero => exact a.zero_le
  | succ i => exact hleast i i.lt_succ_self

/-! ### Translation (R10) -/

theorem translate_of_lookup {table : List Region} {a : LogicalAddress} {f : Found} (selector : Slot)
    (m : Option SlotMap) (h : lookup table a = some f) :
    translate table selector m a = (physicalOf m selector f.region (a.toNat - f.start)).map fun p => (f, p) := by
  simp [translate, h]

theorem translate_of_lookup_none {table : List Region} {a : LogicalAddress} (selector : Slot) (m : Option SlotMap)
    (h : lookup table a = none) : translate table selector m a = none := by
  simp [translate, h]

theorem physicalOf_direct {e : Region} (m : Option SlotMap) (selector : Slot) (o : Nat) (h : e.target = .direct) :
    physicalOf m selector e o = if physicalSize ≤ e.base * 4096 + o then none else some (e.base * 4096 + o) := by
  simp [physicalOf, h]

/-! ### The decision (R16, R17) -/

/-- R16: a unit of a mapped, non-STAGING entry with the needed right passes all three checks. -/
theorem checkUnit_ok {tu : TranslationUnit} {m : Option SlotMap} {kind : CommandKind} {a : LogicalAddress} {f : Found}
    {p : Nat} (staging : StagingState) (htr : translate tu.table tu.selector m a = some (f, p))
    (hright : hasNeededRight kind f.region.live = true) (htarget : f.region.target ≠ .staging) :
    checkUnit tu m staging kind a = .ok (p, false) := by
  simp [checkUnit, htr, hright, htarget]

/-- R17: where every unit passes, the decision allows them all, in their order. -/
theorem decideUnits_allowed {check : LogicalAddress → Except RefusalReason (Nat × Bool)} {target : LogicalAddress → Nat}
    {units : List LogicalAddress} (targets : List Nat) (inStaging : Bool)
    (hok : ∀ u ∈ units, check u = .ok (target u, false)) :
    decideUnits check targets inStaging units = .allowed (targets ++ units.map target) inStaging := by
  induction units generalizing targets with
  | nil => simp [decideUnits]
  | cons u rest ih =>
    obtain ⟨hu, hrest⟩ := List.forall_mem_cons.mp hok
    simp [decideUnits, hu, ih _ hrest]

theorem decideCommand_allowed {tu : TranslationUnit} {m : Option SlotMap} {staging : StagingState} {c : TakenCommand}
    {targets : List Nat} {inStaging : Bool} (hkind : c.kind ≠ .chipErase)
    (hunits : decideUnits (checkUnit tu m staging c.kind) [] false (unitsOf c) = .allowed targets inStaging) :
    decideCommand tu m staging c = .allowed targets inStaging := by
  unfold decideCommand
  split
  next hchip => exact absurd hchip hkind
  next => rw [hunits]

/-- R19: a chip erase is refused at address 0. -/
theorem decideCommand_chipErase {c : TakenCommand} (tu : TranslationUnit) (m : Option SlotMap) (staging : StagingState)
    (hkind : c.kind = .chipErase) : decideCommand tu m staging c = .refused 0 .chipErase := by
  simp [decideCommand, hkind]

/-! ### The identity table (R7) -/

/-- R7: what lookup finds under the identity table, at every logical address. -/
def identityFound : Found := ⟨0, installedRegion 4096 .direct rightsAll 0, 0⟩

theorem identityTable_none {i : Nat} (hlow : 1 ≤ i) (hhigh : i ≤ 15) :
    identityTable.getD i .held = installedRegion 4096 .none .empty 0 := by
  obtain ⟨k, rfl⟩ := Nat.exists_eq_add_of_le' hlow
  rw [identityTable, List.getD_cons_succ, List.getD_replicate _ (by omega)]

/-- R7: the first entry ends at 4096 sectors, the whole logical space. -/
theorem lookup_identityTable (a : LogicalAddress) : lookup identityTable a = some identityFound :=
  lookup_least (i := 0) (by decide) a.isLt fun _ hj => absurd hj (Nat.not_lt_zero _)

theorem translate_identityTable (selector : Slot) (m : Option SlotMap) (a : LogicalAddress) :
    translate identityTable selector m a = some (identityFound, a.toNat) := by
  have ha : a.toNat < 0x1000000 := a.isLt
  have hin : ¬ physicalSize ≤ a.toNat := by unfold physicalSize; omega
  rw [translate_of_lookup selector m (lookup_identityTable a), physicalOf_direct m selector _ rfl]
  simp [identityFound, installedRegion, hin]

theorem logicalByte_identityTable {s : State} (a : LogicalAddress) (h : s.tu.table = identityTable) :
    logicalByte s a = s.flash.read a.toNat := by
  simp [logicalByte, h, translate_identityTable, identityFound, installedRegion, rightsAll]

theorem checkUnit_identityTable {tu : TranslationUnit} (m : Option SlotMap) (staging : StagingState)
    (kind : CommandKind) (a : LogicalAddress) (h : tu.table = identityTable) :
    checkUnit tu m staging kind a = .ok (a.toNat, false) := by
  have htr : translate tu.table tu.selector m a = some (identityFound, a.toNat) := h ▸ translate_identityTable _ m a
  have hright : hasNeededRight kind identityFound.region.live = true := by cases kind <;> rfl
  exact checkUnit_ok staging htr hright (by decide)

theorem decideCommand_identityTable {tu : TranslationUnit} {c : TakenCommand} (m : Option SlotMap)
    (staging : StagingState) (h : tu.table = identityTable) (hkind : c.kind ≠ .chipErase) :
    decideCommand tu m staging c = .allowed ((unitsOf c).map BitVec.toNat) false :=
  decideCommand_allowed hkind
    (decideUnits_allowed [] false fun u _ => checkUnit_identityTable m staging c.kind u h)

end Sys2Proof.Machine

namespace Sys2Proof.AddressMap

open Sys2Proof Sys2Proof.Machine

/-- Settles O15: lookup by induction on the table, and the entry's start from the entry before it. -/
theorem lookupFindsLeastEntry : Obligations.LookupFindsLeastEntry := by
  intro table a
  refine ⟨fun i hi hbelow hleast => ?_, fun habove => ?_⟩
  · have hstart : entryStart 0 table i ≤ a.toNat := entryStart_le hleast
    exact ⟨lookup_least hi hbelow hleast, hstart, Nat.sub_lt_sub_right hstart hbelow⟩
  · have hnone : lookup table a = none := lookup_none habove
    exact ⟨hnone, fun selector m => translate_of_lookup_none selector m hnone⟩

/-- Settles O17: the first entry covers the whole logical space, so every address translates to itself with all rights
and every unit passes the three checks of R16. -/
theorem identityTable : Obligations.IdentityTable := by
  refine ⟨rfl, rfl, fun i => identityTable_none, fun selector m a => ⟨?_, ?_⟩,
    fun s a => logicalByte_identityTable a, fun tu m staging c htable => ⟨?_, ?_⟩⟩
  · exact ⟨identityFound, translate_identityTable selector m a, rfl⟩
  · intro f p htr
    rw [translate_identityTable] at htr
    cases htr
    exact a.isLt
  · exact fun hkind => ⟨_, decideCommand_identityTable m staging htable hkind⟩
  · exact decideCommand_chipErase tu m staging

end Sys2Proof.AddressMap
end

section
/-! PROOFS. Traffic on the Boot Port (chapter 2, R41). -/

namespace Sys2Proof.Machine

/-! ### Data-out phases of a whole transaction (R25, R43, R46) -/

theorem driveBytes_afterTransaction (bytes : Bytes) (s : State) :
    driveBytes bytes (afterTransaction s) =
      { afterTransaction s with bp.out := bytes, bp.outLines := dataOutLines s.bp.laneMode false } := rfl

theorem bytesOut_afterTransaction (n : Nat) (s : State) :
    bytesOut n (afterTransaction s) = bytesBegun (dataOutLines s.bp.laneMode false) n := rfl

/-! ### Identification (R41) -/

theorem idByte_eq (b : BootPort) (k : Nat) :
    idByte b k = if k = 0 then b.idManufacturer else if k = 1 then b.idType else if k = 2 then 0x18 else 0xFF := by
  match k with
  | 0 | 1 | 2 => rfl
  | k + 3 => simp [idByte]

/-- A transaction keeps the downstream identification copy, so its bytes are those of the state before. -/
theorem idByte_afterTransaction (s : State) : idByte (afterTransaction s).bp = idByte s.bp := rfl

/-- R41: the bytes of an identification that lasts `n` clocks. -/
def idBytes (n : Nat) (s : State) : Bytes :=
  (List.range (bytesBegun (dataOutLines s.bp.laneMode false) n)).map (idByte s.bp)

theorem length_idBytes (n : Nat) (s : State) :
    (idBytes n s).length = bytesBegun (dataOutLines s.bp.laneMode false) n := by
  simp [idBytes]

theorem getD_idBytes {n k : Nat} {s : State} (hk : k < (idBytes n s).length) :
    (idBytes n s).getD k 0 = idByte s.bp k := by
  rw [List.getD_eq_getElem _ _ hk]
  simp [idBytes]

theorem readId_free {s : State} (n : Nat) (h : busFree s = true) :
    readId n s =
      { afterTransaction s with bp.out := idBytes n s, bp.outLines := dataOutLines s.bp.laneMode false } := by
  rw [readId, wholeTransaction_free _ h, driveBytes_afterTransaction, bytesOut_afterTransaction,
    idByte_afterTransaction, idBytes]

theorem exec_readId (n : Nat) (s : State) : exec (.readId n) s = .next (readId n s) := rfl

end Sys2Proof.Machine

namespace Sys2Proof.BootTraffic

open Sys2Proof Sys2Proof.Machine

/-- Settles O30: on a free bus READ_ID drives the identification bytes, of which only the first three are not 0xFF. -/
theorem readIdReturnsThreeBytes : Obligations.ReadIdReturnsThreeBytes := by
  intro s n hfree
  refine ⟨idBytes n s, length_idBytes n s, fun k hk => ?_, ?_⟩
  · exact (getD_idBytes hk).trans (idByte_eq s.bp k)
  · rw [exec_readId, readId_free n hfree]

end Sys2Proof.BootTraffic
end

section
/-! PROOFS. What serving the ports and starting the work that waits leaves as it is. -/

namespace Sys2Proof.Machine

/-! ### Work that goes on undisturbed -/

/-- R57, R59: of the operation in flight only the phase, the running time and the step of a series move, or it ends. -/
def OpKept (s t : State) : Prop :=
  ∀ o, t.fp.op = some o → ∃ p, s.fp.op = some p ∧ o.kind = p.kind ∧ o.targets = p.targets ∧
    (o.index = p.index ∨ (o.kind = .eraseSeries ∧ o.index ≤ 15))

/-- R71: the item of the scan place stands, or a segment's has moved a chunk from its slot into the engine. -/
def ItemKept (s t : State) : Prop :=
  t.de.scan = s.de.scan ∨
    ∃ i slot hand, s.de.scan = some i ∧ i.kind = .segment ∧ t.de.scan = some { i with chunkSlot := slot, inHand := hand }

/-- R180, R193: the response stands, has been marked delivered, or has been scrubbed. -/
def ResponseKept (s t : State) : Prop :=
  t.mc.response = none ∨
    ∃ f : Bool → Bool, t.mc.response = s.mc.response.map fun r => { r with delivered := f r.delivered }

/-- Nothing but the ports, the flash and the start of waiting work has moved from `s` to `t`. -/
structure Quiet (s t : State) : Prop where
  tu : t.tu = s.tu
  store : t.store = s.store
  writes : t.writes = s.writes
  cred : t.cred = s.cred
  lanes : t.lanes = s.lanes
  socRun : t.socRun = s.socRun
  rstLow : t.rstLow = s.rstLow
  prep : t.fp.prep = s.fp.prep
  state : t.mc.state = s.mc.state
  isc : t.isc =
    { s.isc with
      scan := { s.isc.scan with nextChunk := t.isc.scan.nextChunk }
      staging := { s.isc.staging with
        preemptions := t.isc.staging.preemptions
        chunksDone := t.isc.staging.chunksDone } }
  channel : t.de.channel = s.de.channel
  item : ItemKept s t
  op : OpKept s t
  response : ResponseKept s t

theorem OpKept.of_eq {s t : State} (h : t.fp.op = s.fp.op) : OpKept s t :=
  fun o ho => ⟨o, h ▸ ho, rfl, rfl, .inl rfl⟩

theorem OpKept.ended {s t : State} (h : t.fp.op = none) : OpKept s t :=
  fun o ho => by simp [h] at ho

theorem OpKept.trans {s t u : State} (h₁ : OpKept s t) (h₂ : OpKept t u) : OpKept s u := by
  intro o ho
  obtain ⟨p, hp, hk, ht, hi⟩ := h₂ o ho
  obtain ⟨q, hq, hk', ht', hi'⟩ := h₁ p hp
  refine ⟨q, hq, hk.trans hk', ht.trans ht', ?_⟩
  rcases hi with hi | hi
  · rw [hi, hk]; exact hi'
  · exact .inr hi

theorem ItemKept.of_eq {s t : State} (h : t.de.scan = s.de.scan) : ItemKept s t := .inl h

theorem ItemKept.trans {s t u : State} (h₁ : ItemKept s t) (h₂ : ItemKept t u) : ItemKept s u := by
  rcases h₁ with h₁ | ⟨i, a, b, hi, hk, h₁⟩
  · rcases h₂ with h₂ | ⟨j, c, d, hj, hk, h₂⟩
    · exact .inl (h₂.trans h₁)
    · exact .inr ⟨j, c, d, h₁ ▸ hj, hk, h₂⟩
  · rcases h₂ with h₂ | ⟨j, c, d, hj, _, h₂⟩
    · exact .inr ⟨i, a, b, hi, hk, h₂.trans h₁⟩
    · obtain rfl := Option.some.inj (h₁.symm.trans hj)
      exact .inr ⟨i, c, d, hi, hk, h₂⟩

theorem ResponseKept.of_eq {s t : State} (h : t.mc.response = s.mc.response) : ResponseKept s t :=
  .inr ⟨id, by rw [h]; cases s.mc.response <;> rfl⟩

theorem ResponseKept.trans {s t u : State} (h₁ : ResponseKept s t) (h₂ : ResponseKept t u) : ResponseKept s u := by
  rcases h₂ with h₂ | ⟨g, h₂⟩
  · exact .inl h₂
  · rcases h₁ with h₁ | ⟨f, h₁⟩
    · exact .inl (by rw [h₂, h₁]; rfl)
    · exact .inr ⟨g ∘ f, by rw [h₂, h₁, Option.map_map]; rfl⟩

/-- A step that leaves the work alone, field by field. -/
theorem Quiet.of_eq {s t : State} (tu : t.tu = s.tu) (store : t.store = s.store) (writes : t.writes = s.writes)
    (cred : t.cred = s.cred) (lanes : t.lanes = s.lanes) (socRun : t.socRun = s.socRun) (rstLow : t.rstLow = s.rstLow)
    (prep : t.fp.prep = s.fp.prep) (mc : t.mc = s.mc) (isc : t.isc = s.isc) (de : t.de = s.de)
    (op : t.fp.op = s.fp.op) : Quiet s t where
  tu := tu
  store := store
  writes := writes
  cred := cred
  lanes := lanes
  socRun := socRun
  rstLow := rstLow
  prep := prep
  state := by rw [mc]
  isc := by rw [isc]
  channel := by rw [de]
  item := .of_eq (by rw [de])
  op := .of_eq op
  response := .of_eq (by rw [mc])

/-- A step that moves only the ports, the flash and the counters. -/
theorem quiet_ports {s t : State}
    (h : t =
      { s with
        bp := t.bp
        fp := { s.fp with run := t.fp.run, sent := t.fp.sent, chunk := t.fp.chunk, chunkBuffer := t.fp.chunkBuffer }
        flash := t.flash
        su := t.su
        clock := t.clock
        draws := t.draws
        pending := t.pending }) : Quiet s t := by
  apply Quiet.of_eq <;> rw [h]

theorem Quiet.refl (s : State) : Quiet s s := quiet_ports rfl

theorem Quiet.trans {s t u : State} (h₁ : Quiet s t) (h₂ : Quiet t u) : Quiet s u where
  tu := h₂.tu.trans h₁.tu
  store := h₂.store.trans h₁.store
  writes := h₂.writes.trans h₁.writes
  cred := h₂.cred.trans h₁.cred
  lanes := h₂.lanes.trans h₁.lanes
  socRun := h₂.socRun.trans h₁.socRun
  rstLow := h₂.rstLow.trans h₁.rstLow
  prep := h₂.prep.trans h₁.prep
  state := h₂.state.trans h₁.state
  isc := by rw [h₂.isc, h₁.isc]
  channel := h₂.channel.trans h₁.channel
  item := h₁.item.trans h₂.item
  op := h₁.op.trans h₂.op
  response := h₁.response.trans h₂.response

/-! ### Waiting work starts -/

theorem quiet_preemptChunk (s : State) : Quiet s (preemptChunk s) where
  tu := by simp
  store := by simp
  writes := by simp
  cred := by simp
  lanes := by simp
  socRun := by simp
  rstLow := by simp
  prep := by simp
  state := by simp
  isc := by
    unfold preemptChunk countPreemption
    (repeat' split) <;> rfl
  channel := by simp
  item := .of_eq (by simp)
  op := .of_eq (by simp)
  response := .of_eq (by simp)

theorem quiet_send (cmds : List FpCommand) (s : State) : Quiet s (send cmds s) :=
  quiet_ports rfl

/-- R55: the phase and the running time of an operation are the controller's own. -/
theorem quiet_setPhase {s : State} {o : FlightOp} (phase : OpPhase) (time : Nat) (h : s.fp.op = some o) :
    Quiet s { s with fp.op := some { o with phase := phase, runningTime := time } } where
  tu := rfl
  store := rfl
  writes := rfl
  cred := rfl
  lanes := rfl
  socRun := rfl
  rstLow := rfl
  prep := rfl
  state := rfl
  isc := rfl
  channel := rfl
  item := .of_eq rfl
  op := fun p hp => by
    cases hp
    exact ⟨o, h, rfl, rfl, .inl rfl⟩
  response := .of_eq rfl

theorem quiet_startOperation (s : State) : Quiet s (startOperation s) := by
  unfold startOperation
  split
  · exact .refl s
  · next o ho =>
    split
    · refine (quiet_preemptChunk s).trans (.trans ?_ (quiet_send _ _))
      exact quiet_setPhase _ _ (by simpa using ho)
    · exact .refl s

theorem chunkTaken_isc (s : State) :
    (chunkTaken s).isc =
      { s.isc with
        scan := { s.isc.scan with nextChunk := (chunkTaken s).isc.scan.nextChunk }
        staging := { s.isc.staging with
        preemptions := (chunkTaken s).isc.staging.preemptions
        chunksDone := (chunkTaken s).isc.staging.chunksDone } } := by
  unfold chunkTaken
  split <;> rfl

theorem startAbsorption_isc (s : State) :
    (startAbsorption s).isc =
      { s.isc with
        scan := { s.isc.scan with nextChunk := (startAbsorption s).isc.scan.nextChunk }
        staging := { s.isc.staging with
        preemptions := (startAbsorption s).isc.staging.preemptions
        chunksDone := (startAbsorption s).isc.staging.chunksDone } } := by
  unfold startAbsorption
  split
  · rfl
  · split
    · rfl
    · split
      · rfl
      · exact chunkTaken_isc _
    · rfl

theorem startAbsorption_channel (s : State) : (startAbsorption s).de.channel = s.de.channel := by
  unfold startAbsorption
  (repeat' split) <;> simp

theorem startAbsorption_item (s : State) : ItemKept s (startAbsorption s) := by
  unfold startAbsorption
  split
  · exact .of_eq rfl
  · split
    · exact .of_eq rfl
    · next i _ hi =>
      split
      · exact .of_eq (by simp [hi])
      · next hk => exact .inr ⟨i, none, i.chunkSlot.getD [], hi, hk, by simp⟩
    · exact .of_eq rfl

theorem quiet_startAbsorption (s : State) : Quiet s (startAbsorption s) where
  tu := by simp
  store := by simp
  writes := by simp
  cred := by simp
  lanes := by simp
  socRun := by simp
  rstLow := by simp
  prep := by simp
  state := by simp
  isc := startAbsorption_isc s
  channel := startAbsorption_channel s
  item := startAbsorption_item s
  op := .of_eq (by simp)
  response := .of_eq (by simp)

theorem quiet_startSignature (s : State) : Quiet s (startSignature s) :=
  .of_eq (by simp) (by simp) (by simp) (by simp) (by simp) (by simp) (by simp) (by simp) (by simp) (by simp) (by simp)
    (by simp)

theorem quiet_startChunkRead (s : State) : Quiet s (startChunkRead s) :=
  .of_eq (by simp) (by simp) (by simp) (by simp) (by simp) (by simp) (by simp) (by simp) (by simp) (by simp) (by simp)
    (by simp)

theorem quiet_settle (s : State) : Quiet s (settle s) := by
  unfold settle
  split
  · exact .refl s
  · exact (quiet_startOperation s).trans <| (quiet_startAbsorption _).trans <| (quiet_startSignature _).trans
      (quiet_startChunkRead _)

/-! ### Commands of the operation in flight end -/

theorem quiet_completeOperation (s : State) : Quiet s (completeOperation s) where
  tu := rfl
  store := rfl
  writes := rfl
  cred := rfl
  lanes := rfl
  socRun := rfl
  rstLow := rfl
  prep := rfl
  state := rfl
  isc := rfl
  channel := rfl
  item := .of_eq rfl
  op := .ended rfl
  response := .of_eq rfl

theorem quiet_endCommand {s : State} {o : FlightOp} (h : s.fp.op = some o) : Quiet s (endCommand o s) where
  tu := by simp
  store := by simp
  writes := by simp
  cred := by simp
  lanes := by simp
  socRun := by simp
  rstLow := by simp
  prep := by simp
  state := by simp
  isc := by simp
  channel := by simp
  item := .of_eq (by simp)
  op := by
    unfold endCommand
    split
    · next hseries =>
      simp only [Bool.and_eq_true, decide_eq_true_eq] at hseries
      intro p hp
      cases hp
      exact ⟨o, h, rfl, rfl, .inr ⟨hseries.1, by show o.index + 1 ≤ 15; omega⟩⟩
    · exact .ended rfl
  response := .of_eq (by simp)

theorem quiet_operationCompletion (s : State) : Quiet s (operationCompletion s) := by
  unfold operationCompletion
  split
  · exact .refl s
  · next o ho =>
    split
    · dsimp only
      split
      · exact (quiet_send _ s).trans ((quiet_endCommand (by exact ho)).trans (quiet_settle _))
      · exact quiet_send _ s
    · exact .refl s

theorem quiet_timeOut (o : FlightOp) (s : State) : Quiet s (timeOut o s) := by
  unfold timeOut
  refine Quiet.trans ?_ (quiet_settle _)
  refine Quiet.trans ?_ (quiet_completeOperation _)
  exact quiet_ports rfl

theorem quiet_operationTimeout (s : State) : Quiet s (operationTimeout s) := by
  unfold operationTimeout
  split
  · exact .refl s
  · split
    · exact quiet_timeOut _ s
    · exact .refl s

theorem quiet_runOneMillisecond (s : State) : Quiet s (runOneMillisecond s) := by
  unfold runOneMillisecond
  split
  · exact .refl s
  · next o ho =>
    split
    · next hp =>
      have hrun := quiet_setPhase o.phase (o.runningTime + 1) ho
      dsimp only
      split
      · exact hrun.trans (quiet_timeOut _ _)
      · exact hrun
    · exact .refl s

/-! ### Responses scrubbed or delivered -/

/-- A response moves on, or the clock, and nothing else but the ports. -/
theorem quiet_response {s t : State} (tu : t.tu = s.tu) (store : t.store = s.store) (writes : t.writes = s.writes)
    (cred : t.cred = s.cred) (lanes : t.lanes = s.lanes) (socRun : t.socRun = s.socRun) (rstLow : t.rstLow = s.rstLow)
    (fp : t.fp = s.fp) (state : t.mc.state = s.mc.state) (isc : t.isc = s.isc) (de : t.de = s.de)
    (response : ResponseKept s t) : Quiet s t where
  tu := tu
  store := store
  writes := writes
  cred := cred
  lanes := lanes
  socRun := socRun
  rstLow := rstLow
  prep := by rw [fp]
  state := state
  isc := by rw [isc]
  channel := by rw [de]
  item := .of_eq (by rw [de])
  op := .of_eq (by rw [fp])
  response := response

theorem responseKept_scrub (s : State) : ResponseKept s (scrub s) := by
  unfold scrub
  split
  · exact .inl rfl
  · exact .of_eq rfl

theorem quiet_scrub (s : State) : Quiet s (scrub s) :=
  quiet_response (by simp) (by simp) (by simp) (by simp) (by simp) (by simp) (by simp) (by simp) (by simp) (by simp)
    (by simp) (responseKept_scrub s)

theorem quiet_secretResponseExpiry (s : State) : Quiet s (secretResponseExpiry s) := by
  unfold secretResponseExpiry
  split
  · exact .refl s
  · refine Quiet.trans ?_ (quiet_scrub _)
    exact quiet_ports rfl

theorem quiet_freshPort (s : State) : Quiet s (freshPort s) :=
  quiet_ports rfl

/-- A millisecond moves no work (log 4). -/
theorem quiet_tick (s : State) : Quiet s (tick s) := by
  unfold tick
  refine Quiet.trans ?_ (quiet_runOneMillisecond _)
  refine Quiet.trans (t := { freshPort s with clock := s.clock + 1 }) ?_ ?_
  · exact quiet_ports rfl
  · unfold expireIfDue
    split
    · exact quiet_secretResponseExpiry _
    · exact .refl _

theorem responseKept_reportFetch (t : FetchTxn) (s : State) : ResponseKept s (reportFetch t s) := by
  unfold reportFetch
  split
  · exact .of_eq rfl
  · split
    · split
      · exact responseKept_scrub s
      · exact .inr ⟨fun _ => true, rfl⟩
    · exact .of_eq rfl

theorem quiet_endFetch (s : State) : Quiet s (endFetch s) := by
  refine quiet_response (by simp) (by simp) (by simp) (by simp) (by simp) (by simp) (by simp) (by simp) (by simp)
    (by simp) (by simp) ?_
  unfold endFetch
  split
  · exact .of_eq rfl
  · exact responseKept_reportFetch _ s

/-! ### Reads -/

theorem quiet_suspendOperation (reply : SuspendReply) (s : State) : Quiet s (suspendOperation reply s) := by
  unfold suspendOperation
  split
  · exact .refl s
  · next o ho =>
    split
    · dsimp only
      split
      · exact (quiet_send _ s).trans (quiet_endCommand ho)
      · exact (quiet_send _ s).trans (quiet_setPhase .suspended o.runningTime ho)
    · exact .refl s

theorem quiet_resumeOperation (s : State) : Quiet s (resumeOperation s) := by
  unfold resumeOperation
  split
  · exact .refl s
  · next o ho =>
    split
    · exact (quiet_setPhase .running o.runningTime ho).trans (quiet_send _ _)
    · exact .refl s

theorem quiet_beginRun (p : Nat) (reply : SuspendReply) (s : State) : Quiet s (beginRun p reply s) := by
  unfold beginRun
  dsimp only
  split
  · exact quiet_suspendOperation reply s
  · refine (quiet_suspendOperation reply s).trans <| (quiet_preemptChunk _).trans <| Quiet.trans ?_ (quiet_send _ _)
    exact quiet_ports rfl

theorem quiet_endRead (s : State) : Quiet s (endRead s) := by
  unfold endRead
  split
  · exact .refl s
  · dsimp only
    split
    · refine Quiet.trans ?_ ((quiet_resumeOperation _).trans (quiet_settle _))
      exact quiet_ports rfl
    · exact quiet_ports rfl

theorem quiet_endRunIfDone (i : Nat) (s : State) : Quiet s (endRunIfDone i s) := by
  unfold endRunIfDone
  split
  · exact .refl s
  · dsimp only
    split
    · exact .refl s
    · exact quiet_ports rfl

theorem quiet_driveByte (b : Byte) (s : State) : Quiet s (driveByte b s) :=
  quiet_ports rfl

theorem quiet_supplyByte (reply : SuspendReply) (s : State) : Quiet s (supplyByte reply s) := by
  unfold supplyByte
  split
  · exact .refl s
  · split
    · exact .refl s
    · split
      · exact quiet_ports rfl
      · next i p _ =>
        have hrun : Quiet s (if s.fp.run = some p then s else beginRun p reply s) := by
          split
          · exact .refl s
          · exact quiet_beginRun p reply s
        refine hrun.trans ?_
        generalize (if s.fp.run = some p then s else beginRun p reply s) = u
        dsimp only
        split
        · exact .refl u
        · exact Quiet.trans (quiet_ports rfl) ((quiet_driveByte _ _).trans (quiet_endRunIfDone i _))

theorem quiet_supplyBytes (reply : SuspendReply) (n : Nat) (s : State) : Quiet s (supplyBytes reply n s) := by
  induction n generalizing s with
  | zero => exact .refl s
  | succ n ih => exact (quiet_supplyByte reply s).trans (ih _)

theorem quiet_clockData (reply : SuspendReply) (n : Nat) (s : State) : Quiet s (clockData reply n s) := by
  unfold clockData
  split
  · exact .refl s
  · split
    · refine Quiet.trans ?_ (quiet_supplyBytes _ _ _)
      exact quiet_ports rfl
    · exact .refl s

theorem quiet_startStream (reply : SuspendReply) (s : State) : Quiet s (startStream reply s) := by
  unfold startStream
  split
  · exact .refl s
  · exact quiet_beginRun _ reply s

/-! ### Transactions -/

theorem quiet_endOpenTransaction (s : State) : Quiet s (endOpenTransaction s) :=
  (quiet_endFetch s).trans (quiet_endRead _)

/-- The state in which a transaction acts (log 8). -/
def transactionBegun (s : State) : State := { endOpenTransaction (freshPort s) with bp.out := [] }

theorem quiet_transactionBegun (s : State) : Quiet s (transactionBegun s) :=
  (quiet_freshPort s).trans <| (quiet_endOpenTransaction _).trans <|
    quiet_ports rfl

theorem transaction_eq (act : State → State) (s : State) :
    transaction act s = if s.rstLow then freshPort s else act (transactionBegun s) := rfl

/-- A transaction whose act moves no work moves none. -/
theorem quiet_transaction {act : State → State} (h : ∀ s, Quiet s (act s)) (s : State) :
    Quiet s (transaction act s) := by
  rw [transaction_eq]
  split
  · exact quiet_freshPort s
  · exact (quiet_transactionBegun s).trans (h _)

theorem quiet_clearResetEnable (s : State) : Quiet s (clearResetEnable s) :=
  quiet_ports rfl

theorem quiet_wholeTransaction {act : State → State} (h : ∀ s, Quiet s (act s)) (s : State) :
    Quiet s (wholeTransaction act s) :=
  quiet_transaction (fun s => (quiet_clearResetEnable s).trans (h _)) s

theorem quiet_takenCommand {leading : Nat} {clocks : List Clock} {act : Bytes → State → State}
    (h : ∀ received s, Quiet s (act received s)) (s : State) : Quiet s (takenCommand leading clocks act s) := by
  refine quiet_wholeTransaction (fun s => ?_) s
  dsimp only
  split
  · exact h _ s
  · exact .refl s

theorem quiet_readCommand (leading : Nat) (quadOutput : Bool) (clocks : List Clock) (n : Nat) (reply : SuspendReply)
    (s : State) : Quiet s (readCommand leading quadOutput clocks n reply s) := by
  refine quiet_transaction (fun s => ?_) s
  dsimp only
  refine Quiet.trans ?_ (quiet_clockData reply _ _)
  split
  · refine Quiet.trans ?_ (quiet_startStream reply _)
    exact quiet_ports rfl
  · exact quiet_ports rfl

theorem quiet_readTransactionEnd (n : Nat) (reply : SuspendReply) (s : State) :
    Quiet s (readTransactionEnd n reply s) :=
  (quiet_clockData reply n s).trans (quiet_endRead _)

theorem quiet_driveBytes (bytes : Bytes) (s : State) : Quiet s (driveBytes bytes s) :=
  quiet_ports rfl

theorem quiet_clockFetch (n : Nat) (s : State) : Quiet s (clockFetch n s) := by
  unfold clockFetch
  split
  · exact .refl s
  · exact quiet_ports rfl

theorem quiet_managementFetch (n : Nat) (s : State) : Quiet s (managementFetch n s) := by
  refine quiet_transaction (fun s => ?_) s
  exact Quiet.trans (quiet_ports rfl) (quiet_clockFetch n _)

theorem quiet_handOver (c : TakenCommand) (s : State) : Quiet s (handOver c s) := by
  unfold handOver
  split
  · exact quiet_ports rfl
  · exact .refl s

theorem quiet_pageProgram (clocks : List Clock) (s : State) : Quiet s (pageProgram clocks s) := by
  refine quiet_wholeTransaction (fun s => ?_) s
  unfold handOver
  dsimp only
  (repeat' split) <;> exact quiet_ports rfl

theorem quiet_eraseAt (kind : CommandKind) (clocks : List Clock) (s : State) : Quiet s (eraseAt kind clocks s) :=
  quiet_takenCommand (fun _ s => quiet_handOver _ s) s

theorem quiet_chipErase (clocks : List Clock) (s : State) : Quiet s (chipErase clocks s) :=
  quiet_takenCommand (fun _ s => quiet_handOver _ s) s

theorem quiet_writeEnable (clocks : List Clock) (s : State) : Quiet s (writeEnable clocks s) := by
  refine quiet_takenCommand (fun _ s => ?_) s
  split
  · exact .refl s
  · exact quiet_ports rfl

theorem quiet_writeDisable (clocks : List Clock) (s : State) : Quiet s (writeDisable clocks s) := by
  refine quiet_takenCommand (fun _ s => ?_) s
  exact quiet_ports rfl

theorem quiet_setLaneMode (mode : LaneMode) (clocks : List Clock) (s : State) :
    Quiet s (setLaneMode mode clocks s) := by
  refine quiet_takenCommand (fun _ s => ?_) s
  exact quiet_ports rfl

theorem quiet_resetEnable (clocks : List Clock) (s : State) : Quiet s (resetEnable clocks s) := by
  refine quiet_transaction (fun s => ?_) s
  exact quiet_ports rfl

theorem quiet_readStatus (n : Nat) (s : State) : Quiet s (readStatus n s) :=
  quiet_wholeTransaction (fun s => quiet_driveBytes _ s) s

theorem quiet_readId (n : Nat) (s : State) : Quiet s (readId n s) :=
  quiet_wholeTransaction (fun s => quiet_driveBytes _ s) s

theorem quiet_resetCommand (clocks : List Clock) (s : State) : Quiet s (resetCommand clocks s) := by
  refine quiet_transaction (fun s => ?_) s
  split
  · exact quiet_ports rfl
  · exact quiet_clearResetEnable s

/-- The bus commands that move no work: all but MANAGEMENT_POST. -/
theorem quiet_busCommand {c : BusCommand} (h : c ≠ .managementPost) (clocks : List Clock) (reply : SuspendReply)
    (s : State) : Quiet s (busCommand c clocks reply s) := by
  cases c with
  | managementPost => exact absurd rfl h
  | read => exact quiet_readCommand ..
  | fastRead => exact quiet_readCommand ..
  | quadOutputRead => exact quiet_readCommand ..
  | writeEnable => exact quiet_writeEnable ..
  | writeDisable => exact quiet_writeDisable ..
  | readStatus => exact quiet_readStatus ..
  | pageProgram => exact quiet_pageProgram ..
  | managementFetch => exact quiet_managementFetch ..
  | sectorErase => exact quiet_eraseAt ..
  | blockErase => exact quiet_eraseAt ..
  | chipErase => exact quiet_chipErase ..
  | readId => exact quiet_readId ..
  | resetEnable => exact quiet_resetEnable ..
  | reset => exact quiet_resetCommand ..
  | enterQuadAll => exact quiet_setLaneMode ..
  | exitQuadAll => exact quiet_setLaneMode ..

end Sys2Proof.Machine
end

section
/-! PROOFS. The meanings of the commands sorted by kind: requests, transactions of the Boot Port, and events. -/

namespace Sys2Proof.Machine

/-! ### Posts (R186 to R188) -/

/-- What the channel does with a POST that reaches it in state `u`: it drops it, answers BAD_FRAME, or takes it. -/
inductive Received (dispatch : State → State) (u : State) : State → Prop
  | dropped : Received dispatch u { u with mc.dropped := true }
  | badFrame (kept : Bytes) (h : u.mc.state = .idle) : Received dispatch u (respond .badFrame [] (acceptPost kept u))
  | taken (kept : Bytes) (h : u.mc.state = .idle) : Received dispatch u (dispatch (acceptPost kept u))

theorem received (count : Nat) (kept : Bytes) (dispatch : State → State) (u : State) :
    Received dispatch u (receivePost count kept dispatch u) := by
  unfold receivePost
  split
  · exact .dropped
  · next h =>
    have hidle : u.mc.state = .idle := by
      simp only [dropsPost, managementBusy, Bool.or_eq_true, decide_eq_true_eq, not_or, not_not] at h
      exact h.1.1.1.1
    dsimp only
    split
    · exact .badFrame kept hidle
    · exact .taken kept hidle

/-- The state in which a POST reaches the channel: as a whole transaction, its intake handed over and emptied (R48). -/
def postBegun (s : State) : State :=
  { clearResetEnable (transactionBegun s) with bp.intakeCount := 0, bp.intake := [] }

/-- What a POST can leave: nothing while RST_N is low, its transaction alone off a byte boundary, or what the channel
makes of it. -/
inductive Posted (dispatch : State → State) (s : State) : State → Prop
  | held (h : s.rstLow = true) : Posted dispatch s (freshPort s)
  | ended : Posted dispatch s (clearResetEnable (transactionBegun s))
  | received {t : State} (hl : s.rstLow = false) (h : Received dispatch (postBegun s) t) : Posted dispatch s t

theorem posted_post (sent : Bytes) (dispatch : State → State) (s : State) :
    Posted dispatch s (wholeTransaction (post sent dispatch) s) := by
  rw [wholeTransaction, transaction_eq]
  split
  · next h => exact .held h
  · next h => exact .received (by simpa using h) (received ..)

theorem posted_managementPost (clocks : List Clock) (s : State) :
    Posted dispatchByCode s (managementPost clocks s) := by
  rw [managementPost, takenCommand, wholeTransaction, transaction_eq]
  split
  · next h => exact .held h
  · next h =>
    dsimp only
    split
    · exact .received (by simpa using h) (received ..)
    · exact .ended

/-- R21: a request is taken beside an open read, or its POST is a transaction of its own. -/
theorem requestCommand_cases (r : Request) (dispatch : State → State) (proof : Option Bytes) (body : Bytes)
    (s : State) :
    (s.rstLow = false ∧ Received dispatch (freshPort s) (requestCommand r dispatch proof body s)) ∨
      Posted dispatch s (requestCommand r dispatch proof body s) := by
  unfold requestCommand
  dsimp only
  split
  · next h =>
    refine .inl ⟨?_, received ..⟩
    unfold openForTaking at h
    rw [Bool.and_eq_true, Bool.not_eq_true'] at h
    exact h.1
  · exact .inr (posted_post ..)

/-! ### The commands by kind -/

/-- The rows that carry the status pairs of a suspend. -/
def CarriesReply (reply : SuspendReply) (c : Instr) : Prop :=
  ∃ clocks n, c = .read clocks n reply ∨ c = .fastRead clocks n reply ∨ c = .quadOutputRead clocks n reply ∨
    c = .ignoredTransaction ⟨clocks, reply⟩

/-- What each command does, by kind; the transactions with the command their clocks spell (log 30). -/
inductive Effect (s : State) : Instr → State → Prop
  | request (r : Request) (proof : Option Bytes) (body : Bytes) :
      Effect s (requestInstr r proof body) (requestCommand r (takeRequest r) proof body s)
  | read {c : Instr} (leading : Nat) (quad : Bool) (clocks : List Clock) (n : Nat) (reply : SuspendReply)
      (h : CarriesReply reply c) : Effect s c (readCommand leading quad clocks n reply s)
  | bus {c : Instr} {b : BusCommand} {clocks : List Clock} (reply : SuspendReply)
      (h : spells s.bp.laneMode c = some (b, clocks)) (hb : b ≠ .read ∧ b ≠ .fastRead ∧ b ≠ .quadOutputRead) :
      Effect s c (busCommand b clocks reply s)
  | status (n : Nat) : Effect s (.readStatus n) (readStatus n s)
  | id (n : Nat) : Effect s (.readId n) (readId n s)
  | fetch (n : Nat) : Effect s (.managementFetch n) (managementFetch n s)
  | ignored (raw : RawTransaction) : Effect s (.ignoredTransaction raw) (ignored s)
  | powerOn : Effect s .powerOn (if (hardReset s).rstLow then hardReset s else beginResetWork (hardReset s))
  | pinReset : Effect s .pinReset { hardReset s with rstLow := true }
  | rstNRelease : Effect s .rstNRelease
      (if (freshPort s).rstLow then beginResetWork { freshPort s with rstLow := false } else freshPort s)
  | restartReset : Effect s .restartReset (restartReset (freshPort s))
  | recoveryEnd : Effect s .flashResetRecoveryEnd (unlessRestartDue flashResetRecoveryEnd (freshPort s))
  | capture (a b : Byte) :
      Effect s (.downstreamIdCapture a b) (unlessRestartDue (downstreamIdCapture a b) (freshPort s))
  | readEnd (n : Nat) (reply : SuspendReply) :
      Effect s (.readTransactionEnd n reply) (readTransactionEnd n reply (freshPort s))
  | verdict : Effect s .writeVerdict (unlessRestartDue writeVerdict (freshPort s))
  | completion : Effect s .operationCompletion (operationCompletion (freshPort s))
  | timeout : Effect s .operationTimeout (operationTimeout (freshPort s))
  | fetchReport (n : Nat) : Effect s (.fetchCountReport n) (endFetch (clockFetch n (freshPort s)))
  | delivery : Effect s .chunkDelivery (unlessRestartDue chunkDelivery (freshPort s))
  | chunkEnd : Effect s .chunkEnd (unlessRestartDue chunkEnd (freshPort s))
  | signature : Effect s .signatureCompletion (unlessRestartDue signatureCompletion (freshPort s))
  | writeEnd : Effect s .storeWriteEnd (storeWriteEnd (freshPort s))
  | expiry : Effect s .secretResponseExpiry (secretResponseExpiry (freshPort s))

/-- R26, R45, R203: the clocks of a whole transaction act as the command they spell, or are ignored. -/
theorem execIgnoredTransaction_effect (raw : RawTransaction) (s : State) :
    ∃ t, execIgnoredTransaction raw s = .next t ∧ Effect s (.ignoredTransaction raw) t := by
  unfold execIgnoredTransaction
  split
  · exact ⟨_, rfl, .ignored raw⟩
  · next b rest hb =>
    split
    · exact ⟨_, rfl, .ignored raw⟩
    · next c hc =>
      refine ⟨_, rfl, ?_⟩
      by_cases hread : c ≠ .read ∧ c ≠ .fastRead ∧ c ≠ .quadOutputRead
      · exact .bus raw.reply (by simp [spells, hb, hc]) hread
      · have hreply : CarriesReply raw.reply (.ignoredTransaction raw) := ⟨raw.clocks, 0, .inr (.inr (.inr rfl))⟩
        have hcases : c = .read ∨ c = .fastRead ∨ c = .quadOutputRead := by
          by_contra hn
          simp only [not_or] at hn
          exact hread hn
        obtain rfl | rfl | rfl := hcases <;> exact .read _ _ _ _ _ hreply

/-- Every command has a next state, by its kind. -/
theorem exec_effect (c : Instr) (s : State) : ∃ t, exec c s = .next t ∧ Effect s c t := by
  cases c with
  | powerOn => exact ⟨_, rfl, .powerOn⟩
  | pinReset => exact ⟨_, rfl, .pinReset⟩
  | rstNRelease => exact ⟨_, rfl, .rstNRelease⟩
  | restartReset => exact ⟨_, rfl, .restartReset⟩
  | flashResetRecoveryEnd => exact ⟨_, rfl, .recoveryEnd⟩
  | downstreamIdCapture a b => exact ⟨_, rfl, .capture a b⟩
  | read clocks n reply => exact ⟨_, rfl, .read _ _ _ _ _ ⟨clocks, n, .inl rfl⟩⟩
  | fastRead clocks n reply => exact ⟨_, rfl, .read _ _ _ _ _ ⟨clocks, n, .inr (.inl rfl)⟩⟩
  | quadOutputRead clocks n reply => exact ⟨_, rfl, .read _ _ _ _ _ ⟨clocks, n, .inr (.inr (.inl rfl))⟩⟩
  | readTransactionEnd n reply => exact ⟨_, rfl, .readEnd n reply⟩
  | readStatus n => exact ⟨_, rfl, .status n⟩
  | readId n => exact ⟨_, rfl, .id n⟩
  | writeEnable a b => exact ⟨_, rfl, .bus (b := .writeEnable) [] rfl (by decide)⟩
  | writeDisable a b => exact ⟨_, rfl, .bus (b := .writeDisable) [] rfl (by decide)⟩
  | pageProgram a b => exact ⟨_, rfl, .bus (b := .pageProgram) [] rfl (by decide)⟩
  | sectorErase a b => exact ⟨_, rfl, .bus (b := .sectorErase) [] rfl (by decide)⟩
  | blockErase a b => exact ⟨_, rfl, .bus (b := .blockErase) [] rfl (by decide)⟩
  | chipErase o a b => exact ⟨_, rfl, .bus (b := .chipErase o) [] rfl (by simp)⟩
  | writeVerdict => exact ⟨_, rfl, .verdict⟩
  | operationCompletion => exact ⟨_, rfl, .completion⟩
  | operationTimeout => exact ⟨_, rfl, .timeout⟩
  | managementPost a b => exact ⟨_, rfl, .bus (b := .managementPost) [] rfl (by decide)⟩
  | managementFetch n => exact ⟨_, rfl, .fetch n⟩
  | fetchCountReport n => exact ⟨_, rfl, .fetchReport n⟩
  | resetEnable a b => exact ⟨_, rfl, .bus (b := .resetEnable) [] rfl (by decide)⟩
  | reset a b => exact ⟨_, rfl, .bus (b := .reset) [] rfl (by decide)⟩
  | enterQuadAll a b => exact ⟨_, rfl, .bus (b := .enterQuadAll) [] rfl (by decide)⟩
  | exitQuadAll a b => exact ⟨_, rfl, .bus (b := .exitQuadAll) [] rfl (by decide)⟩
  | ignoredTransaction raw => exact execIgnoredTransaction_effect raw s
  | chunkDelivery => exact ⟨_, rfl, .delivery⟩
  | chunkEnd => exact ⟨_, rfl, .chunkEnd⟩
  | signatureCompletion => exact ⟨_, rfl, .signature⟩
  | storeWriteEnd => exact ⟨_, rfl, .writeEnd⟩
  | secretResponseExpiry => exact ⟨_, rfl, .expiry⟩
  | getInfo proof body => exact ⟨_, rfl, .request .getInfo proof body⟩
  | getStatus proof body => exact ⟨_, rfl, .request .getStatus proof body⟩
  | clearEvents proof body => exact ⟨_, rfl, .request .clearEvents proof body⟩
  | setAlertMask proof body => exact ⟨_, rfl, .request .setAlertMask proof body⟩
  | restart proof body => exact ⟨_, rfl, .request .restart proof body⟩
  | readMap proof body => exact ⟨_, rfl, .request .readMap proof body⟩
  | restrictRegion proof body => exact ⟨_, rfl, .request .restrictRegion proof body⟩
  | loadSlotMap proof body => exact ⟨_, rfl, .request .loadSlotMap proof body⟩
  | generateIdentity proof body => exact ⟨_, rfl, .request .generateIdentity proof body⟩
  | loadEndorsement proof body => exact ⟨_, rfl, .request .loadEndorsement proof body⟩
  | loadUpdateKey proof body => exact ⟨_, rfl, .request .loadUpdateKey proof body⟩
  | finishProvisioning proof body => exact ⟨_, rfl, .request .finishProvisioning proof body⟩
  | getIdentity proof body => exact ⟨_, rfl, .request .getIdentity proof body⟩
  | quote proof body => exact ⟨_, rfl, .request .quote proof body⟩
  | readLane proof body => exact ⟨_, rfl, .request .readLane proof body⟩
  | extendLane proof body => exact ⟨_, rfl, .request .extendLane proof body⟩
  | openStaging proof body => exact ⟨_, rfl, .request .openStaging proof body⟩
  | verifyStaged proof body => exact ⟨_, rfl, .request .verifyStaged proof body⟩
  | commitStaged proof body => exact ⟨_, rfl, .request .commitStaged proof body⟩
  | confirmActive proof body => exact ⟨_, rfl, .request .confirmActive proof body⟩
  | abandonStaging proof body => exact ⟨_, rfl, .request .abandonStaging proof body⟩
  | getSlotStatus proof body => exact ⟨_, rfl, .request .getSlotStatus proof body⟩
  | takeOwnership proof body => exact ⟨_, rfl, .request .takeOwnership proof body⟩
  | changeOwnerToken proof body => exact ⟨_, rfl, .request .changeOwnerToken proof body⟩
  | releaseOwnership proof body => exact ⟨_, rfl, .request .releaseOwnership proof body⟩
  | addUpdateKey proof body => exact ⟨_, rfl, .request .addUpdateKey proof body⟩
  | revokeUpdateKey proof body => exact ⟨_, rfl, .request .revokeUpdateKey proof body⟩
  | storeCredential proof body => exact ⟨_, rfl, .request .storeCredential proof body⟩
  | releaseCredential proof body => exact ⟨_, rfl, .request .releaseCredential proof body⟩
  | derive proof body => exact ⟨_, rfl, .request .derive proof body⟩
  | eraseCredential proof body => exact ⟨_, rfl, .request .eraseCredential proof body⟩
  | listCredentials proof body => exact ⟨_, rfl, .request .listCredentials proof body⟩

theorem effect_of_exec {c : Instr} {s t : State} (h : exec c s = .next t) : Effect s c t := by
  obtain ⟨u, hu, he⟩ := exec_effect c s
  obtain rfl : u = t := by simpa using hu.symm.trans h
  exact he

theorem step_empty {s : State} (h : s.pending = []) : step s = .next (tick s) := by
  unfold step
  rw [h]

/-- A step is a millisecond on an empty queue, or the effect of the command at the front on the queue's rest. -/
theorem step_cases {s t : State} (h : step s = .next t) :
    (s.pending = [] ∧ t = tick s) ∨
      ∃ c rest, s.pending = c :: rest ∧ Effect { s with pending := rest } c t := by
  unfold step at h
  split at h
  · next hp =>
    cases h
    exact .inl ⟨hp, rfl⟩
  · next c rest hp => exact .inr ⟨c, rest, hp, effect_of_exec h⟩

end Sys2Proof.Machine
end

section
/-! PROOFS. The machine as a whole: the front of the queue, the millisecond, and what every command leaves alone. -/

namespace Sys2Proof.Machine

/-! ### The frame of a transaction -/

@[simp] theorem transactionBegun_frame (s : State) :
    (transactionBegun s).bp.wel = s.bp.wel ∧ (transactionBegun s).bp.writeRecord = s.bp.writeRecord ∧
    (transactionBegun s).bp.laneMode = s.bp.laneMode ∧ (transactionBegun s).flash = s.flash ∧
    (transactionBegun s).store = s.store ∧ (transactionBegun s).pending = s.pending ∧
    (transactionBegun s).clock = s.clock ∧ (transactionBegun s).rstLow = s.rstLow ∧
    (transactionBegun s).mc.state = s.mc.state := by
  unfold transactionBegun
  simp

@[simp] theorem clearResetEnable_frame (s : State) :
    (clearResetEnable s).bp.wel = s.bp.wel ∧ (clearResetEnable s).bp.writeRecord = s.bp.writeRecord ∧
    (clearResetEnable s).bp.laneMode = s.bp.laneMode ∧ (clearResetEnable s).fp = s.fp ∧
    (clearResetEnable s).flash = s.flash ∧ (clearResetEnable s).store = s.store ∧
    (clearResetEnable s).pending = s.pending ∧ (clearResetEnable s).clock = s.clock ∧
    (clearResetEnable s).rstLow = s.rstLow ∧ (clearResetEnable s).mc = s.mc := by
  unfold clearResetEnable
  simp

/-- An item of the state that the begin of a transaction and its act leave alone stands. -/
theorem transaction_keeps {α : Type} (f : State → α) {act : State → State} (s : State)
    (hfresh : f (freshPort s) = f s) (hbegun : f (transactionBegun s) = f s)
    (hact : f (act (transactionBegun s)) = f (transactionBegun s)) : f (transaction act s) = f s := by
  rw [transaction_eq]
  split
  · exact hfresh
  · exact hact.trans hbegun

theorem wholeTransaction_keeps {α : Type} (f : State → α) {act : State → State} (s : State)
    (hfresh : f (freshPort s) = f s) (hbegun : f (clearResetEnable (transactionBegun s)) = f s)
    (hact : ∀ u, f (act u) = f u) : f (wholeTransaction act s) = f s := by
  rw [wholeTransaction, transaction_eq]
  split
  · exact hfresh
  · exact (hact _).trans hbegun

theorem takenCommand_keeps {α : Type} (f : State → α) {leading : Nat} {clocks : List Clock}
    {act : Bytes → State → State} (s : State) (hfresh : f (freshPort s) = f s)
    (hbegun : f (clearResetEnable (transactionBegun s)) = f s) (hact : ∀ received u, f (act received u) = f u) :
    f (takenCommand leading clocks act s) = f s := by
  refine wholeTransaction_keeps f s hfresh hbegun fun u => ?_
  dsimp only
  split
  · exact hact _ u
  · rfl

/-! ### The queue of commands (log 23) -/

theorem readCommand_pending (leading : Nat) (quad : Bool) (clocks : List Clock) (n : Nat) (reply : SuspendReply)
    (s : State) : (readCommand leading quad clocks n reply s).pending = s.pending := by
  refine transaction_keeps (·.pending) s (by simp) (by simp) ?_
  dsimp only
  split <;> simp

theorem received_pending {dispatch : State → State} {u t : State} (hd : ∀ v, (dispatch v).pending = v.pending)
    (h : Received dispatch u t) : t.pending = u.pending := by
  cases h with
  | dropped => rfl
  | badFrame kept => simp
  | taken kept => simp [hd]

theorem posted_pending {dispatch : State → State} {s t : State} (hd : ∀ v, (dispatch v).pending = v.pending)
    (h : Posted dispatch s t) : t.pending = s.pending := by
  cases h with
  | held => rfl
  | ended => simp
  | received _ h => simpa [postBegun] using received_pending hd h

theorem busCommand_pending (c : BusCommand) (clocks : List Clock) (reply : SuspendReply) (s : State) :
    (busCommand c clocks reply s).pending = s.pending := by
  have htaken : ∀ {leading} {act : Bytes → State → State}, (∀ received u, (act received u).pending = u.pending) →
      (takenCommand leading clocks act s).pending = s.pending :=
    fun h => takenCommand_keeps (·.pending) s (by simp) (by simp) h
  cases c with
  | read => exact readCommand_pending ..
  | fastRead => exact readCommand_pending ..
  | quadOutputRead => exact readCommand_pending ..
  | writeEnable => exact htaken fun _ u => by split <;> rfl
  | writeDisable => exact htaken fun _ u => rfl
  | readStatus => exact wholeTransaction_keeps (·.pending) s (by simp) (by simp) fun u => by simp
  | pageProgram =>
    refine wholeTransaction_keeps (·.pending) s (by simp) (by simp) fun u => ?_
    dsimp only
    split <;> simp
  | managementPost => exact posted_pending (fun v => by simp) (posted_managementPost clocks s)
  | managementFetch => exact transaction_keeps (·.pending) s (by simp) (by simp) (by simp)
  | sectorErase => exact htaken fun _ u => by simp
  | blockErase => exact htaken fun _ u => by simp
  | chipErase => exact htaken fun _ u => by simp
  | readId => exact wholeTransaction_keeps (·.pending) s (by simp) (by simp) fun u => by simp
  | resetEnable => exact transaction_keeps (·.pending) s (by simp) (by simp) (by simp)
  | reset =>
    refine transaction_keeps (·.pending) s (by simp) (by simp) ?_
    split <;> simp
  | enterQuadAll => exact htaken fun _ u => rfl
  | exitQuadAll => exact htaken fun _ u => rfl

theorem unlessRestartDue_keeps {α : Type} (f : State → α) {event : State → State} {s : State}
    (h : f (event s) = f s) : f (unlessRestartDue event s) = f s := by
  unfold unlessRestartDue
  split
  · rfl
  · exact h

theorem signatureCompletion_cases (s : State) :
    signatureCompletion s = s ∨
      (∃ v, s.su.scan = some v ∧ v.running = true ∧ signatureCompletion s = settle (scanSignature v.op s)) ∨
      ∃ c, s.su.channel = some c ∧ c.running = true ∧ signatureCompletion s = settle (channelSignature c.op s) := by
  unfold signatureCompletion
  split
  · next v hv =>
    split
    · next hrun => exact .inr (.inl ⟨v, hv, hrun, rfl⟩)
    · split
      · next c hc =>
        split
        · next hrun => exact .inr (.inr ⟨c, hc, hrun, rfl⟩)
        · exact .inl rfl
      · exact .inl rfl
  · next c _ hc =>
    split
    · next hrun => exact .inr (.inr ⟨c, hc, hrun, rfl⟩)
    · exact .inl rfl
  · exact .inl rfl

theorem channelSignature_pending (op : SigOp) (s : State) : (channelSignature op s).pending = s.pending := by
  unfold channelSignature quoteSigned
  split
  · simp
  · dsimp only
    split
    · rfl
    · split <;> rfl
  · rfl

theorem signatureCompletion_pending (s : State) : (signatureCompletion s).pending = s.pending := by
  obtain h | ⟨v, -, -, h⟩ | ⟨c, -, -, h⟩ := signatureCompletion_cases s <;> rw [h]
  · simp
  · simp [channelSignature_pending]

theorem ignored_pending (s : State) : (ignored s).pending = s.pending :=
  wholeTransaction_keeps (·.pending) s (by simp) (by simp) fun _ => rfl

theorem requestCommand_pending (r : Request) (proof : Option Bytes) (body : Bytes) (s : State) :
    (requestCommand r (takeRequest r) proof body s).pending = s.pending := by
  obtain ⟨-, h⟩ | h := requestCommand_cases r (takeRequest r) proof body s
  · simpa using received_pending (fun v => by simp) h
  · exact posted_pending (fun v => by simp) h

/-- No command touches the queue behind it (log 23). -/
theorem effect_pending {c : Instr} {s t : State} (h : Effect s c t) : t.pending = s.pending := by
  cases h with
  | request r proof body => exact requestCommand_pending r proof body s
  | read => exact readCommand_pending ..
  | bus => exact busCommand_pending ..
  | status n => exact wholeTransaction_keeps (·.pending) s (by simp) (by simp) fun u => by simp
  | id n => exact wholeTransaction_keeps (·.pending) s (by simp) (by simp) fun u => by simp
  | fetch n => exact transaction_keeps (·.pending) s (by simp) (by simp) (by simp)
  | ignored => exact ignored_pending s
  | powerOn => split <;> simp
  | pinReset => simp
  | rstNRelease => split <;> simp
  | restartReset => simp
  | recoveryEnd => exact unlessRestartDue_keeps (·.pending) (s := freshPort s) (by simp)
  | capture => exact unlessRestartDue_keeps (·.pending) (s := freshPort s) (by simp)
  | readEnd => simp
  | verdict => exact unlessRestartDue_keeps (·.pending) (s := freshPort s) (by simp)
  | completion => simp
  | timeout => simp
  | fetchReport => simp
  | delivery => exact unlessRestartDue_keeps (·.pending) (s := freshPort s) (by simp)
  | chunkEnd => exact unlessRestartDue_keeps (·.pending) (s := freshPort s) (by simp)
  | signature => exact unlessRestartDue_keeps (·.pending) (s := freshPort s) (signatureCompletion_pending _)
  | writeEnd => simp
  | expiry => simp

/-! ### The millisecond (log 4) -/

/-- R182: no expiry is due by the next millisecond. -/
def notExpiring (s : State) : Prop := ∀ m, s.mc.scrubTimer = some m → s.clock + 1 < m

/-- The state in which the running time of a millisecond counts: the clock has advanced. -/
def clockAdvanced (s : State) : State := { freshPort s with clock := s.clock + 1 }

theorem tick_eq (s : State) : tick s = runOneMillisecond (expireIfDue (clockAdvanced s)) := rfl

theorem expireIfDue_notExpiring {s : State} (h : notExpiring s) : expireIfDue (clockAdvanced s) = clockAdvanced s := by
  unfold expireIfDue
  rw [if_neg]
  simp only [Option.any_eq_true, decide_eq_true_eq, not_exists, not_and]
  intro m hm
  have := h m hm
  show ¬ m ≤ s.clock + 1
  omega

theorem runOneMillisecond_idle {s : State} (h : ∀ o, s.fp.op = some o → o.phase ≠ .running) :
    runOneMillisecond s = s := by
  unfold runOneMillisecond
  split
  · rfl
  · next o ho => rw [if_neg (h o ho)]

theorem runOneMillisecond_running {s : State} {o : FlightOp} (ho : s.fp.op = some o) (hp : o.phase = .running) :
    runOneMillisecond s =
      if timeLimit o.kind ≤ o.runningTime + 1 then
        timeOut { o with runningTime := o.runningTime + 1 }
          { s with fp.op := some { o with runningTime := o.runningTime + 1 } }
      else { s with fp.op := some { o with runningTime := o.runningTime + 1 } } := by
  unfold runOneMillisecond
  rw [ho]
  exact if_pos hp

theorem expireIfDue_due {s : State} {m : Nat} {r : Response} (hm : s.mc.scrubTimer = some m) (hdue : m ≤ s.clock)
    (hr : s.mc.response = some r) (hs : r.secret = true) :
    expireIfDue s = emptyResponse { s with clock := max s.clock m } := by
  unfold expireIfDue secretResponseExpiry
  rw [hm, if_pos (by simpa using hdue)]
  exact if_pos (by simp [hr, hs])

theorem timeOut_ends (o : FlightOp) (s : State) :
    (timeOut o s).fp.op = none ∧ (timeOut o s).bp.writeRecord = .none := by
  unfold timeOut settle
  split
  · exact ⟨rfl, rfl⟩
  · simp [startOperation, completeOperation, send]

theorem scrub_clock (s : State) : (scrub s).clock = s.clock := by simp

/-- An expiry within a millisecond falls on its end, where the oscillator stands already. -/
theorem expireIfDue_clock (s : State) : (expireIfDue s).clock = s.clock := by
  unfold expireIfDue
  split
  · next h =>
    obtain ⟨m, hm, hle⟩ := Option.any_eq_true .. |>.1 h
    unfold secretResponseExpiry
    rw [hm]
    exact (scrub_clock _).trans (max_eq_left (by simpa using hle))
  · rfl

theorem tick_clock (s : State) : (tick s).clock = s.clock + 1 := by
  rw [tick_eq]
  simp [expireIfDue_clock, clockAdvanced]

end Sys2Proof.Machine

namespace Sys2Proof.WholeMachine

open Sys2Proof Sys2Proof.Machine

/-- Settles O1: the dispatch of a step. -/
theorem stepRunsFrontCommand : Obligations.StepRunsFrontCommand := by
  unfold Obligations.StepRunsFrontCommand
  intro c s rest
  rfl

/-- Settles O2, by whether an expiry is due and whether an operation runs. -/
theorem emptyQueueIsOneMillisecond : Obligations.EmptyQueueIsOneMillisecond := by
  unfold Obligations.EmptyQueueIsOneMillisecond
  intro s hp
  rw [step_empty hp]
  refine ⟨fun hm ho => ?_, fun o hm ho hr hlimit => ?_, fun o ho hr hlimit => ?_, fun m r hm hdue hr hs => ?_,
    rfl, rfl, rfl, rfl⟩
  · rw [tick_eq, expireIfDue_notExpiring hm, runOneMillisecond_idle (by exact ho)]
    rfl
  · rw [tick_eq, expireIfDue_notExpiring hm, runOneMillisecond_running (by exact ho) hr, if_neg (by omega)]
    rfl
  · have hop : (expireIfDue (clockAdvanced s)).fp.op = some o := by simpa [clockAdvanced] using ho
    refine ⟨tick s, rfl, tick_clock s, ?_⟩
    rw [tick_eq, runOneMillisecond_running hop hr, if_pos hlimit]
    exact timeOut_ends _ _
  · refine ⟨tick s, rfl, tick_clock s, ?_⟩
    rw [tick_eq, expireIfDue_due (s := clockAdvanced s) hm hdue hr hs]
    simp

/-- Settles O3: every command has an effect, and none of them touches the queue. -/
theorem commandsAnswerAndKeepQueue : Obligations.CommandsAnswerAndKeepQueue := by
  unfold Obligations.CommandsAnswerAndKeepQueue
  intro c s
  obtain ⟨t, ht, he⟩ := exec_effect c s
  exact ⟨t, ht, effect_pending he⟩

/-- Settles O4, by computation. -/
theorem resetStateValues : Obligations.ResetStateValues := by
  unfold Obligations.ResetStateValues
  exact ⟨rfl, rfl, rfl, rfl, rfl, rfl, rfl, rfl, rfl, rfl, rfl, rfl, rfl, rfl, rfl, rfl, rfl, by decide, rfl, rfl,
    rfl, rfl, rfl, rfl, rfl, rfl, rfl, rfl, rfl, rfl, rfl, rfl, rfl, rfl, rfl, rfl, rfl, rfl, rfl, rfl, rfl, rfl,
    rfl, rfl, rfl, rfl, rfl, rfl, rfl, rfl, rfl, rfl, rfl, rfl, rfl, rfl, rfl, rfl, rfl, rfl⟩

end Sys2Proof.WholeMachine
end

section
/-! PROOFS. The flash: which events change its contents, where, and in what form. -/

namespace Sys2Proof.Machine

/-! ### One command's change of the flash -/

/-- The flash stands, or the command in hand has ended or been cut short in it. -/
def FlashMove (f g : Flash) (o : FlightOp) : Prop := g = f ∨ g = f.finish o ∨ ∃ draw, g = f.cutShort o draw

theorem FlashMove.wf {f g : Flash} {o : FlightOp} (h : FlashMove f g o) (hf : f.wf = true) : g.wf = true := by
  obtain rfl | rfl | ⟨draw, rfl⟩ := h
  · exact hf
  · exact Flash.finish_wf o hf
  · exact Flash.cutShort_wf o draw hf

theorem not_inHand_iff {o : FlightOp} {p : Nat} :
    inHand o p = false ↔ p < o.target ∨ o.target + commandLength o.kind ≤ p := by
  rw [← Bool.not_eq_true, inHand, Bool.and_eq_true, decide_eq_true_eq, decide_eq_true_eq]
  omega

/-- Outside the range in hand a command changes no byte. -/
theorem FlashMove.read {f g : Flash} {o : FlightOp} {p : Nat} (h : FlashMove f g o) (hp : inHand o p = false) :
    g.read p = f.read p := by
  rw [not_inHand_iff] at hp
  obtain rfl | rfl | ⟨draw, rfl⟩ := h
  · rfl
  · exact Flash.read_write_outside _ _ _ _ _ hp
  · exact Flash.read_write_outside _ _ _ _ _ hp

/-! ### The operation through the end of a transaction -/

/-- The range of an operation: what its command in hand covers. -/
def SameRange (o p : FlightOp) : Prop :=
  o.kind = p.kind ∧ o.targets = p.targets ∧ o.index = p.index

theorem SameRange.inHand {o p : FlightOp} (h : SameRange o p) (a : Nat) : inHand o a = inHand p a := by
  obtain ⟨hk, ht, hi⟩ := h
  unfold Machine.inHand FlightOp.target
  rw [hk, ht, hi]

/-- The operation in flight, where there is one, is the one of `s` with its range. -/
def RangeKept (s t : State) : Prop := ∀ o, t.fp.op = some o → ∃ p, s.fp.op = some p ∧ SameRange o p

theorem RangeKept.of_eq {s t : State} (h : t.fp.op = s.fp.op) : RangeKept s t := fun o ho => ⟨o, h ▸ ho, rfl, rfl, rfl⟩

theorem RangeKept.trans {s t u : State} (h₁ : RangeKept s t) (h₂ : RangeKept t u) : RangeKept s u := by
  intro o ho
  obtain ⟨p, hp, hk, ht, hi⟩ := h₂ o ho
  obtain ⟨q, hq, hk', ht', hi'⟩ := h₁ p hp
  exact ⟨q, hq, hk.trans hk', ht.trans ht', hi.trans hi'⟩

theorem rangeKept_startOperation (s : State) : RangeKept s (startOperation s) := by
  unfold startOperation
  split
  · exact .of_eq rfl
  · next o ho =>
    split
    · intro p hp
      cases hp
      exact ⟨o, ho, rfl, rfl, rfl⟩
    · exact .of_eq rfl

theorem settle_op (s : State) : (settle s).fp.op = s.fp.op ∨ (settle s).fp.op = (startOperation s).fp.op := by
  unfold settle
  split
  · exact .inl rfl
  · exact .inr (by simp)

theorem rangeKept_settle (s : State) : RangeKept s (settle s) := by
  obtain h | h := settle_op s
  · exact .of_eq h
  · intro o ho
    exact rangeKept_startOperation s o (h ▸ ho)

theorem rangeKept_resumeOperation (s : State) : RangeKept s (resumeOperation s) := by
  unfold resumeOperation
  split
  · exact .of_eq rfl
  · next o ho =>
    split
    · intro p hp
      cases hp
      exact ⟨o, ho, rfl, rfl, rfl⟩
    · exact .of_eq rfl

theorem rangeKept_endRead (s : State) : RangeKept s (endRead s) := by
  unfold endRead
  split
  · exact .of_eq rfl
  · dsimp only
    split
    · refine RangeKept.trans ?_ ((rangeKept_resumeOperation _).trans (rangeKept_settle _))
      exact .of_eq rfl
    · exact .of_eq rfl

theorem rangeKept_transactionBegun (s : State) : RangeKept s (transactionBegun s) := by
  refine RangeKept.trans (t := endFetch (freshPort s)) (.of_eq ?_) (rangeKept_endRead _)
  simp

/-! ### Reads -/

/-- No operation is RUNNING. -/
def NotRunning (s : State) : Prop := ∀ o, s.fp.op = some o → o.phase ≠ .running

/-- What the bytes of a read do to the flash: nothing, or the first suspend finds the command ended. Once suspended or
ended, no command runs until the select rises. -/
structure StreamMove (reply : SuspendReply) (s t : State) : Prop where
  flash : t.flash = s.flash ∨
    ∃ o, s.fp.op = some o ∧ o.phase = .running ∧ suspendFindsEnded reply = true ∧ s.flash.present = true ∧
      t.flash = s.flash.finish o ∧ NotRunning t
  op : t.fp.op = s.fp.op ∨ NotRunning t

theorem StreamMove.of_eq {reply : SuspendReply} {s t : State} (hf : t.flash = s.flash) (ho : t.fp.op = s.fp.op) :
    StreamMove reply s t := ⟨.inl hf, .inl ho⟩

theorem NotRunning.of_eq {s t : State} (h : NotRunning s) (ho : t.fp.op = s.fp.op) : NotRunning t :=
  fun o h' => h o (ho ▸ h')

theorem StreamMove.trans {reply : SuspendReply} {s t u : State} (h₁ : StreamMove reply s t)
    (h₂ : StreamMove reply t u) : StreamMove reply s u := by
  have hop : NotRunning t → NotRunning u := fun h => by
    obtain ho | ho := h₂.op
    · exact h.of_eq ho
    · exact ho
  refine ⟨?_, ?_⟩
  · obtain hf | ⟨o, ho, hr, he, hp, hf, hn⟩ := h₂.flash
    · obtain hf' | ⟨o, ho, hr, he, hp, hf', hn⟩ := h₁.flash
      · exact .inl (hf.trans hf')
      · exact .inr ⟨o, ho, hr, he, hp, hf.trans hf', hop hn⟩
    · obtain ho' | hn' := h₁.op
      · obtain hf' | ⟨_, _, _, _, _, _, hn''⟩ := h₁.flash
        · exact .inr ⟨o, ho' ▸ ho, hr, he, hf' ▸ hp, by rw [hf, hf'], hn⟩
        · exact absurd hr (hn'' o ho)
      · exact absurd hr (hn' o ho)
  · obtain ho | hn := h₂.op
    · obtain ho' | hn' := h₁.op
      · exact .inl (ho.trans ho')
      · exact .inr (hop hn')
    · exact .inr hn

/-- An absent flash shows the command suspended, so only a fitted one is found ended. -/
theorem answeredPairs_ended {s : State} {reply : SuspendReply}
    (h : suspendFindsEnded (answeredPairs s reply) = true) : s.flash.present = true ∧ suspendFindsEnded reply = true := by
  unfold answeredPairs at h
  split at h
  · next hp => exact ⟨hp, h⟩
  · exact absurd h (by decide)

theorem endCommand_notRunning (o : FlightOp) (s : State) : NotRunning (endCommand o s) := by
  unfold endCommand completeOperation
  dsimp only
  split
  · intro p hp
    cases hp
    simp
  · intro p hp
    cases hp

theorem endCommand_flash (o : FlightOp) (s : State) : (endCommand o s).flash = s.flash.finish o := by
  unfold endCommand completeOperation
  dsimp only
  split <;> rfl

theorem streamMove_suspendOperation (reply : SuspendReply) (s : State) :
    StreamMove reply s (suspendOperation reply s) := by
  unfold suspendOperation
  split
  · exact .of_eq rfl rfl
  · next o ho =>
    split
    · next hr =>
      dsimp only
      split
      · next he =>
        obtain ⟨hp, he⟩ := answeredPairs_ended he
        exact ⟨.inr ⟨o, ho, hr, he, hp, endCommand_flash o _, endCommand_notRunning o _⟩,
          .inr (endCommand_notRunning o _)⟩
      · refine ⟨.inl rfl, .inr fun p hp => ?_⟩
        cases hp
        simp
    · exact .of_eq rfl rfl

theorem streamMove_beginRun (p : Nat) (reply : SuspendReply) (s : State) : StreamMove reply s (beginRun p reply s) := by
  unfold beginRun
  dsimp only
  split
  · exact streamMove_suspendOperation reply s
  · refine (streamMove_suspendOperation reply s).trans (.of_eq ?_ ?_) <;> simp

theorem streamMove_supplyByte (reply : SuspendReply) (s : State) : StreamMove reply s (supplyByte reply s) := by
  unfold supplyByte
  split
  · exact .of_eq rfl rfl
  · split
    · exact .of_eq rfl rfl
    · split
      · exact .of_eq rfl rfl
      · next i p _ =>
        have hrun : StreamMove reply s (if s.fp.run = some p then s else beginRun p reply s) := by
          split
          · exact .of_eq rfl rfl
          · exact streamMove_beginRun p reply s
        refine hrun.trans ?_
        generalize (if s.fp.run = some p then s else beginRun p reply s) = u
        dsimp only
        split
        · exact .of_eq rfl rfl
        · exact .of_eq (by simp) (by simp)

theorem streamMove_supplyBytes (reply : SuspendReply) (n : Nat) (s : State) :
    StreamMove reply s (supplyBytes reply n s) := by
  induction n generalizing s with
  | zero => exact .of_eq rfl rfl
  | succ n ih => exact (streamMove_supplyByte reply s).trans (ih _)

theorem streamMove_clockData (reply : SuspendReply) (n : Nat) (s : State) :
    StreamMove reply s (clockData reply n s) := by
  unfold clockData
  split
  · exact .of_eq rfl rfl
  · split
    · refine StreamMove.trans ?_ (streamMove_supplyBytes reply _ _)
      exact .of_eq rfl rfl
    · exact .of_eq rfl rfl

theorem streamMove_startStream (reply : SuspendReply) (s : State) : StreamMove reply s (startStream reply s) := by
  unfold startStream
  split
  · exact .of_eq rfl rfl
  · exact streamMove_beginRun _ reply s

/-! ### What a step does to the flash -/

/-- In state `s` the flash moves to `g` by the operation in flight. -/
def FlashStep (s : State) (g : Flash) : Prop := g = s.flash ∨ ∃ o p, s.fp.op = some o ∧ SameRange p o ∧ FlashMove s.flash g p

theorem FlashStep.wf {s : State} {g : Flash} (h : FlashStep s g) (hs : s.flash.wf = true) : g.wf = true := by
  obtain rfl | ⟨o, p, -, -, hm⟩ := h
  · exact hs
  · exact hm.wf hs

theorem FlashStep.inHand {s : State} {g : Flash} {a : Nat} (h : FlashStep s g) (ha : g.read a ≠ s.flash.read a) :
    ∃ o, s.fp.op = some o ∧ inHand o a = true := by
  obtain rfl | ⟨o, p, ho, hr, hm⟩ := h
  · exact absurd rfl ha
  · refine ⟨o, ho, ?_⟩
    by_contra hn
    exact ha (hm.read (by rw [hr.inHand]; simpa using hn))

/-- The rows with an event that may change the flash. -/
def FlashEvent (c : Instr) : Prop :=
  c = .operationCompletion ∨ c = .operationTimeout ∨ c = .powerOn ∨ c = .pinReset ∨
    ∃ clocks n reply, suspendFindsEnded reply = true ∧
      (c = .read clocks n reply ∨ c = .fastRead clocks n reply ∨ c = .quadOutputRead clocks n reply ∨
        c = .readTransactionEnd n reply ∨ c = .ignoredTransaction ⟨clocks, reply⟩)

/-- What a command does to the flash: nothing, or the change of one command of the operation in flight, at an event
that may make it. -/
def FlashEffect (s : State) (c : Instr) (t : State) : Prop :=
  t.flash = s.flash ∨ (FlashStep s t.flash ∧ FlashEvent c)

theorem flashStep_of_stream {reply : SuspendReply} {s u t : State} (hf : u.flash = s.flash) (ho : RangeKept s u)
    (h : StreamMove reply u t) : t.flash = s.flash ∨ (FlashStep s t.flash ∧ suspendFindsEnded reply = true) := by
  obtain h | ⟨o, hop, -, he, -, h, -⟩ := h.flash
  · exact .inl (h.trans hf)
  · obtain ⟨p, hp, hr⟩ := ho o hop
    exact .inr ⟨.inr ⟨p, o, hp, hr, .inr (.inl (by rw [h, hf]))⟩, he⟩

theorem readCommand_flash (leading : Nat) (quad : Bool) (clocks : List Clock) (n : Nat) (reply : SuspendReply)
    (s : State) :
    (readCommand leading quad clocks n reply s).flash = s.flash ∨
      (FlashStep s (readCommand leading quad clocks n reply s).flash ∧ suspendFindsEnded reply = true) := by
  unfold readCommand
  rw [transaction_eq]
  split
  · exact .inl rfl
  · refine flashStep_of_stream (u := transactionBegun s) (by simp) (rangeKept_transactionBegun s) ?_
    dsimp only
    refine StreamMove.trans ?_ (streamMove_clockData reply _ _)
    split
    · refine StreamMove.trans ?_ (streamMove_startStream reply _)
      exact .of_eq rfl rfl
    · exact .of_eq rfl rfl

theorem readTransactionEnd_flash (n : Nat) (reply : SuspendReply) (s : State) :
    (readTransactionEnd n reply s).flash = s.flash ∨
      (FlashStep s (readTransactionEnd n reply s).flash ∧ suspendFindsEnded reply = true) := by
  have hend : (readTransactionEnd n reply s).flash = (clockData reply n s).flash := by simp [readTransactionEnd]
  rw [hend]
  exact flashStep_of_stream rfl (.of_eq rfl) (streamMove_clockData reply n s)

theorem received_flash {dispatch : State → State} {u t : State} (hd : ∀ v, (dispatch v).flash = v.flash)
    (h : Received dispatch u t) : t.flash = u.flash := by
  cases h with
  | dropped => rfl
  | badFrame kept => simp
  | taken kept => simp [hd]

theorem posted_flash {dispatch : State → State} {s t : State} (hd : ∀ v, (dispatch v).flash = v.flash)
    (h : Posted dispatch s t) : t.flash = s.flash := by
  cases h with
  | held => rfl
  | ended => simp
  | received _ h => simpa [postBegun] using received_flash hd h

theorem requestCommand_flash (r : Request) (proof : Option Bytes) (body : Bytes) (s : State) :
    (requestCommand r (takeRequest r) proof body s).flash = s.flash := by
  obtain ⟨-, h⟩ | h := requestCommand_cases r (takeRequest r) proof body s
  · simpa using received_flash (fun v => by simp) h
  · exact posted_flash (fun v => by simp) h

/-- A bus command that is no read leaves the flash alone. -/
theorem busCommand_flash {c : BusCommand} (hc : c ≠ .read ∧ c ≠ .fastRead ∧ c ≠ .quadOutputRead)
    (clocks : List Clock) (reply : SuspendReply) (s : State) : (busCommand c clocks reply s).flash = s.flash := by
  have htaken : ∀ {leading} {act : Bytes → State → State}, (∀ received u, (act received u).flash = u.flash) →
      (takenCommand leading clocks act s).flash = s.flash :=
    fun h => takenCommand_keeps (·.flash) s (by simp) (by simp) h
  cases c with
  | read => exact absurd rfl hc.1
  | fastRead => exact absurd rfl hc.2.1
  | quadOutputRead => exact absurd rfl hc.2.2
  | writeEnable => exact htaken fun _ u => by split <;> rfl
  | writeDisable => exact htaken fun _ u => rfl
  | readStatus => exact wholeTransaction_keeps (·.flash) s (by simp) (by simp) fun u => by simp
  | pageProgram =>
    refine wholeTransaction_keeps (·.flash) s (by simp) (by simp) fun u => ?_
    dsimp only
    split <;> simp
  | managementPost => exact posted_flash (fun v => by simp) (posted_managementPost clocks s)
  | managementFetch => exact transaction_keeps (·.flash) s (by simp) (by simp) (by simp)
  | sectorErase => exact htaken fun _ u => by simp
  | blockErase => exact htaken fun _ u => by simp
  | chipErase => exact htaken fun _ u => by simp
  | readId => exact wholeTransaction_keeps (·.flash) s (by simp) (by simp) fun u => by simp
  | resetEnable => exact transaction_keeps (·.flash) s (by simp) (by simp) (by simp)
  | reset =>
    refine transaction_keeps (·.flash) s (by simp) (by simp) ?_
    split <;> simp
  | enterQuadAll => exact htaken fun _ u => rfl
  | exitQuadAll => exact htaken fun _ u => rfl

theorem operationCompletion_flash (s : State) :
    (operationCompletion s).flash = s.flash ∨ FlashStep s (operationCompletion s).flash := by
  unfold operationCompletion
  split
  · exact .inl rfl
  · next o ho =>
    split
    · dsimp only
      split
      · refine .inr (.inr ⟨o, o, ho, ⟨rfl, rfl, rfl⟩, .inr (.inl ?_)⟩)
        simp [endCommand_flash]
      · exact .inl rfl
    · exact .inl rfl

theorem timeOut_flash (o : FlightOp) (s : State) : (timeOut o s).flash = s.flash.cutShort o s.draws := by
  simp [timeOut, completeOperation]

theorem operationTimeout_flash (s : State) :
    (operationTimeout s).flash = s.flash ∨ FlashStep s (operationTimeout s).flash := by
  unfold operationTimeout
  split
  · exact .inl rfl
  · next o ho =>
    split
    · exact .inr (.inr ⟨o, o, ho, ⟨rfl, rfl, rfl⟩, .inr (.inr ⟨_, timeOut_flash o s⟩)⟩)
    · exact .inl rfl

/-- R58: a millisecond changes the flash only where the running time reaches its limit. -/
theorem tick_flash (s : State) :
    (tick s).flash = s.flash ∨
      ∃ o draw, s.fp.op = some o ∧ o.phase = .running ∧ timeLimit o.kind ≤ o.runningTime + 1 ∧
        (tick s).flash = s.flash.cutShort { o with runningTime := o.runningTime + 1 } draw := by
  rw [tick_eq]
  have hflash : (expireIfDue (clockAdvanced s)).flash = s.flash := by simp [clockAdvanced]
  have hop : (expireIfDue (clockAdvanced s)).fp.op = s.fp.op := by simp [clockAdvanced]
  by_cases hrun : ∀ o, (expireIfDue (clockAdvanced s)).fp.op = some o → o.phase ≠ .running
  · exact .inl (by rw [runOneMillisecond_idle hrun, hflash])
  · push Not at hrun
    obtain ⟨o, ho, hr⟩ := hrun
    rw [runOneMillisecond_running ho hr]
    split
    · next hlimit =>
      exact .inr ⟨o, _, hop ▸ ho, hr, hlimit, by rw [timeOut_flash]; exact congrArg (Flash.cutShort · _ _) hflash⟩
    · exact .inl hflash

theorem hardReset_flash (s : State) : FlashStep s (hardReset s).flash := by
  unfold hardReset partReset abandonOperation
  dsimp only
  split
  · exact .inl (by simp)
  · next o ho =>
    split
    · exact .inl (by simp)
    · exact .inr ⟨o, o, by simpa using ho, ⟨rfl, rfl, rfl⟩, .inr (.inr ⟨_, by simp; rfl⟩)⟩

theorem channelSignature_flash (op : SigOp) (s : State) : (channelSignature op s).flash = s.flash := by
  unfold channelSignature quoteSigned
  split
  · simp
  · dsimp only
    split
    · rfl
    · split <;> rfl
  · rfl

theorem signatureCompletion_flash (s : State) : (signatureCompletion s).flash = s.flash := by
  obtain h | ⟨v, -, -, h⟩ | ⟨c, -, -, h⟩ := signatureCompletion_cases s <;> rw [h]
  · simp
  · simp [channelSignature_flash]

theorem effect_flash {c : Instr} {s t : State} (h : Effect s c t) : FlashEffect s c t := by
  have hevent : ∀ {event : State → State}, (∀ u, (event u).flash = u.flash) →
      (unlessRestartDue event (freshPort s)).flash = s.flash :=
    fun h => unlessRestartDue_keeps (·.flash) (s := freshPort s) (h _)
  cases h with
  | request r proof body => exact .inl (requestCommand_flash r proof body s)
  | read leading quad clocks n reply hc =>
    refine (readCommand_flash leading quad clocks n reply s).imp_right fun h => ⟨h.1, ?_⟩
    obtain ⟨clocks', n', hc⟩ := hc
    exact .inr (.inr (.inr (.inr ⟨clocks', n', reply, h.2,
      hc.imp_right (Or.imp_right (Or.imp_right Or.inr))⟩)))
  | bus reply _ hb => exact .inl (busCommand_flash hb _ reply s)
  | status n => exact .inl (wholeTransaction_keeps (·.flash) s (by simp) (by simp) fun u => by simp)
  | id n => exact .inl (wholeTransaction_keeps (·.flash) s (by simp) (by simp) fun u => by simp)
  | fetch n => exact .inl (transaction_keeps (·.flash) s (by simp) (by simp) (by simp))
  | ignored => exact .inl (wholeTransaction_keeps (·.flash) s (by simp) (by simp) fun _ => rfl)
  | powerOn =>
    refine .inr ⟨?_, .inr (.inr (.inl rfl))⟩
    split
    · exact hardReset_flash s
    · simpa using hardReset_flash s
  | pinReset => exact .inr ⟨hardReset_flash s, .inr (.inr (.inr (.inl rfl)))⟩
  | rstNRelease =>
    refine .inl ?_
    split <;> simp
  | restartReset => exact .inl (by simp)
  | recoveryEnd => exact .inl (hevent fun u => by simp)
  | capture => exact .inl (hevent fun u => by simp)
  | readEnd n reply =>
    refine (readTransactionEnd_flash n reply (freshPort s)).imp_right fun h => ⟨h.1, ?_⟩
    exact .inr (.inr (.inr (.inr ⟨[], n, reply, h.2, .inr (.inr (.inr (.inl rfl)))⟩)))
  | verdict => exact .inl (hevent fun u => by simp)
  | completion => exact (operationCompletion_flash (freshPort s)).imp_right fun h => ⟨h, .inl rfl⟩
  | timeout => exact (operationTimeout_flash (freshPort s)).imp_right fun h => ⟨h, .inr (.inl rfl)⟩
  | fetchReport => exact .inl (by simp)
  | delivery => exact .inl (hevent fun u => by simp)
  | chunkEnd => exact .inl (hevent fun u => by simp)
  | signature => exact .inl (hevent fun u => signatureCompletion_flash u)
  | writeEnd => exact .inl (by simp)
  | expiry => exact .inl (by simp)

end Sys2Proof.Machine

namespace Sys2Proof.FlashBehind

open Sys2Proof Sys2Proof.Machine

/-- Settles O5: every change is the end or the cut of a command, and both keep the form. -/
theorem flashContentsStayCanonical : Obligations.FlashContentsStayCanonical := by
  unfold Obligations.FlashContentsStayCanonical
  intro s t hs h
  obtain ⟨-, rfl⟩ | ⟨c, rest, -, he⟩ := step_cases h
  · obtain h | ⟨o, draw, -, -, -, h⟩ := tick_flash s <;> rw [h]
    · exact hs
    · exact Flash.cutShort_wf _ _ hs
  · obtain h | ⟨h, -⟩ := effect_flash he
    · rw [h]
      exact hs
    · exact h.wf hs

/-- Settles O13: a changed byte lies in the range of the command in hand, and the step is one that ends or cuts it. -/
theorem flashChangesOnlyInHand : Obligations.FlashChangesOnlyInHand := by
  unfold Obligations.FlashChangesOnlyInHand
  intro s t p h hp
  obtain ⟨hempty, rfl⟩ | ⟨c, rest, hq, he⟩ := step_cases h
  · obtain h | ⟨o, draw, ho, hr, hl, h⟩ := tick_flash s
    · exact absurd (by rw [h]) hp
    · refine ⟨o, ho, ?_, .inl ⟨hempty, hr, hl⟩⟩
      by_contra hn
      have hout : inHand { o with runningTime := o.runningTime + 1 } p = false := Bool.eq_false_of_not_eq_true hn
      exact hp (by rw [h]; exact FlashMove.read (.inr (.inr ⟨draw, rfl⟩)) hout)
  · obtain h | ⟨h, hc⟩ := effect_flash he
    · exact absurd (by rw [h]) hp
    · obtain ⟨o, ho, hin⟩ := h.inHand hp
      exact ⟨o, ho, hin, .inr ⟨c, rest, hq, hc⟩⟩

end Sys2Proof.FlashBehind
end

section
/-! PROOFS. The write-enable latch (R37): which commands raise it and which clear it. -/

namespace Sys2Proof.Machine

/-! ### Transactions that leave the latch alone -/

theorem received_wel {dispatch : State → State} {u t : State} (hd : ∀ v, (dispatch v).bp.wel = v.bp.wel)
    (h : Received dispatch u t) : t.bp.wel = u.bp.wel := by
  cases h with
  | dropped => rfl
  | badFrame kept => simp
  | taken kept => simp [hd]

theorem posted_wel {dispatch : State → State} {s t : State} (hd : ∀ v, (dispatch v).bp.wel = v.bp.wel)
    (h : Posted dispatch s t) : t.bp.wel = s.bp.wel := by
  cases h with
  | held => rfl
  | ended => simp
  | received _ h => simpa [postBegun] using received_wel hd h

theorem requestCommand_wel (r : Request) (proof : Option Bytes) (body : Bytes) (s : State) :
    (requestCommand r (takeRequest r) proof body s).bp.wel = s.bp.wel := by
  obtain ⟨-, h⟩ | h := requestCommand_cases r (takeRequest r) proof body s
  · simpa using received_wel (fun v => by simp) h
  · exact posted_wel (fun v => by simp) h

theorem readCommand_wel (leading : Nat) (quad : Bool) (clocks : List Clock) (n : Nat) (reply : SuspendReply)
    (s : State) : (readCommand leading quad clocks n reply s).bp.wel = s.bp.wel := by
  refine transaction_keeps (·.bp.wel) s (by simp) (by simp) ?_
  dsimp only
  split <;> simp

/-! ### The commands that move it -/

/-- What the latch of `t` is after a command of `s`: that of `s`, or raised or cleared for a reason of R37. -/
def LatchMoves (s : State) (c : Instr) (t : State) : Prop :=
  let taken (b : BusCommand) : Prop :=
    ∃ clocks, spells s.bp.laneMode c = some (b, clocks) ∧ onBoundary s.bp.laneMode clocks = true
  t.bp.wel = s.bp.wel ∨ (t.bp.wel = true ∧ s.bp.writeRecord = .none ∧ taken .writeEnable) ∨
    (t.bp.wel = false ∧
      (taken .writeDisable ∨ (c = .writeVerdict ∧ ∃ k, s.bp.writeRecord = .deciding k) ∨
        (taken .reset ∧ s.bp.resetEnable = true) ∨ c = .powerOn ∨ c = .pinReset ∨ c = .restartReset))

/-- The acts of a taken command run on a byte boundary alone. -/
theorem takenCommand_cases (leading : Nat) (clocks : List Clock) (act : Bytes → State → State) (s : State) :
    takenCommand leading clocks act s = freshPort s ∨
      takenCommand leading clocks act s = clearResetEnable (transactionBegun s) ∨
      (onBoundary s.bp.laneMode clocks = true ∧
        takenCommand leading clocks act s =
          act (receivedBytes s.bp.laneMode clocks) (clearResetEnable (transactionBegun s))) := by
  have hmode : (clearResetEnable (transactionBegun s)).bp.laneMode = s.bp.laneMode := by simp
  rw [takenCommand, wholeTransaction, transaction_eq]
  split
  · exact .inl rfl
  · dsimp only
    rw [hmode]
    split
    · next h => exact .inr (.inr ⟨by simp only [Bool.and_eq_true] at h; exact h.1, rfl⟩)
    · exact .inr (.inl rfl)

/-- R46: no transaction sets the reset-enable state at its begin. -/
theorem transactionBegun_resetEnable {s : State} (h : (transactionBegun s).bp.resetEnable = true) :
    s.bp.resetEnable = true := by
  have hfetch : ∀ u : State, (endFetch u).bp.resetEnable = true → u.bp.resetEnable = true := fun u hu => by
    unfold endFetch at hu
    split at hu
    · exact hu
    · cases hu
  have hread : ∀ u : State, (endRead u).bp.resetEnable = true → u.bp.resetEnable = true := fun u hu => by
    unfold endRead at hu
    split at hu
    · exact hu
    · dsimp only at hu
      split at hu
      · simp at hu
      · cases hu
  exact hfetch (freshPort s) (hread _ h)

theorem writeEnable_latch {s : State} {c : Instr} {clocks : List Clock}
    (hc : spells s.bp.laneMode c = some (.writeEnable, clocks)) : LatchMoves s c (writeEnable clocks s) := by
  obtain h | h | ⟨hb, h⟩ := takenCommand_cases 0 clocks
      (fun _ s => if busyShown s then s else { s with bp.wel := true }) s <;> rw [writeEnable, h]
  · exact .inl rfl
  · exact .inl (by simp)
  · split
    · exact .inl (by simp)
    · next hbusy => exact .inr (.inl ⟨rfl, by simpa [busyShown] using hbusy, clocks, hc, hb⟩)

theorem writeDisable_latch {s : State} {c : Instr} {clocks : List Clock}
    (hc : spells s.bp.laneMode c = some (.writeDisable, clocks)) : LatchMoves s c (writeDisable clocks s) := by
  obtain h | h | ⟨hb, h⟩ := takenCommand_cases 0 clocks (fun _ s => { s with bp.wel := false }) s <;>
    rw [writeDisable, h]
  · exact .inl rfl
  · exact .inl (by simp)
  · exact .inr (.inr ⟨rfl, .inl ⟨clocks, hc, hb⟩⟩)

theorem resetCommand_latch {s : State} {c : Instr} {clocks : List Clock}
    (hc : spells s.bp.laneMode c = some (.reset, clocks)) : LatchMoves s c (resetCommand clocks s) := by
  have hmode : (transactionBegun s).bp.laneMode = s.bp.laneMode := by simp
  rw [resetCommand, transaction_eq]
  split
  · exact .inl rfl
  · rw [hmode]
    split
    · next h =>
      rw [Bool.and_eq_true] at h
      exact .inr (.inr ⟨rfl, .inr (.inr (.inl ⟨⟨clocks, hc, h.1⟩, transactionBegun_resetEnable h.2⟩))⟩)
    · exact .inl (by simp)

theorem busCommand_latch {s : State} {c : Instr} {b : BusCommand} {clocks : List Clock} (reply : SuspendReply)
    (hc : spells s.bp.laneMode c = some (b, clocks)) : LatchMoves s c (busCommand b clocks reply s) := by
  have htaken : ∀ {leading} {act : Bytes → State → State}, (∀ received u, (act received u).bp.wel = u.bp.wel) →
      LatchMoves s c (takenCommand leading clocks act s) :=
    fun h => .inl (takenCommand_keeps (·.bp.wel) s (by simp) (by simp) h)
  cases b with
  | read => exact .inl (readCommand_wel ..)
  | fastRead => exact .inl (readCommand_wel ..)
  | quadOutputRead => exact .inl (readCommand_wel ..)
  | writeEnable => exact writeEnable_latch hc
  | writeDisable => exact writeDisable_latch hc
  | readStatus => exact .inl (wholeTransaction_keeps (·.bp.wel) s (by simp) (by simp) fun u => by simp)
  | pageProgram =>
    refine .inl (wholeTransaction_keeps (·.bp.wel) s (by simp) (by simp) fun u => ?_)
    dsimp only
    split <;> simp
  | managementPost => exact .inl (posted_wel (fun v => by simp) (posted_managementPost clocks s))
  | managementFetch => exact .inl (transaction_keeps (·.bp.wel) s (by simp) (by simp) (by simp))
  | sectorErase => exact htaken fun _ u => by simp
  | blockErase => exact htaken fun _ u => by simp
  | chipErase => exact htaken fun _ u => by simp
  | readId => exact .inl (wholeTransaction_keeps (·.bp.wel) s (by simp) (by simp) fun u => by simp)
  | resetEnable => exact .inl (transaction_keeps (·.bp.wel) s (by simp) (by simp) (by simp))
  | reset => exact resetCommand_latch hc
  | enterQuadAll => exact htaken fun _ u => rfl
  | exitQuadAll => exact htaken fun _ u => rfl

/-- R34, R37: a verdict clears the latch, whichever way it goes. -/
theorem applyVerdict_wel (c : TakenCommand) (s : State) : (applyVerdict c s).bp.wel = false := by
  unfold applyVerdict
  split
  · simp [allowCommand]
  · rfl

theorem writeVerdict_latch (s : State) :
    LatchMoves s .writeVerdict (unlessRestartDue writeVerdict (freshPort s)) := by
  unfold unlessRestartDue
  split
  · exact .inl rfl
  · unfold writeVerdict
    split
    · next k hk => exact .inr (.inr ⟨applyVerdict_wel k _, .inr (.inl ⟨rfl, k, hk⟩)⟩)
    · exact .inl rfl

theorem restartReset_latch (s : State) : LatchMoves s .restartReset (restartReset (freshPort s)) := by
  unfold restartReset
  split
  · split
    · exact .inr (.inr ⟨by simp; rfl, .inr (.inr (.inr (.inr (.inr rfl))))⟩)
    · exact .inl rfl
  · exact .inl rfl

theorem channelSignature_wel (op : SigOp) (s : State) : (channelSignature op s).bp.wel = s.bp.wel := by
  unfold channelSignature quoteSigned
  split
  · simp
  · dsimp only
    split
    · rfl
    · split <;> rfl
  · rfl

theorem signatureCompletion_wel (s : State) : (signatureCompletion s).bp.wel = s.bp.wel := by
  obtain h | ⟨v, -, -, h⟩ | ⟨c, -, -, h⟩ := signatureCompletion_cases s <;> rw [h]
  · simp
  · simp [channelSignature_wel]

theorem hardReset_wel (s : State) : (hardReset s).bp.wel = false := rfl

theorem effect_latch {c : Instr} {s t : State} (h : Effect s c t) : LatchMoves s c t := by
  have hevent : ∀ {event : State → State}, (∀ u, (event u).bp.wel = u.bp.wel) →
      LatchMoves s c (unlessRestartDue event (freshPort s)) :=
    fun h => .inl (unlessRestartDue_keeps (·.bp.wel) (s := freshPort s) (h _))
  cases h with
  | request r proof body => exact .inl (requestCommand_wel r proof body s)
  | read => exact .inl (readCommand_wel ..)
  | bus reply hc _ => exact busCommand_latch reply hc
  | status n => exact .inl (wholeTransaction_keeps (·.bp.wel) s (by simp) (by simp) fun u => by simp)
  | id n => exact .inl (wholeTransaction_keeps (·.bp.wel) s (by simp) (by simp) fun u => by simp)
  | fetch n => exact .inl (transaction_keeps (·.bp.wel) s (by simp) (by simp) (by simp))
  | ignored => exact .inl (wholeTransaction_keeps (·.bp.wel) s (by simp) (by simp) fun _ => rfl)
  | powerOn =>
    refine .inr (.inr ⟨?_, .inr (.inr (.inr (.inl rfl)))⟩)
    split <;> simp [hardReset_wel]
  | pinReset => exact .inr (.inr ⟨rfl, .inr (.inr (.inr (.inr (.inl rfl))))⟩)
  | rstNRelease =>
    refine .inl ?_
    split <;> simp
  | restartReset => exact restartReset_latch s
  | recoveryEnd => exact hevent fun u => by simp
  | capture => exact hevent fun u => by simp
  | readEnd n reply => exact .inl (by simp)
  | verdict => exact writeVerdict_latch s
  | completion => exact .inl (by simp)
  | timeout => exact .inl (by simp)
  | fetchReport => exact .inl (by simp)
  | delivery => exact hevent fun u => by simp
  | chunkEnd => exact hevent fun u => by simp
  | signature => exact hevent fun u => signatureCompletion_wel u
  | writeEnd => exact .inl (by simp)
  | expiry => exact .inl (by simp)

end Sys2Proof.Machine

namespace Sys2Proof.WriteEnable

open Sys2Proof Sys2Proof.Machine

/-- Settles O14: from what each command does to the latch. -/
theorem writeEnableLatchMoves : Obligations.WriteEnableLatchMoves := by
  unfold Obligations.WriteEnableLatchMoves
  refine ⟨fun s t hp h => ?_, fun c s t h => ?_⟩
  · rw [step_empty hp] at h
    cases h
    simp
  · obtain he | ⟨hw, hr, ht⟩ | ⟨hw, ht⟩ := effect_latch (effect_of_exec h)
    · exact ⟨fun h₀ h₁ => absurd (h₁.symm.trans (he.trans h₀)) (by decide),
        fun h₁ h₀ => absurd (h₁.symm.trans (he.symm.trans h₀)) (by decide)⟩
    · exact ⟨fun _ _ => ⟨hr, ht⟩, fun _ h₀ => absurd (hw.symm.trans h₀) (by decide)⟩
    · exact ⟨fun _ h₁ => absurd (hw.symm.trans h₁) (by decide), fun _ _ => ht⟩

end Sys2Proof.WriteEnable
end

section
/-! PROOFS. What the Management Channel can do in one step, said once for its requests, digests, writes and signatures. -/

namespace Sys2Proof.Machine

/-! ### The channel's own items -/

/-- Nothing but the channel, the Credential Unit, the channel places and the Boot Port has moved from `s` to `t`. -/
def ChannelOnly (s t : State) : Prop :=
  t = { s with
        bp := t.bp
        mc := t.mc
        cred := t.cred
        su := t.su
        de := { s.de with channel := t.de.channel, scanFirst := t.de.scanFirst } }

/-- What the channel can wait for without a write, a restart or an extend in hand; on an owner token or proof it waits
only outside BLANK. -/
def JobFits (s : State) : ChannelState → Prop
  | .idle => True
  | .working .taken => True
  | .working .generate => True
  | .working (.quoteDigest _) => True
  | .working (.quoteSign _) => True
  | .working (.laneBinding _) => True
  | .working .deriveDigest => True
  | .working (.gateDigest _) => s.store.lifecycle ≠ .blank
  | .working (.tokenDigest _) => s.store.lifecycle ≠ .blank ∨ onOwnerToken s.mc.state = true
  | _ => False

/-- The writes the channel asks for, with the job that waits for each. -/
inductive ChannelWrite (s : State) : Job → StoreWrite → Prop
  | slotMap {m : SlotMap} (r : Request) (hb : s.store.lifecycle = .blank) (hv : m.valid = true) :
      ChannelWrite s (.lastWrite r) (.slotMap m)
  | identityKey (r : Request) (k : IdentityKey) : ChannelWrite s (.lastWrite r) (.identityKey k)
  | endorsement (r : Request) (e : Endorsement) : ChannelWrite s (.lastWrite r) (.endorsement e)
  | verifier (r : Request) (d : Bytes) : ChannelWrite s (.lastWrite r) (.verifier d)
  | failures (r : Request) (passed : Bool) (n : Nat) (hj : s.mc.state = .working (.gateDigest r)) :
      ChannelWrite s (.gateWrite r passed) (.failures n)
  | addKey {i : Nat} (r : Request) (key : Bytes) (hi : i ≤ 3) :
      ChannelWrite s (.lastWrite r) (.keySlot i (.active key))
  | revokeKey {i : Nat} {key : Bytes} (r : Request) (hi : i ≤ 3) (hk : s.store.keys.getD i .empty = .active key)
      (hother : (s.store.keys.filter keyActive).length ≠ 1) : ChannelWrite s (.lastWrite r) (.keySlot i (.revoked key))
  | confirm (r : Request)
      (h : (s.store.lifecycle ≠ .blank ∧ s.isc.boot.outcome = .pass) ∨ s.mc.state = .working .floorWrite) :
      ChannelWrite s (.lastWrite r) (.slotRecord (confirmRecord (slotRecordOf s)))
  | floor {v : Word32} (hb : s.store.lifecycle ≠ .blank) (ho : s.isc.boot.outcome = .pass)
      (hv : s.store.floor.getD 0 < v) : ChannelWrite s .floorWrite (.floor v)
  | takeOwnership (r : Request) (d : Bytes) (h : onOwnerToken s.mc.state = true) :
      ChannelWrite s (.lastWrite r) (.takeOwnership d)
  | releaseOwnership (r : Request) (h : onOwnerToken s.mc.state = true) :
      ChannelWrite s (.lastWrite r) .releaseOwnership
  | putCredential {c : Credential} (r : Request) (hc : c.ok = true)
      (hl : bytesAfterStore s.store.credentials c ≤ secretLimit) : ChannelWrite s (.lastWrite r) (.putCredential c)
  | removeCredential (r : Request) (h : Nat) : ChannelWrite s (.lastWrite r) (.removeCredential h)

/-- What one step of the channel can do, before the work that waits starts. -/
inductive ChannelStep (s : State) : State → Prop
  | own {t : State} (h : ChannelOnly s t) (hj : t.mc.state = s.mc.state ∨ JobFits s t.mc.state) : ChannelStep s t
  | cleared {t : State} (h : ChannelOnly { s with tu := clearViolations s.tu } t) (hj : t.mc.state = .idle) :
      ChannelStep s t
  | narrowed {t : State} (i : Nat) (mask : Rights)
      (h : ChannelOnly { s with tu.table := narrowTable s.tu.table i mask } t) (hj : t.mc.state = .idle) :
      ChannelStep s t
  | opened {t : State} (hr : s.socRun = true) (hs : s.isc.staging.state = .closed)
      (h : ChannelOnly { s with isc.staging.state := .opened } t) (hj : t.mc.state = .idle) : ChannelStep s t
  | closed {t : State} (hs : s.isc.staging.state ≠ .verifying)
      (h : ChannelOnly { s with isc.staging.state := .closed } t) (hj : t.mc.state = .idle) : ChannelStep s t
  | abandoned {t : State} (hs : s.isc.staging.state = .verifying)
      (h : ChannelOnly
        { withdrawScanWork s with
          isc.scan.phase := .ended
          isc.scan.result := some .abandoned
          isc.staging.state := .closed
          isc.staging.outcome := .abandoned } t) (hj : t.mc.state = .idle) : ChannelStep s t
  | verifying {t : State} (hb : s.store.lifecycle ≠ .blank) (hr : s.socRun = true) (hs : s.isc.staging.state = .opened)
      (h : ChannelOnly (startScan .stagedScan (liveInactive s)
        { s with isc.staging := ⟨.verifying, .none, 0, 0, 0⟩ }) t) (hj : t.mc.state = .idle) : ChannelStep s t
  | restart (floor : Option Word32) (ht : s.mc.state = .working .taken)
      (h : ∀ v, floor = some v → s.store.lifecycle = .blank ∧ s.store.keys.any keyActive = true) :
      ChannelStep s (waitFor (.restart floor) s)
  | write {u : State} {job : Job} {w : StoreWrite} (h : ChannelOnly s u) (hj : u.mc.state = s.mc.state)
      (hw : ChannelWrite s job w) : ChannelStep s (waitFor job (askWrite .channel w u))
  | commit (r : Request) (attempts : Nat) (hb : s.store.lifecycle ≠ .blank) (hs : s.isc.staging.state = .verified)
      (hactive : (slotRecordOf s).stateOf (slotRecordOf s).active = .valid ∨
        (slotRecordOf s).stateOf (slotRecordOf s).active = .failed)
      (ha : attempts ≤ 7) :
      ChannelStep s (waitFor (.lastWrite r)
        (askWrite .channel (.slotRecord (commitRecord (slotRecordOf s) (liveInactive s) attempts))
          { s with isc.staging.state := .closed }))
  | extend {u : State} {k : Nat} {record : LogRecord} (hk : 4 ≤ k) (hk' : k ≤ 7) (hd : record.digest.length = 32)
      (h : beginExtend k record s = some u) :
      ChannelStep s (waitFor (.laneFold k) (placeChannelItem (bufferItem .laneExtend (foldInput u k)) u))

/-- A channel step, after a change that moves no work, and then the start of the work that waits. -/
def ChannelSteps (s t : State) : Prop := ∃ u v, Quiet s u ∧ ChannelStep u v ∧ Quiet v t

theorem ChannelStep.steps {s t : State} (h : ChannelStep s t) : ChannelSteps s t := ⟨s, t, .refl s, h, .refl t⟩

theorem ChannelStep.settles {s t : State} (h : ChannelStep s t) : ChannelSteps s (settle t) :=
  ⟨s, t, .refl s, h, quiet_settle t⟩

theorem ChannelSteps.of_quiet {s u t : State} (hq : Quiet s u) (h : ChannelSteps u t) : ChannelSteps s t := by
  obtain ⟨v, w, hv, hw, ht⟩ := h
  exact ⟨v, w, hq.trans hv, hw, ht⟩

/-- What the channel answers with (R190). -/
theorem channelOnly_respond (status : Status) (body : Bytes) (s : State) : ChannelOnly s (respond status body s) := rfl

theorem steps_respond (status : Status) (body : Bytes) (s : State) : ChannelSteps s (respond status body s) :=
  ChannelStep.steps (.own (channelOnly_respond status body s) (.inr trivial))

theorem steps_none (s : State) : ChannelSteps s s := ChannelStep.steps (.own (t := s) rfl (.inl rfl))

theorem steps_withLength {n : Nat} {act : Bytes → State → State} {s : State}
    (h : (requestBody s).length = n → ChannelSteps s (act (requestBody s) s)) : ChannelSteps s (withLength n act s) := by
  unfold withLength
  dsimp only
  split
  · next hn => exact h hn
  · exact steps_respond ..

theorem steps_withState {ok : Bool} {act : State → State} {s : State} (h : ok = true → ChannelSteps s (act s)) :
    ChannelSteps s (withState ok act s) := by
  unfold withState
  split
  · next hok => exact h hok
  · exact steps_respond ..

/-- A digest asked for by the channel. -/
theorem steps_digestAndWait {job : Job} (item : DigestItem) {s u : State} (h : ChannelOnly s u)
    (hj : JobFits s (.working job)) : ChannelSteps s (digestAndWait job item u) := by
  refine ⟨s, waitFor job (placeChannelItem item u), .refl s, .own ?_ (.inr hj), quiet_settle _⟩
  unfold ChannelOnly at h ⊢
  rw [h]
  rfl

theorem steps_write {job : Job} {w : StoreWrite} {s u : State} (h : ChannelOnly s u) (hj : u.mc.state = s.mc.state)
    (hw : ChannelWrite s job w) : ChannelSteps s (waitFor job (askWrite .channel w u)) :=
  ChannelStep.steps (.write h hj hw)

/-! ### Requests that read or that touch the channel alone (chapter 10) -/

theorem steps_takeGetInfo (s : State) : ChannelSteps s (takeGetInfo s) := by
  refine steps_withLength fun _ => ?_
  exact steps_respond ..

theorem steps_takeGetStatus (s : State) : ChannelSteps s (takeGetStatus s) := by
  refine steps_withLength fun _ => ?_
  exact ChannelStep.steps (.own rfl (.inr trivial))

theorem steps_takeRestart {s : State} (ht : s.mc.state = .working .taken) : ChannelSteps s (takeRestart s) := by
  refine steps_withLength fun _ => ?_
  exact ChannelStep.steps (.restart none ht (by simp))

theorem steps_takeReadMap (s : State) : ChannelSteps s (takeReadMap s) := by
  refine steps_withLength fun _ => ?_
  exact steps_respond ..

theorem steps_takeClearEvents (s : State) : ChannelSteps s (takeClearEvents s) := by
  refine steps_withLength fun _ => ?_
  dsimp only
  split
  · exact steps_respond ..
  · split
    · exact ChannelStep.steps (.cleared rfl rfl)
    · exact ChannelStep.steps (.own rfl (.inr trivial))

theorem steps_takeSetAlertMask (s : State) : ChannelSteps s (takeSetAlertMask s) := by
  refine steps_withLength fun _ => ?_
  dsimp only
  split
  · exact steps_respond ..
  · exact ChannelStep.steps (.own rfl (.inr trivial))

theorem steps_takeRestrictRegion (s : State) : ChannelSteps s (takeRestrictRegion s) := by
  refine steps_withLength fun _ => ?_
  dsimp only
  split
  · exact steps_respond ..
  · exact ChannelStep.steps (.narrowed _ _ rfl rfl)

/-! ### Attestation (chapter 7) -/

theorem steps_takeGenerateIdentity (s : State) : ChannelSteps s (takeGenerateIdentity s) := by
  refine steps_withState fun _ => steps_withLength fun _ => ?_
  exact ChannelStep.settles (.own rfl (.inr trivial))

theorem steps_takeLoadEndorsement (s : State) : ChannelSteps s (takeLoadEndorsement s) := by
  refine steps_withState fun _ => ?_
  dsimp only
  split
  · exact steps_respond ..
  · split
    · exact steps_respond ..
    · exact steps_write rfl rfl (.endorsement _ _)

theorem steps_takeGetIdentity (s : State) : ChannelSteps s (takeGetIdentity s) := by
  unfold takeGetIdentity
  split
  · exact steps_respond ..
  · exact steps_withLength fun _ => steps_respond ..

theorem steps_takeQuote (s : State) : ChannelSteps s (takeQuote s) := by
  refine steps_withState fun _ => steps_withLength fun _ => ?_
  dsimp only
  split
  · exact steps_respond ..
  · exact steps_digestAndWait _ rfl trivial

theorem steps_takeReadLane (s : State) : ChannelSteps s (takeReadLane s) := by
  refine steps_withLength fun _ => ?_
  dsimp only
  split <;> exact steps_respond ..

theorem steps_takeExtendLane (s : State) : ChannelSteps s (takeExtendLane s) := by
  refine steps_withLength fun hn => ?_
  dsimp only
  split
  · exact steps_respond ..
  · next hk =>
    simp only [Bool.or_eq_true, decide_eq_true_eq, not_or, not_lt] at hk
    split
    · exact steps_respond ..
    · next u hu => exact ChannelStep.settles (.extend hk.1 hk.2 (by simp [slice, hn]) hu)

/-! ### Updates (chapter 6) -/

theorem steps_takeOpenStaging (s : State) : ChannelSteps s (takeOpenStaging s) := by
  refine steps_withState fun hok => steps_withLength fun _ => ?_
  simp only [bootScanDone, Bool.and_eq_true, decide_eq_true_eq] at hok
  obtain ⟨⟨⟨_, hrun⟩, hclosed⟩, _⟩ := hok
  exact ChannelStep.steps (.opened hrun hclosed rfl rfl)

theorem steps_takeVerifyStaged (s : State) : ChannelSteps s (takeVerifyStaged s) := by
  refine steps_withState fun hok => steps_withLength fun _ => ?_
  simp only [bootScanDone, lifecycleIs, Bool.and_eq_true, decide_eq_true_eq, Bool.not_eq_true', decide_eq_false_iff_not]
    at hok
  obtain ⟨⟨hblank, hrun⟩, hopen⟩ := hok
  exact ChannelStep.settles (.verifying hblank hrun hopen rfl rfl)

theorem clampAttempts_le (n : Nat) : clampAttempts n ≤ 7 := by
  unfold clampAttempts
  split
  · omega
  · split <;> omega

theorem steps_takeCommitStaged (s : State) : ChannelSteps s (takeCommitStaged s) := by
  refine steps_withState fun hok => steps_withLength fun _ => ?_
  simp only [lifecycleIs, Bool.and_eq_true, Bool.or_eq_true, decide_eq_true_eq, Bool.not_eq_true',
    decide_eq_false_iff_not] at hok
  obtain ⟨⟨hblank, hverified⟩, hactive⟩ := hok
  exact ChannelStep.steps (.commit _ _ hblank hverified hactive (clampAttempts_le _))

theorem steps_confirmSlot {s : State}
    (h : (s.store.lifecycle ≠ .blank ∧ s.isc.boot.outcome = .pass) ∨ s.mc.state = .working .floorWrite) :
    ChannelSteps s (confirmSlot s) :=
  steps_write rfl rfl (.confirm _ h)

theorem steps_takeConfirmActive (s : State) : ChannelSteps s (takeConfirmActive s) := by
  refine steps_withState fun hok => steps_withLength fun _ => ?_
  simp only [lifecycleIs, Bool.and_eq_true, decide_eq_true_eq, Bool.not_eq_true', decide_eq_false_iff_not] at hok
  obtain ⟨⟨⟨hblank, hpass⟩, _⟩, _⟩ := hok
  dsimp only
  split
  · next hv => exact steps_write rfl rfl (.floor hblank hpass hv)
  · exact steps_confirmSlot (.inl ⟨hblank, hpass⟩)

theorem steps_takeAbandonStaging (s : State) : ChannelSteps s (takeAbandonStaging s) := by
  refine steps_withState fun _ => steps_withLength fun _ => ?_
  split
  · next hv => exact ChannelStep.settles (.abandoned hv rfl rfl)
  · next hv => exact ChannelStep.steps (.closed hv rfl rfl)

theorem steps_takeGetSlotStatus (s : State) : ChannelSteps s (takeGetSlotStatus s) := by
  refine steps_withState fun _ => steps_withLength fun _ => ?_
  exact steps_respond ..

/-! ### Provisioning and ownership (chapter 8) -/

theorem steps_takeLoadSlotMap (s : State) : ChannelSteps s (takeLoadSlotMap s) := by
  refine steps_withState fun hok => steps_withLength fun _ => ?_
  simp only [lifecycleIs, decide_eq_true_eq] at hok
  dsimp only
  split
  · next hv => exact steps_write rfl rfl (.slotMap _ hok hv)
  · exact steps_respond ..

theorem steps_takeLoadUpdateKey (s : State) : ChannelSteps s (takeLoadUpdateKey s) := by
  refine steps_withState fun _ => steps_withLength fun _ => ?_
  dsimp only
  split
  · exact steps_respond ..
  · next hi => exact steps_write rfl rfl (.addKey _ _ (by omega))

theorem steps_takeFinishProvisioning {s : State} (ht : s.mc.state = .working .taken) :
    ChannelSteps s (takeFinishProvisioning s) := by
  refine steps_withState fun hok => steps_withLength fun _ => ?_
  simp only [lifecycleIs, Bool.and_eq_true, decide_eq_true_eq] at hok
  exact ChannelStep.steps (.restart _ ht fun _ _ => ⟨hok.1.1.1.1, hok.2⟩)

theorem steps_takeTakeOwnership (s : State) : ChannelSteps s (takeTakeOwnership s) := by
  refine steps_withState fun hok => steps_withLength fun _ => ?_
  simp only [lifecycleIs, decide_eq_true_eq] at hok
  exact steps_digestAndWait _ rfl (.inl (by simp [hok]))

theorem steps_ownerGate {s u : State} (r : Request) (h : ChannelOnly s u) (hb : s.store.lifecycle ≠ .blank) :
    ChannelSteps s (ownerGate r u) := by
  have hrespond : ∀ status, ChannelSteps s (respond status [] u) := fun status =>
    ChannelStep.steps (.own (by unfold ChannelOnly at h ⊢; rw [h]; rfl) (.inr trivial))
  unfold ownerGate
  split
  · exact hrespond _
  · split
    · exact hrespond _
    · exact steps_digestAndWait _ h hb

theorem steps_takeGated (r : Request) (s : State) : ChannelSteps s (takeGated r s) := by
  refine steps_withState fun hok => steps_ownerGate r rfl ?_
  simp only [lifecycleIs, decide_eq_true_eq] at hok
  simp [hok]

/-! ### The use of a credential (chapter 9) -/

theorem steps_grantUse {s u : State} (r : Request) (c : Credential) (h : ChannelOnly s u) :
    ChannelSteps s (grantUse r c u) := by
  unfold grantUse
  split
  · exact steps_digestAndWait _ h trivial
  · exact ChannelStep.steps (.own (by unfold ChannelOnly at h ⊢; rw [h]; rfl) (.inr trivial))

theorem steps_checkPolicy {s u : State} (r : Request) (c : Credential) (h : ChannelOnly s u) :
    ChannelSteps s (checkPolicy r c u) := by
  have hcred : ∀ w, ChannelOnly s { u with cred := w } := fun w => by unfold ChannelOnly at h ⊢; rw [h]
  have hrespond : ∀ w, ChannelSteps s (respond .policy [] { u with cred := w }) := fun w =>
    ChannelStep.steps (.own (by unfold ChannelOnly at h ⊢; rw [h]; rfl) (.inr trivial))
  unfold checkPolicy
  dsimp only
  split
  · exact steps_grantUse r c (hcred _)
  · split
    · exact steps_grantUse r c (hcred _)
    · exact hrespond _
  · split
    · exact steps_digestAndWait _ (hcred _) trivial
    · exact hrespond _

theorem steps_useCredential {s : State} (r : Request) (c : Credential) (hb : s.store.lifecycle ≠ .blank) :
    ChannelSteps s (useCredential r c s) := by
  unfold useCredential
  dsimp only
  split
  · exact steps_ownerGate r (u := holdCredential c s) rfl hb
  · exact steps_checkPolicy r c (u := holdCredential c s) rfl

theorem steps_takeReleaseCredential (s : State) : ChannelSteps s (takeReleaseCredential s) := by
  refine steps_withState fun hok => steps_withLength fun _ => ?_
  simp only [lifecycleIs, decide_eq_true_eq] at hok
  dsimp only
  split
  · exact steps_respond ..
  · split
    · exact steps_respond ..
    · split
      · exact steps_useCredential _ _ (by simp [hok])
      · exact steps_respond ..

theorem steps_takeDerive (s : State) : ChannelSteps s (takeDerive s) := by
  refine steps_withState fun hok => ?_
  simp only [lifecycleIs, decide_eq_true_eq] at hok
  dsimp only
  split
  · exact steps_respond ..
  · split
    · exact steps_respond ..
    · exact steps_useCredential _ _ (by simp [hok])

theorem steps_takeListCredentials (s : State) : ChannelSteps s (takeListCredentials s) := by
  refine steps_withLength fun _ => ?_
  exact steps_respond ..

/-- What the taking of a request does (R189). -/
theorem steps_takeRequest (r : Request) {s : State} (ht : s.mc.state = .working .taken) :
    ChannelSteps s (takeRequest r s) := by
  cases r with
  | getInfo => exact steps_takeGetInfo s
  | getStatus => exact steps_takeGetStatus s
  | clearEvents => exact steps_takeClearEvents s
  | setAlertMask => exact steps_takeSetAlertMask s
  | restart => exact steps_takeRestart ht
  | readMap => exact steps_takeReadMap s
  | restrictRegion => exact steps_takeRestrictRegion s
  | loadSlotMap => exact steps_takeLoadSlotMap s
  | generateIdentity => exact steps_takeGenerateIdentity s
  | loadEndorsement => exact steps_takeLoadEndorsement s
  | loadUpdateKey => exact steps_takeLoadUpdateKey s
  | finishProvisioning => exact steps_takeFinishProvisioning ht
  | getIdentity => exact steps_takeGetIdentity s
  | quote => exact steps_takeQuote s
  | readLane => exact steps_takeReadLane s
  | extendLane => exact steps_takeExtendLane s
  | openStaging => exact steps_takeOpenStaging s
  | verifyStaged => exact steps_takeVerifyStaged s
  | commitStaged => exact steps_takeCommitStaged s
  | confirmActive => exact steps_takeConfirmActive s
  | abandonStaging => exact steps_takeAbandonStaging s
  | getSlotStatus => exact steps_takeGetSlotStatus s
  | takeOwnership => exact steps_takeTakeOwnership s
  | changeOwnerToken => exact steps_takeGated _ s
  | releaseOwnership => exact steps_takeGated _ s
  | addUpdateKey => exact steps_takeGated _ s
  | revokeUpdateKey => exact steps_takeGated _ s
  | storeCredential => exact steps_takeGated _ s
  | releaseCredential => exact steps_takeReleaseCredential s
  | derive => exact steps_takeDerive s
  | eraseCredential => exact steps_takeGated _ s
  | listCredentials => exact steps_takeListCredentials s

/-! ### After the owner gate -/

/-- R165, R171: the checks of a STORE_CREDENTIAL body bound its record. -/
theorem credentialOfBody_ok {body : Bytes} {c : Credential} (h : credentialOfBody body = some c) : c.ok = true := by
  unfold credentialOfBody at h
  dsimp only at h
  split at h
  · cases h
  · next hcheck =>
    simp only [Bool.or_eq_true, decide_eq_true_eq, not_or, not_lt, not_not] at hcheck
    obtain ⟨⟨⟨⟨hshort, hlen⟩, hone⟩, hmax⟩, hhandle⟩ := hcheck
    simp only [Option.bind_eq_bind, Option.bind_eq_some_iff] at h
    obtain ⟨cls, -, internal, -, gated, -, binding, -, hc⟩ := h
    cases hc
    simp only [Credential.ok, List.length_drop, Bool.and_eq_true, decide_eq_true_eq]
    omega

theorem steps_afterGate (r : Request) {s : State} (h : onOwnerToken s.mc.state = true) :
    ChannelSteps s (afterGate r s) := by
  have huse : ∀ r, ChannelSteps s (passCredentialUse r s) := fun r => by
    unfold passCredentialUse
    split
    · exact steps_none s
    · exact steps_checkPolicy _ _ rfl
  unfold afterGate
  split
  · exact steps_withLength fun _ => steps_digestAndWait _ rfl (.inr h)
  · exact steps_withLength fun _ => steps_write rfl rfl (.releaseOwnership _ h)
  · refine steps_withLength fun _ => ?_
    dsimp only
    split
    · exact steps_respond ..
    · next hi =>
      split
      · exact steps_write rfl rfl (.addKey _ _ (by omega))
      · exact steps_respond ..
  · refine steps_withLength fun _ => ?_
    dsimp only
    split
    · exact steps_respond ..
    · next hi =>
      split
      · next hkey =>
        split
        · exact steps_respond ..
        · split
          · exact steps_respond ..
          · next hother => exact steps_write rfl rfl (.revokeKey _ (by omega) hkey hother)
      · exact steps_respond ..
  · unfold passStoreCredential
    split
    · exact steps_respond ..
    · next hc =>
      split
      · exact steps_respond ..
      · next hl => exact steps_write rfl rfl (.putCredential _ (credentialOfBody_ok hc) (by omega))
  · refine steps_withLength fun _ => ?_
    dsimp only
    split
    · exact steps_respond ..
    · split
      · exact steps_respond ..
      · exact steps_write rfl rfl (.removeCredential _ _)
  · exact huse _
  · exact huse _
  · exact steps_none s

/-! ### What follows the end of a request's work -/

/-- R158: the proof is zeroed in the request buffer, and the count written or the request gone on with. -/
theorem steps_proofDigested {r : Request} (digest : Bytes) {s : State} (hj : s.mc.state = .working (.gateDigest r)) :
    ChannelSteps s (proofDigested r digest s) := by
  unfold proofDigested
  refine .of_quiet (u := { s with mc.request := zeroRange s.mc.request 4 32 })
    (quiet_response rfl rfl rfl rfl rfl rfl rfl rfl rfl rfl rfl (.of_eq rfl)) ?_
  dsimp only
  split
  · split
    · exact steps_afterGate r (by simp [hj, onOwnerToken])
    · exact steps_write rfl rfl (.failures r _ _ hj)
  · exact steps_write rfl rfl (.failures r _ _ hj)

theorem steps_tokenDigested {r : Request} (digest : Bytes) {s : State} (hj : s.mc.state = .working (.tokenDigest r)) :
    ChannelSteps s (tokenDigested r digest s) := by
  unfold tokenDigested
  split
  · refine .of_quiet (u := { s with mc.request := zeroRange s.mc.request (frameBodyStart s.mc.request) 32 })
      (quiet_response rfl rfl rfl rfl rfl rfl rfl rfl rfl rfl rfl (.of_eq rfl)) ?_
    exact steps_write rfl rfl (.takeOwnership _ _ (by simp [hj, onOwnerToken]))
  · exact steps_write rfl rfl (.verifier _ _)

theorem steps_quoteDigested (body digest : Bytes) (s : State) : ChannelSteps s (quoteDigested body digest s) :=
  ChannelStep.steps (.own rfl (.inr trivial))

theorem steps_laneBindingDigested (r : Request) (digest : Bytes) (s : State) :
    ChannelSteps s (laneBindingDigested r digest s) := by
  unfold laneBindingDigested
  split
  · exact steps_none s
  · split
    · split
      · exact steps_grantUse _ _ rfl
      · exact steps_respond ..
    · exact steps_respond ..

theorem steps_deriveDigested (digest : Bytes) (s : State) : ChannelSteps s (deriveDigested digest s) := by
  unfold deriveDigested
  split
  · exact steps_none s
  · split
    · exact steps_respond ..
    · exact ChannelStep.steps (.own rfl (.inr trivial))

/-- The channel waits for the fold of an EXTEND_LANE (R135). -/
def laneFolding (s : State) : Prop := ∃ k, s.mc.state = .working (.laneFold k)

/-- R74: what a digest of the channel place leads to, the fold of an EXTEND_LANE apart. -/
theorem steps_channelDigest (digest : Bytes) {s : State} (hf : ¬ laneFolding s) :
    ChannelSteps s (channelDigest digest s) := by
  unfold channelDigest
  split
  · next hj => exact steps_proofDigested digest hj
  · next hj => exact steps_tokenDigested digest hj
  · exact steps_quoteDigested _ digest s
  · next k hj => exact absurd ⟨k, hj⟩ hf
  · exact steps_laneBindingDigested _ digest s
  · exact steps_deriveDigested digest s
  · exact steps_none s

/-- R148: what the end of a write of the channel leads to. -/
theorem steps_channelWriteEnded (s : State) : ChannelSteps s (channelWriteEnded s) := by
  unfold channelWriteEnded
  split
  · exact steps_respond ..
  · next hj => exact steps_afterGate _ (by simp [hj, onOwnerToken])
  · next hj => exact steps_confirmSlot (.inr hj)
  · exact steps_respond ..
  · exact steps_none s

/-- R81: what the end of an operation of the channel place leads to. -/
theorem steps_channelSignature (op : SigOp) (s : State) : ChannelSteps s (channelSignature op s) := by
  unfold channelSignature
  split
  · unfold identityGenerated
    dsimp only
    split
    · exact .of_quiet (u := { s with draws := s.draws + 1 }) (quiet_ports rfl) (steps_none _)
    · refine .of_quiet (u := { s with su.channel := none, draws := s.draws + 1 }) (quiet_ports rfl) ?_
      split
      · exact steps_write rfl rfl (.identityKey _ _)
      · exact steps_none _
  · unfold quoteSigned
    dsimp only
    split
    · exact .of_quiet (u := { s with draws := s.draws + 1 }) (quiet_ports rfl) (steps_none _)
    · refine .of_quiet (u := { s with su.channel := none, draws := s.draws + 1 }) (quiet_ports rfl) ?_
      split
      · exact steps_respond ..
      · exact steps_none _
  · exact .of_quiet (u := { s with su.channel := none }) (quiet_ports rfl) (steps_none _)

/-- R189: what an accepted frame leads to. -/
theorem steps_dispatchByCode {s : State} (ht : s.mc.state = .working .taken) : ChannelSteps s (dispatchByCode s) := by
  unfold dispatchByCode
  split
  · exact steps_respond ..
  · exact steps_takeRequest _ ht

end Sys2Proof.Machine
end

section
/-! PROOFS. What a scan and the boot scan can do in one step, said once for their deliveries, digests, signatures and
writes. -/

namespace Sys2Proof.Machine

/-! ### The boot scan between its scans (R98 to R104) -/

/-- What the boot scan does next, while no scan is in hand; `passed` says that the scan before it passed its
checks, `sound` that the digest handed over has 32 bytes. -/
inductive BootStep (passed sound : Prop) (s : State) : State → Prop
  | stood : BootStep passed sound s s
  | begun (x bootX : Slot) (fallback trial : Bool) :
      BootStep passed sound s (startBootScan x fallback { s with isc.bootX := bootX, isc.bootXTrial := trial })
  | revertEvent (input : Bytes) :
      BootStep passed sound s (placeScanItem (bufferItem .trialRevertEvent input) { s with isc.stage := .revertDigest })
  | asked (r : SlotRecord) (stage : BootStage) (bootX : Slot) (fallback trial : Bool) (hw : writeStage stage = true)
      (hp : passStage stage = true → passed) :
      BootStep passed sound s (askWrite .slotController (.slotRecord r)
        { s with isc.stage := stage, isc.bootX := bootX, isc.bootFallback := fallback, isc.bootXTrial := trial })
  | extending {u : State} {lane : Nat} {record : LogRecord} (stage : BootStage) (hl : lane < 4)
      (hstage : (lane = 0 ∧ (stage = .revertFold ∨ stage = .failureFold)) ∨
        ∃ k, stage = .segmentFold k ∧ (manifestSegment (scanManifest s) k).measuredLane = some lane)
      (hd : (sound → record.digest.length = 32) ∨ ∃ k, record.digest = s.isc.scan.segmentDigests.getD k [])
      (hp : passStage stage = true → passed) (h : beginExtend lane record s = some u) :
      BootStep passed sound s { placeScanItem (bufferItem .bootExtend (foldInput u lane)) u with isc.stage := stage }
  | recovered : BootStep passed sound s (enterRecovery s)
  | released (hp : passed) : BootStep passed sound s (finishPass s)

theorem bootStep_bootExtend {passed sound : Prop} {s t : State} {lane : Nat} {record : LogRecord} {stage : BootStage}
    (hl : lane < 4)
    (hstage : (lane = 0 ∧ (stage = .revertFold ∨ stage = .failureFold)) ∨
      ∃ k, stage = .segmentFold k ∧ (manifestSegment (scanManifest s) k).measuredLane = some lane)
    (hd : (sound → record.digest.length = 32) ∨ ∃ k, record.digest = s.isc.scan.segmentDigests.getD k [])
    (hp : passStage stage = true → passed) (h : bootExtend lane record stage s = some t) : BootStep passed sound s t := by
  obtain ⟨u, hu, rfl⟩ := bootExtend_next h
  exact .extending stage hl hstage hd hp hu

theorem measuredLane_lt {g : ManifestSegment} {lane : Nat} (h : g.measuredLane = some lane) : lane < 4 := by
  unfold ManifestSegment.measuredLane at h
  split at h
  · cases h
    omega
  · cases h

theorem bootStep_extendSegments {passed sound : Prop} (hp : passed) (l : List Nat) (s : State) :
    BootStep passed sound s (extendSegments l s) := by
  induction l with
  | nil => exact .released hp
  | cons k rest ih =>
    unfold extendSegments
    split
    · exact ih
    · next lane hlane =>
      split
      · exact ih
      · next h =>
        exact bootStep_bootExtend (measuredLane_lt hlane) (.inr ⟨k, rfl, hlane⟩) (.inr ⟨k, rfl⟩) (fun _ => hp) h

theorem bootStep_extendFrom {passed sound : Prop} (hp : passed) (k : Nat) (s : State) :
    BootStep passed sound s (extendFrom k s) := bootStep_extendSegments hp _ s

theorem bootStep_bootPassed {passed sound : Prop} (hp : passed) (s : State) : BootStep passed sound s (bootPassed s) := by
  unfold bootPassed
  dsimp only
  split
  · exact .asked _ .passWrite s.isc.bootX s.isc.bootFallback s.isc.bootXTrial rfl fun _ => hp
  · exact bootStep_extendFrom hp 0 s

theorem bootStep_afterFailureRecord {passed sound : Prop} (s : State) : BootStep passed sound s (afterFailureRecord s) := by
  unfold afterFailureRecord
  dsimp only
  split
  · exact .asked _ .failureRevertWrite s.isc.bootX s.isc.bootFallback s.isc.bootXTrial rfl (by simp [passStage])
  · split
    · exact .recovered
    · exact .asked _ .failedWrite s.isc.bootX s.isc.bootFallback s.isc.bootXTrial rfl (by simp [passStage])

theorem bootStep_afterRevertRecord {passed sound : Prop} (s : State) : BootStep passed sound s (afterRevertRecord s) :=
  .begun _ s.isc.bootX true s.isc.bootXTrial

theorem bootStep_failureDigested {passed sound : Prop} {digest : Bytes} (hd : sound → digest.length = 32) (s : State) :
    BootStep passed sound s (failureDigested digest s) := by
  unfold failureDigested
  split
  · exact bootStep_afterFailureRecord s
  · next h => exact bootStep_bootExtend (by decide) (.inl ⟨rfl, .inr rfl⟩) (.inl hd) (by simp [passStage]) h

theorem bootStep_revertDigested {passed sound : Prop} {digest : Bytes} (hd : sound → digest.length = 32) (s : State) :
    BootStep passed sound s (revertDigested digest s) := by
  unfold revertDigested
  split
  · exact bootStep_afterRevertRecord s
  · next h => exact bootStep_bootExtend (by decide) (.inl ⟨rfl, .inl rfl⟩) (.inl hd) (by simp [passStage]) h

theorem bootStep_bootFirstStep {passed sound : Prop} (s : State) : BootStep passed sound s (bootFirstStep s) := by
  unfold bootFirstStep
  dsimp only
  split
  · split
    · split
      · exact .asked _ .revertWrite _ false true rfl (by simp [passStage])
      · exact .asked _ .exhaustedWrite _ false true rfl (by simp [passStage])
    · exact .asked _ .attemptWrite _ false true rfl (by simp [passStage])
  · exact .begun _ _ false false

theorem stageLane_segmentFold {s : State} {k : Nat} (h : s.isc.stage = .segmentFold k) :
    stageLane s = (manifestSegment (scanManifest s) k).measuredLane := by
  rw [stageLane, h]

/-- R131: what the fold of the boot scan's extend leads to, once the lane has it. -/
theorem bootFolded_cases (sound : Prop) (digest : Bytes) (s : State) :
    bootFolded digest s = s ∨
      ∃ lane, stageLane s = some lane ∧
        BootStep (passStage s.isc.stage = true) sound (completeExtend lane digest s) (bootFolded digest s) := by
  unfold bootFolded
  split
  · next h => exact .inr ⟨0, by rw [stageLane, h], bootStep_afterRevertRecord _⟩
  · next h => exact .inr ⟨0, by rw [stageLane, h], bootStep_afterFailureRecord _⟩
  · next k h =>
    split
    · exact .inl rfl
    · next lane hlane => exact .inr ⟨lane, (stageLane_segmentFold h).trans hlane, bootStep_extendFrom (by simp [h, passStage]) _ _⟩
  · exact .inl rfl

/-- R85, R99 to R102: what the end of a slot record write of the boot scan leads to. -/
theorem bootStep_bootWriteEnded (sound : Prop) (s : State) : BootStep (passStage s.isc.stage = true) sound s (bootWriteEnded s) := by
  unfold bootWriteEnded
  split
  · exact .begun _ s.isc.bootX false s.isc.bootXTrial
  · exact .revertEvent _
  · exact .recovered
  · exact .begun _ s.isc.bootX true s.isc.bootXTrial
  · exact .recovered
  · next h => exact bootStep_extendFrom (by simp [h, passStage]) 0 s
  · exact .stood

/-! ### A scan in hand (R92 to R96) -/

/-- A scan in phase `p` has no digest in hand: it waits for none, or its segment's has just been handed over. -/
def placeEmpty (p : ScanPhase) (s : State) : Prop :=
  (p = .segments ∧ s.de.scan = none) ∨ p = .manifestRead ∨ p = .signature

/-- What a scan in phase `p` does next: it takes its manifest, places its VERIFY, begins a segment, or ends. -/
inductive ScanStep (p : ScanPhase) (sound : Prop) (s : State) : State → Prop
  | stood : ScanStep p sound s s
  | slotFilled (bytes : Bytes) (hp : p = .segments) :
      ScanStep p sound s { s with de.scan := s.de.scan.map fun i => { i with chunkSlot := some bytes } }
  | manifestTaken (bytes key : Bytes) (hp : p = .manifestRead) :
      ScanStep p sound s (placeScanItem (bufferItem .manifest (manifestSigned bytes))
        { s with isc.scan.manifest := some bytes, isc.scan.signerKey := some key, isc.scan.phase := .manifestDigest })
  | verifyPlaced (digest : Bytes) (op : SigOp) (hp : p = .manifestDigest) (hn : s.de.scan = none) :
      ScanStep p sound s (placeVerify op { s with isc.scan.manifestDigest := digest, isc.scan.phase := .signature })
  | segmentBegun (k total : Nat) (digests : List Bytes)
      (hd : sound → ∀ d ∈ digests, d ∈ s.isc.scan.segmentDigests ∨ d.length = 32)
      (hp : p = .segments ∨
        (p = .signature ∧ tableChecks s.store.floor (slotMapOf s) (scanManifest s) = none)) :
      ScanStep p sound s (beginSegment k
        { s with isc.scan.segmentDigests := digests, isc.staging.chunksTotal := total })
  | stagedFailed (reason : ScanReason) (k : Nat) (manifest : Option Bytes) (hn : placeEmpty p s) (ho : s.isc.scan.owner = .stagedScan) :
      ScanStep p sound s (stagedEnded (.failure reason k)
        { s with
          isc.scan.manifest := manifest
          isc.scan.phase := .ended
          isc.scan.result := some (.failure reason k) })
  | bootFailed (reason : ScanReason) (k : Nat) (manifest : Option Bytes) (hn : placeEmpty p s) (ho : s.isc.scan.owner = .bootScan) :
      ScanStep p sound s (bootFailed reason
        { s with
          isc.scan.manifest := manifest
          isc.scan.phase := .ended
          isc.scan.result := some (.failure reason k) })
  | stagedPassed (digest : Bytes) (hd : sound → digest.length = 32) (hn : s.de.scan = none) (ho : s.isc.scan.owner = .stagedScan)
      (hp : p = .segments) :
      ScanStep p sound s (stagedEnded .pass
        { s with
          isc.scan.segmentDigests := s.isc.scan.segmentDigests ++ [digest]
          isc.scan.phase := .ended
          isc.scan.result := some .pass })
  | bootPassed (digest : Bytes) (hd : sound → digest.length = 32) (hn : s.de.scan = none) (ho : s.isc.scan.owner = .bootScan) (hp : p = .segments) :
      ScanStep p sound s (bootPassed
        { s with
          isc.scan.segmentDigests := s.isc.scan.segmentDigests ++ [digest]
          isc.scan.phase := .ended
          isc.scan.result := some .pass })

/-- R96: the end of a scan with a failed check. -/
theorem scanStep_failure {p : ScanPhase} {sound : Prop} {s : State} (reason : ScanReason) (k : Nat)
    (manifest : Option Bytes) (hn : placeEmpty p s) :
    ScanStep p sound s (endScan (.failure reason k) { s with isc.scan.manifest := manifest }) := by
  unfold endScan
  dsimp only
  split
  · next ho => exact .stagedFailed reason k manifest hn ho
  · next ho => exact .bootFailed reason k manifest hn ho

theorem scanStep_manifestDelivered (sound : Prop) (bytes : Bytes) (s : State) :
    ScanStep .manifestRead sound s (manifestDelivered bytes s) := by
  unfold manifestDelivered
  dsimp only
  split
  · exact scanStep_failure _ 0 (some bytes) (.inr (.inl rfl))
  · exact .manifestTaken bytes _ rfl

theorem scanStep_manifestDigested (sound : Prop) (digest : Bytes) {s : State} (hn : s.de.scan = none) :
    ScanStep .manifestDigest sound s (manifestDigested digest s) := .verifyPlaced digest _ rfl hn

theorem scanStep_verifyCompleted (sound : Prop) (valid : Bool) (s : State) : ScanStep .signature sound s (verifyCompleted valid s) := by
  unfold verifyCompleted
  split
  · exact scanStep_failure _ 0 s.isc.scan.manifest (.inr (.inr rfl))
  · split
    · exact scanStep_failure _ 0 s.isc.scan.manifest (.inr (.inr rfl))
    · next hchecks =>
      split
      · exact .segmentBegun 0 _ s.isc.scan.segmentDigests (fun _ d hd => .inl hd) (.inr ⟨rfl, hchecks⟩)
      · exact .segmentBegun 0 s.isc.staging.chunksTotal s.isc.scan.segmentDigests (fun _ d hd => .inl hd)
          (.inr ⟨rfl, hchecks⟩)

theorem scanStep_segmentDigested {sound : Prop} {digest : Bytes} {s : State} (hd : sound → digest.length = 32)
    (hn : s.de.scan = none) :
    ScanStep .segments sound s (segmentDigested digest s) := by
  unfold segmentDigested
  dsimp only
  split
  · exact scanStep_failure _ _ s.isc.scan.manifest (.inl ⟨rfl, hn⟩)
  · split
    · refine .segmentBegun _ s.isc.staging.chunksTotal (s.isc.scan.segmentDigests ++ [digest]) (fun hs d hmem => ?_)
        (.inl rfl)
      rw [List.mem_append, List.mem_singleton] at hmem
      exact hmem.imp_right fun h => by rw [h]; exact hd hs
    · unfold endScan
      dsimp only
      split
      · next ho => exact .stagedPassed digest hd hn ho rfl
      · next ho => exact .bootPassed digest hd hn ho rfl

theorem scanStep_deliverChunk (sound : Prop) (bytes : Bytes) (s : State) :
    ScanStep s.isc.scan.phase sound s (deliverChunk bytes s) := by
  unfold deliverChunk
  split
  · next hp => exact hp ▸ scanStep_manifestDelivered sound bytes s
  · next hp => exact .slotFilled bytes hp
  · exact .stood

end Sys2Proof.Machine
end

section
/-! PROOFS. What a step can do to the work of the blocks: one event, with the ports served before it and the work that
waits started after it. -/

namespace Sys2Proof.Machine

/-! ### The events -/

/-- The state at the end of the write in progress: its records are written and the next write begins (R148). -/
def writeDone (w : PendingWrite) (s : State) : State :=
  beginWaitingWrite { s with store := s.store.apply w.contents, writes.current := none }

/-- The state at the completion of the scan place's item: the place is empty and the engine free (R74). -/
def scanItemDone (s : State) : State := { s with de.scan := none, de.absorbing := none, de.owed := false }

/-- The state at the completion of the channel place's item. -/
def channelItemDone (s : State) : State :=
  { s with de.channel := none, de.absorbing := none, de.owed := s.de.owed || segmentInScanPlace s.de }

/-- The channel is at work on a request, with no write, restart or fold awaited. -/
def serving : ChannelState → Bool
  | .working .generate => true
  | .working (.gateDigest _) => true
  | .working (.tokenDigest _) => true
  | .working (.quoteDigest _) => true
  | .working (.quoteSign _) => true
  | .working (.laneBinding _) => true
  | .working .deriveDigest => true
  | _ => false

/-- One event of the blocks' work; serving the ports is none. -/
inductive Move (s : State) : State → Prop
  | stood : Move s s
  | posted {t : State} (kept : Bytes) (hl : s.rstLow = false) (hidle : s.mc.state = .idle)
      (h : ChannelSteps (acceptPost kept s) t) : Move s t
  | allowed (c : TakenCommand) (targets : List Nat) (inStaging : Bool)
      (h : decideCommand s.tu s.store.slotMap s.isc.staging.state c = .allowed targets inStaging) :
      Move s (allowCommand c targets inStaging s)
  | refused (c : TakenCommand) (address : LogicalAddress) (reason : RefusalReason) :
      Move s (refuseCommand c address reason s)
  | scan {t : State} {p : ScanPhase} (hp : s.isc.scan.phase = p) (h : ScanStep p True s t) : Move s t
  | scanAbsorbed {i : DigestItem} (absorbing : Option Place) (hi : s.de.scan = some i) (hl : i.lastChunk = false) :
      Move s { s with de.scan := some i.absorbed, de.absorbing := absorbing }
  | scanDigested {t : State} {i : DigestItem} {p : ScanPhase} (hi : s.de.scan = some i)
      (hw : (i.work = .manifest ∧ p = .manifestDigest) ∨ (i.work = .segment ∧ p = .segments))
      (h : ScanStep p (i.running.length = 8) (scanItemDone s) t) : Move s t
  | failureDigested {i : DigestItem} (hi : s.de.scan = some i) (hw : i.work = .scanFailureEvent) :
      Move s (failureDigested (shaOutput i.absorbed.running) (scanItemDone s))
  | revertDigested {i : DigestItem} (hi : s.de.scan = some i) (hw : i.work = .trialRevertEvent) :
      Move s (revertDigested (shaOutput i.absorbed.running) (scanItemDone s))
  | bootFolded {i : DigestItem} (hi : s.de.scan = some i) (hw : i.work = .bootExtend) (hl : i.lastChunk = true) :
      Move s (bootFolded (shaOutput i.absorbed.running) (scanItemDone s))
  | itemDropped {i : DigestItem} (hi : s.de.scan = some i) (hw : i.work ≠ .bootExtend) : Move s (scanItemDone s)
  | channelAbsorbed {i : DigestItem} (hi : s.de.channel = some i) (hl : i.lastChunk = false) :
      Move s { s with de.channel := some i.absorbed }
  | channelDigested {t : State} (hj : serving s.mc.state = true) (h : ChannelSteps (channelItemDone s) t) : Move s t
  | channelItemDropped (hf : ¬ laneFolding s) : Move s (channelItemDone s)
  | laneFolded {k : Nat} {i : DigestItem} (hk : s.mc.state = .working (.laneFold k)) (hi : s.de.channel = some i)
      (hl : i.lastChunk = true) : Move s (laneFolded k (shaOutput i.absorbed.running) (channelItemDone s))
  | channelSigned {t : State} (hj : serving s.mc.state = true) (h : ChannelSteps s t) : Move s t
  | writtenDue {w : PendingWrite} (hw : s.writes.current = some w)
      (hdue : restartDue { s with store := s.store.apply w.contents, writes.current := none } = true) :
      Move s { s with store := s.store.apply w.contents, writes.current := none }
  | channelWritten {w : PendingWrite} (hw : s.writes.current = some w) (hr : w.requester = .channel) :
      Move s (channelWriteEnded (writeDone w s))
  | slotWritten {w : PendingWrite} (hw : s.writes.current = some w) (hr : w.requester = .slotController) :
      Move s (bootWriteEnded (writeDone w s))
  | resetWritten {w : PendingWrite} (hw : s.writes.current = some w) (hr : w.requester = .partReset) :
      Move s (resetWriteEnded (writeDone w s))
  | recoveryEnded (hp : s.fp.prep = .recovery) :
      Move s (send [.readIdentification] { s with fp.prep := .identifying })
  | captured (a b : Byte) (hp : s.fp.prep = .identifying) :
      Move s (beginBoot { s with bp.idManufacturer := a, bp.idType := b, fp.prep := .ready })
  | hardReset (low : Bool) (work : Bool) (h : low = true → work = false) :
      Move s (if work then beginResetWork { hardReset s with rstLow := low } else { hardReset s with rstLow := low })
  | released (hl : s.rstLow = true) : Move s (beginResetWork { s with rstLow := false })
  | restarted (floor : Option Word32) (hj : s.mc.state = .working (.restart floor)) (hdue : restartDue s = true) :
      Move s (restartWork floor (partReset s))

/-- What a step does: the ports are served, one event of the work comes, and waiting work starts. -/
def Moves (s t : State) : Prop := ∃ u v, Quiet s u ∧ Move u v ∧ Quiet v t

theorem Moves.of_quiet {s t : State} (h : Quiet s t) : Moves s t := ⟨s, s, .refl s, .stood, h⟩

theorem Move.moves {s t : State} (h : Move s t) : Moves s t := ⟨s, t, .refl s, h, .refl t⟩

theorem Move.settles {s t : State} (h : Move s t) : Moves s (settle t) := ⟨s, t, .refl s, h, quiet_settle t⟩

theorem Moves.after {s u t : State} (hq : Quiet s u) (h : Moves u t) : Moves s t := by
  obtain ⟨v, w, hv, hw, ht⟩ := h
  exact ⟨v, w, hq.trans hv, hw, ht⟩

/-! ### Posts -/

theorem moves_received {dispatch : State → State} {s t : State}
    (hd : ∀ {u}, u.mc.state = .working .taken → ChannelSteps u (dispatch u)) (hl : s.rstLow = false)
    (h : Received dispatch s t) : Moves s t := by
  cases h with
  | dropped => exact .of_quiet (quiet_response rfl rfl rfl rfl rfl rfl rfl rfl rfl rfl rfl (.of_eq rfl))
  | badFrame kept hidle => exact (Move.posted kept hl hidle (steps_respond ..)).moves
  | taken kept hidle => exact (Move.posted kept hl hidle (hd rfl)).moves

theorem quiet_postBegun (s : State) : Quiet s (postBegun s) :=
  (quiet_transactionBegun s).trans (quiet_ports rfl)

theorem moves_posted {dispatch : State → State} {s t : State}
    (hd : ∀ {u}, u.mc.state = .working .taken → ChannelSteps u (dispatch u)) (h : Posted dispatch s t) : Moves s t := by
  cases h with
  | held => exact .of_quiet (quiet_freshPort s)
  | ended => exact .of_quiet ((quiet_transactionBegun s).trans (quiet_clearResetEnable _))
  | received hl h => exact (moves_received hd ((quiet_postBegun s).rstLow.trans hl) h).after (quiet_postBegun s)

theorem moves_requestCommand (r : Request) (proof : Option Bytes) (body : Bytes) (s : State) :
    Moves s (requestCommand r (takeRequest r) proof body s) := by
  obtain ⟨hl, h⟩ | h := requestCommand_cases r (takeRequest r) proof body s
  · exact (moves_received (s := freshPort s) (steps_takeRequest r) hl h).after (quiet_freshPort s)
  · exact moves_posted (steps_takeRequest r) h

/-! ### Events -/

theorem moves_unlessRestartDue {event : State → State} (h : ∀ s, Moves s (event s)) (s : State) :
    Moves s (unlessRestartDue event (freshPort s)) := by
  unfold unlessRestartDue
  split
  · exact .of_quiet (quiet_freshPort s)
  · exact (h _).after (quiet_freshPort s)

theorem moves_writeVerdict (s : State) : Moves s (writeVerdict s) := by
  unfold writeVerdict
  split
  · next c _ =>
    unfold applyVerdict
    split
    · next targets inStaging h => exact (Move.allowed c targets inStaging h).settles
    · exact (Move.refused c _ _).moves
  · exact .of_quiet (.refl s)

theorem moves_chunkDelivery (s : State) : Moves s (chunkDelivery s) := by
  unfold chunkDelivery
  split
  · exact .of_quiet (.refl s)
  · split
    · refine .after (u := { s with fp.chunk := none, fp.chunkBuffer := [] }) (quiet_ports rfl) ?_
      exact (Move.scan rfl (scanStep_deliverChunk True _ _)).settles
    · exact .of_quiet (.refl s)

/-! ### Running states of eight words -/

theorem shaRound_length (w : List Word32) (k : Word32 × Word32) : (shaRound w k).length = w.length := by
  unfold shaRound
  split <;> rfl

theorem shaCompress_length {w : List Word32} (block : Bytes) : (shaCompress w block).length = w.length := by
  have hrounds : ∀ (l : List (Word32 × Word32)) (v : List Word32), (l.foldl shaRound v).length = v.length := by
    intro l
    induction l with
    | nil => exact fun _ => rfl
    | cons k rest ih => exact fun v => (ih _).trans (shaRound_length v k)
  rw [shaCompress, List.length_zipWith, hrounds, min_self]

theorem absorbChunk_length (w : List Word32) (chunk : Bytes) (last : Bool) (total : Nat) :
    (absorbChunk w chunk last total).length = w.length := by
  unfold absorbChunk shaAbsorb
  generalize shaBlocks _ = blocks
  induction blocks generalizing w with
  | nil => rfl
  | cons b rest ih => exact (ih _).trans (shaCompress_length b)

@[simp] theorem absorbed_running_length (i : DigestItem) : i.absorbed.running.length = i.running.length :=
  absorbChunk_length ..

theorem beBytes_length (n v : Nat) : (beBytes n v).length = n := by
  simp [beBytes]

/-- A digest over eight words has 32 bytes. -/
theorem shaOutput_length {w : List Word32} (h : w.length = 8) : (shaOutput w).length = 32 := by
  simp [shaOutput, List.length_flatMap, beBytes_length, h]

theorem quiet_reportAbsorbed (i : DigestItem) (s : State) : Quiet s (reportAbsorbed i s) where
  tu := by simp
  store := by simp
  writes := by simp
  cred := by simp
  lanes := by simp
  socRun := by simp
  rstLow := by simp
  prep := by simp
  state := by simp
  isc := by
    unfold reportAbsorbed
    split <;> rfl
  channel := by simp
  item := .of_eq (by simp)
  op := .of_eq (by simp)
  response := .of_eq (by simp)

/-- R74: what a digest of the scan place leads to, by the work it serves. -/
theorem move_scanDigest {s : State} {i : DigestItem} (hi : s.de.scan = some i) (hl : i.lastChunk = true) :
    Move s (scanDigest i.work (shaOutput i.absorbed.running) (scanItemDone s)) := by
  have hd : i.running.length = 8 → (shaOutput i.absorbed.running).length = 32 :=
    fun h => shaOutput_length ((absorbed_running_length i).trans h)
  have hdropped : i.work ≠ .bootExtend → Move s (scanItemDone s) := fun h => .itemDropped hi h
  cases hw : i.work with
  | manifest => exact .scanDigested hi (.inl ⟨hw, rfl⟩) (scanStep_manifestDigested _ _ rfl)
  | segment => exact .scanDigested hi (.inr ⟨hw, rfl⟩) (scanStep_segmentDigested hd rfl)
  | bootExtend => exact .bootFolded hi hw hl
  | scanFailureEvent => exact .failureDigested hi hw
  | trialRevertEvent => exact .revertDigested hi hw
  | laneExtend => exact hdropped (by simp [hw])
  | ownerProof => exact hdropped (by simp [hw])
  | newToken => exact hdropped (by simp [hw])
  | laneBinding => exact hdropped (by simp [hw])
  | derive => exact hdropped (by simp [hw])
  | quoteBody => exact hdropped (by simp [hw])

theorem moves_scanChunkEnd {s : State} {i : DigestItem} (hi : s.de.scan = some i) : Moves s (scanChunkEnd i s) := by
  have hi' : (reportAbsorbed i s).de.scan = some i := by simpa using hi
  refine .after (quiet_reportAbsorbed i s) ?_
  unfold scanChunkEnd
  dsimp only
  split
  · next hl => exact (move_scanDigest hi' hl).moves
  · next hl => exact (Move.scanAbsorbed _ hi' (by simpa using hl)).moves

/-- R74: a digest of the channel place for no request in hand is dropped. -/
theorem channelDigest_idle {s : State} (digest : Bytes) (hj : serving s.mc.state = false) (hf : ¬ laneFolding s) :
    channelDigest digest s = s := by
  unfold channelDigest
  split
  · next h => simp [h, serving] at hj
  · next h => simp [h, serving] at hj
  · next h => simp [h, serving] at hj
  · next k h => exact absurd ⟨k, h⟩ hf
  · next h => simp [h, serving] at hj
  · next h => simp [h, serving] at hj
  · rfl

theorem channelDigest_folding {s : State} {k : Nat} (digest : Bytes) (hk : s.mc.state = .working (.laneFold k)) :
    channelDigest digest s = laneFolded k digest s := by
  unfold channelDigest
  rw [hk]

theorem moves_channelChunkEnd {s : State} {i : DigestItem} (hi : s.de.channel = some i) :
    Moves s (channelChunkEnd i s) := by
  unfold channelChunkEnd
  dsimp only
  split
  · next hl =>
    by_cases hf : laneFolding s
    · obtain ⟨k, hk⟩ := hf
      exact channelDigest_folding (s := channelItemDone s) _ hk ▸ (Move.laneFolded hk hi hl).moves
    · cases hj : serving s.mc.state with
      | false => exact channelDigest_idle (s := channelItemDone s) _ hj hf ▸ (Move.channelItemDropped hf).moves
      | true => exact (Move.channelDigested hj (steps_channelDigest _ hf)).moves
  · next hl => exact (Move.channelAbsorbed hi (by simpa using hl)).moves

theorem Moves.settles {s t : State} (h : Moves s t) : Moves s (settle t) := by
  obtain ⟨u, v, hu, hv, ht⟩ := h
  exact ⟨u, v, hu, hv, ht.trans (quiet_settle t)⟩

theorem moves_chunkEnd (s : State) : Moves s (chunkEnd s) := by
  unfold chunkEnd
  split
  · next hi => exact (moves_scanChunkEnd hi).settles
  · next hi => exact (moves_channelChunkEnd hi).settles
  · exact .of_quiet (.refl s)

theorem moves_scanSignature (op : SigOp) (s : State) : Moves s (scanSignature op s) := by
  have hquiet : Quiet s { s with su.scan := none } := quiet_ports rfl
  unfold scanSignature
  split
  · dsimp only
    split
    · next hp => exact ((Move.scan (by exact hp) (scanStep_verifyCompleted True _ _)).moves).after hquiet
    · exact .of_quiet hquiet
  · exact .of_quiet hquiet

/-- With no GENERATE or SIGN in hand, the end of a signature leaves the channel alone. -/
theorem quiet_channelSignature_idle {s : State} (op : SigOp) (hj : serving s.mc.state = false) :
    Quiet s (channelSignature op s) := by
  unfold channelSignature
  split
  · unfold identityGenerated
    dsimp only
    split
    · exact quiet_ports rfl
    · split
      · next h => simp [h, serving] at hj
      · exact quiet_ports rfl
  · unfold quoteSigned
    dsimp only
    split
    · exact quiet_ports rfl
    · split
      · next h => simp [h, serving] at hj
      · exact quiet_ports rfl
  · exact quiet_ports rfl

theorem moves_channelSignature (op : SigOp) (s : State) : Moves s (channelSignature op s) := by
  cases hj : serving s.mc.state with
  | false => exact .of_quiet (quiet_channelSignature_idle op hj)
  | true => exact (Move.channelSigned hj (steps_channelSignature op s)).moves

theorem moves_signatureCompletion (s : State) : Moves s (signatureCompletion s) := by
  obtain h | ⟨v, -, -, h⟩ | ⟨c, -, -, h⟩ := signatureCompletion_cases s <;> rw [h]
  · exact .of_quiet (.refl s)
  · exact (moves_scanSignature v.op s).settles
  · exact (moves_channelSignature c.op s).settles

theorem moves_storeWriteEnd (s : State) : Moves s (storeWriteEnd s) := by
  unfold storeWriteEnd
  split
  · exact .of_quiet (.refl s)
  · next w hw =>
    dsimp only
    split
    · next hdue => exact (Move.writtenDue hw hdue).moves
    · refine Moves.settles (Move.moves ?_)
      unfold writeEnded
      split
      · next hr => exact .resetWritten hw hr
      · next hr => exact .slotWritten hw hr
      · next hr => exact .channelWritten hw hr

theorem moves_flashResetRecoveryEnd (s : State) : Moves s (flashResetRecoveryEnd s) := by
  unfold flashResetRecoveryEnd
  split
  · next hp => exact (Move.recoveryEnded hp).moves
  · exact .of_quiet (.refl s)

theorem moves_downstreamIdCapture (a b : Byte) (s : State) : Moves s (downstreamIdCapture a b s) := by
  unfold downstreamIdCapture
  split
  · next hp => exact (Move.captured _ _ hp).settles
  · exact .of_quiet (.refl s)

theorem moves_restartReset (s : State) : Moves s (restartReset s) := by
  unfold restartReset
  split
  · next floor hj =>
    split
    · next hdue => exact (Move.restarted floor hj hdue).moves
    · exact .of_quiet (.refl s)
  · exact .of_quiet (.refl s)

/-! ### Every command -/

theorem effect_moves {c : Instr} {s t : State} (h : Effect s c t) : Moves s t := by
  cases h with
  | request r proof body => exact moves_requestCommand r proof body s
  | read => exact .of_quiet (quiet_readCommand ..)
  | @bus c b clocks reply hc hb =>
    by_cases hpost : b = .managementPost
    · subst hpost
      exact moves_posted steps_dispatchByCode (posted_managementPost clocks s)
    · exact .of_quiet (quiet_busCommand hpost clocks reply s)
  | status n => exact .of_quiet (quiet_readStatus n s)
  | id n => exact .of_quiet (quiet_readId n s)
  | fetch n => exact .of_quiet (quiet_managementFetch n s)
  | ignored => exact .of_quiet (quiet_wholeTransaction (fun u => .refl u) s)
  | powerOn =>
    split
    · next hl => exact (Move.hardReset (s := s) (hardReset s).rstLow false (fun _ => rfl)).moves
    · next hl => exact (Move.hardReset (s := s) (hardReset s).rstLow true (fun h => absurd h hl)).moves
  | pinReset => exact (Move.hardReset (s := s) true false (fun _ => rfl)).moves
  | rstNRelease =>
    split
    · next hl => exact (Move.released hl).moves.after (quiet_freshPort s)
    · exact .of_quiet (quiet_freshPort s)
  | restartReset => exact (moves_restartReset _).after (quiet_freshPort s)
  | recoveryEnd => exact moves_unlessRestartDue moves_flashResetRecoveryEnd s
  | capture a b => exact moves_unlessRestartDue (moves_downstreamIdCapture a b) s
  | readEnd n reply => exact .of_quiet ((quiet_freshPort s).trans (quiet_readTransactionEnd n reply _))
  | verdict => exact moves_unlessRestartDue moves_writeVerdict s
  | completion => exact .of_quiet ((quiet_freshPort s).trans (quiet_operationCompletion _))
  | timeout => exact .of_quiet ((quiet_freshPort s).trans (quiet_operationTimeout _))
  | fetchReport n => exact .of_quiet ((quiet_freshPort s).trans ((quiet_clockFetch n _).trans (quiet_endFetch _)))
  | delivery => exact moves_unlessRestartDue moves_chunkDelivery s
  | chunkEnd => exact moves_unlessRestartDue moves_chunkEnd s
  | signature => exact moves_unlessRestartDue moves_signatureCompletion s
  | writeEnd => exact (moves_storeWriteEnd _).after (quiet_freshPort s)
  | expiry => exact .of_quiet ((quiet_freshPort s).trans (quiet_secretResponseExpiry _))

/-- What a step can do to the work of the blocks. -/
theorem step_moves {s t : State} (h : step s = .next t) : Moves s t := by
  obtain ⟨-, rfl⟩ | ⟨c, rest, -, he⟩ := step_cases h
  · exact .of_quiet (quiet_tick s)
  · exact (effect_moves he).after (u := { s with pending := rest }) (quiet_ports rfl)

end Sys2Proof.Machine
end

section
/-! PROOFS. The writes in hand, and the invariants that rest on them alone: the rollback floor and the directory. -/

namespace Sys2Proof.Machine

/-! ### The writes in hand (R148) -/

theorem writesInHand_congr {s t : State} (h : t.writes = s.writes) : writesInHand t = writesInHand s := by
  unfold writesInHand
  rw [h]

theorem otherWrites_congr {s t : State} (h : t.writes = s.writes) : otherWrites t = otherWrites s := by
  unfold otherWrites
  rw [writesInHand_congr h]

theorem slotWrites_congr {s t : State} (h : t.writes = s.writes) : slotWrites t = slotWrites s := by
  unfold slotWrites
  rw [writesInHand_congr h]

theorem askWrite_writes (who : Requester) (w : StoreWrite) (s : State) :
    (s.writes.current = none ∧ (askWrite who w s).writes = ⟨some ⟨who, w⟩, s.writes.waiting⟩) ∨
      ∃ c, s.writes.current = some c ∧ (askWrite who w s).writes = ⟨some c, some ⟨who, w⟩⟩ := by
  unfold askWrite
  split
  · next h => exact .inl ⟨h, rfl⟩
  · next c h => exact .inr ⟨c, h, by simp [h]⟩

/-- A write asked for joins the writes in hand. -/
theorem mem_askWrite {who : Requester} {w : StoreWrite} {s : State} {v : PendingWrite}
    (h : v ∈ writesInHand (askWrite who w s)) : v = ⟨who, w⟩ ∨ v ∈ writesInHand s := by
  unfold writesInHand at h ⊢
  obtain ⟨hc, hw⟩ | ⟨c, hc, hw⟩ := askWrite_writes who w s
  · rw [hw] at h
    simp only [Option.toList_some, List.cons_append, List.nil_append, List.mem_cons] at h
    exact h.imp_right fun h => by simp [hc, h]
  · rw [hw] at h
    simp only [Option.toList_some, List.cons_append, List.nil_append, List.mem_cons, List.not_mem_nil, or_false] at h
    exact h.symm.imp_right fun h => by simp [hc, h]

/-- With no other write of its own in hand, a requester that asks has the one write. -/
theorem filter_askWrite {who : Requester} {w : StoreWrite} {s : State} (p : PendingWrite → Bool)
    (hs : (writesInHand s).filter p = []) (hp : p ⟨who, w⟩ = true) :
    (writesInHand (askWrite who w s)).filter p = [⟨who, w⟩] := by
  unfold writesInHand at hs ⊢
  obtain ⟨hc, hw⟩ | ⟨c, hc, hw⟩ := askWrite_writes who w s
  · rw [hw]
    rw [hc] at hs
    simpa [List.filter_cons, hp] using hs
  · rw [hw]
    rw [hc] at hs
    simp only [Option.toList_some, List.cons_append, List.nil_append, List.filter_cons] at hs ⊢
    split at hs
    · cases hs
    · next hpc => simp [hpc, hp]

/-- A write another requester asks for adds none to those of a requester. -/
theorem filter_askWrite_other {who : Requester} {w : StoreWrite} {s : State} (p : PendingWrite → Bool)
    (hp : p ⟨who, w⟩ = false) :
    ((writesInHand (askWrite who w s)).filter p).Sublist ((writesInHand s).filter p) := by
  unfold writesInHand
  obtain ⟨hc, hw⟩ | ⟨c, hc, hw⟩ := askWrite_writes who w s
  · rw [hw, hc]
    simp [hp]
  · rw [hw, hc]
    simp only [Option.toList_some, List.filter_append, List.filter_cons, hp]
    simp

theorem mem_writeDone {w v : PendingWrite} {s : State} (h : v ∈ writesInHand (writeDone w s)) :
    s.writes.waiting = some v := by
  simpa [writesInHand, writeDone, beginWaitingWrite] using h

/-- The writes in hand, the one in progress first. -/
theorem writesInHand_current {w : PendingWrite} {s : State} (h : s.writes.current = some w) :
    writesInHand s = w :: s.writes.waiting.toList := by
  unfold writesInHand
  rw [h]
  rfl

/-! ### The rollback floor (R121) -/

/-- The guard of the rollback floor, taken apart. -/
structure FloorGuarded (s : State) : Prop where
  writes : ∀ w ∈ writesInHand s, w.contents.floorOk s.store.floor = true
  slot : ∀ w ∈ writesInHand s, w.requester = .slotController → w.contents.ofSlotRecord = true
  one : (otherWrites s).length ≤ 1
  waits : otherWrites s = [] ∨ waitsForWrite s.mc.state = true
  pending : provisioningPending s.mc.state = true → s.store.floor = none
  blank : s.store.lifecycle = .blank → s.store.floor = none ∧ ∀ w ∈ writesInHand s, w.contents.raisesFloor = false

theorem floorGuarded_iff {s : State} : floorGuarded s = true ↔ FloorGuarded s := by
  unfold floorGuarded
  simp only [Bool.and_eq_true, Bool.or_eq_true, List.all_eq_true, decide_eq_true_eq, Bool.not_eq_true',
    Option.isNone_iff_eq_none, List.isEmpty_iff]
  constructor
  · rintro ⟨⟨⟨⟨⟨h1, h2⟩, h3⟩, h4⟩, h5⟩, h6⟩
    refine ⟨h1, fun w hw hr => (h2 w hw).resolve_left (not_not.2 hr), h3, h4, fun hp => ?_, fun hb => ?_⟩
    · exact h5.resolve_left (by simp [hp])
    · exact h6.resolve_left (not_not.2 hb)
  · rintro ⟨h1, h2, h3, h4, h5, h6⟩
    refine ⟨⟨⟨⟨⟨h1, fun w hw => ?_⟩, h3⟩, h4⟩, ?_⟩, ?_⟩
    · by_cases hr : w.requester = .slotController
      · exact .inr (h2 w hw hr)
      · exact .inl hr
    · cases hp : provisioningPending s.mc.state with
      | false => exact .inl rfl
      | true => exact .inr (h5 hp)
    · by_cases hb : s.store.lifecycle = .blank
      · exact .inr (h6 hb)
      · exact .inl hb

theorem FloorGuarded.congr {s t : State} (hstore : t.store = s.store) (hwrites : t.writes = s.writes)
    (hstate : t.mc.state = s.mc.state) (h : FloorGuarded s) : FloorGuarded t where
  writes := by rw [writesInHand_congr hwrites, hstore]; exact h.writes
  slot := by rw [writesInHand_congr hwrites]; exact h.slot
  one := by rw [otherWrites_congr hwrites]; exact h.one
  waits := by rw [otherWrites_congr hwrites, hstate]; exact h.waits
  pending := by rw [hstate, hstore]; exact h.pending
  blank := by rw [writesInHand_congr hwrites, hstore]; exact h.blank

theorem slotRecord_floorOk {w : StoreWrite} (f : Option Word32) (h : w.ofSlotRecord = true) : w.floorOk f = true := by
  cases w <;> simp_all [StoreWrite.ofSlotRecord, StoreWrite.floorOk]

theorem slotRecord_apply_floor {w : StoreWrite} (t : Store) (h : w.ofSlotRecord = true) :
    (t.apply w).floor = t.floor ∧ (t.apply w).lifecycle = t.lifecycle := by
  cases w <;> simp_all [StoreWrite.ofSlotRecord, Store.apply]

/-- R121: a write that respects the floor does not lower it. -/
theorem apply_floor_mono {w : StoreWrite} {t : Store} {f : Word32} (h : w.floorOk t.floor = true)
    (hf : t.floor = some f) : ∃ g, (t.apply w).floor = some g ∧ f ≤ g := by
  cases w with
  | provisioning v => simp [StoreWrite.floorOk, hf] at h
  | floor v =>
    refine ⟨v, rfl, ?_⟩
    simpa [StoreWrite.floorOk, hf] using h
  | _ => exact ⟨f, hf, BitVec.le_refl f⟩

/-! ### What a step does to the store's records and writes -/

/-- The store, the writes in hand and what the channel waits for. -/
def SameBooks (s t : State) : Prop := t.store = s.store ∧ t.writes = s.writes ∧ t.mc.state = s.mc.state

theorem Quiet.books {s t : State} (h : Quiet s t) : SameBooks s t := ⟨h.store, h.writes, h.state⟩

/-- The boot scan leaves the records alone but for one slot record write it asks for (R85). -/
def SlotBooks (s t : State) : Prop :=
  t.store = s.store ∧ t.mc.state = s.mc.state ∧
    (t.writes = s.writes ∨ ∃ r, t.writes = (askWrite .slotController (.slotRecord r) s).writes)

theorem SlotBooks.of_eq {s t : State} (hs : t.store = s.store) (hw : t.writes = s.writes)
    (hm : t.mc.state = s.mc.state) : SlotBooks s t := ⟨hs, hm, .inl hw⟩

theorem askWrite_writes_congr {who : Requester} {w : StoreWrite} {s t : State} (h : t.writes = s.writes) :
    (askWrite who w t).writes = (askWrite who w s).writes := by
  unfold askWrite
  rw [h]
  split <;> rfl

theorem SlotBooks.of_base {s u t : State} (hb : SameBooks s u) (h : SlotBooks u t) : SlotBooks s t := by
  obtain ⟨hs, hw, hm⟩ := hb
  obtain ⟨hs', hm', hw'⟩ := h
  refine ⟨hs'.trans hs, hm'.trans hm, ?_⟩
  obtain hw' | ⟨r, hw'⟩ := hw'
  · exact .inl (hw'.trans hw)
  · exact .inr ⟨r, hw'.trans (askWrite_writes_congr hw)⟩

theorem bootStep_books {passed sound : Prop} {s t : State} (h : BootStep passed sound s t) : SlotBooks s t := by
  cases h with
  | stood => exact .of_eq rfl rfl rfl
  | begun => exact .of_eq (by simp) (by simp) (by simp)
  | revertEvent => exact .of_eq rfl rfl rfl
  | asked r => exact ⟨by simp, by simp, .inr ⟨r, askWrite_writes_congr rfl⟩⟩
  | extending stage _ _ _ _ h =>
    obtain ⟨-, rfl⟩ := beginExtend_next h
    exact .of_eq (by simp) (by simp) (by simp)
  | recovered => exact .of_eq (by simp) (by simp) (by simp)
  | released => exact .of_eq (by simp) (by simp) (by simp)

theorem scanStep_books {p : ScanPhase} {sound : Prop} {s t : State} (h : ScanStep p sound s t) : SlotBooks s t := by
  cases h with
  | stood => exact .of_eq rfl rfl rfl
  | slotFilled => exact .of_eq rfl rfl rfl
  | manifestTaken => exact .of_eq rfl rfl rfl
  | verifyPlaced => exact .of_eq rfl rfl rfl
  | segmentBegun => exact .of_eq (by simp) (by simp) (by simp)
  | stagedFailed => exact .of_eq (by simp) (by simp) (by simp)
  | bootFailed => exact .of_eq (by simp) (by simp) (by simp)
  | stagedPassed => exact .of_eq (by simp) (by simp) (by simp)
  | bootPassed =>
    exact SlotBooks.of_base (by exact ⟨rfl, rfl, rfl⟩)
      (bootStep_books (bootStep_bootPassed (passed := True) (sound := sound) trivial _))

theorem bootFolded_books (digest : Bytes) (s : State) : SlotBooks s (bootFolded digest s) := by
  obtain h | ⟨lane, -, h⟩ := bootFolded_cases True digest s
  · rw [h]
    exact .of_eq rfl rfl rfl
  · exact SlotBooks.of_base (by exact ⟨rfl, rfl, rfl⟩) (bootStep_books h)

/-- What the channel asks for, at its taking or later: a write of its own, or that of a commit (R118). -/
def AskedByChannel (s : State) (job : Job) (w : StoreWrite) : Prop :=
  ChannelWrite s job w ∨ ∃ r n, job = .lastWrite r ∧ n ≤ 7 ∧ s.store.lifecycle ≠ .blank ∧
    w = .slotRecord (commitRecord (slotRecordOf s) (liveInactive s) n)

/-- How a channel step changes the books: its state alone moves, or it asks for a write and waits. -/
inductive ChannelBooks (s t : State) : Prop
  | served (hs : t.store = s.store) (hw : t.writes = s.writes)
      (hj : t.mc.state = s.mc.state ∨ (waitsForWrite t.mc.state = false ∧
        (onOwnerToken t.mc.state = true → s.store.lifecycle ≠ .blank ∨ onOwnerToken s.mc.state = true) ∧
        (provisioningPending t.mc.state = true →
          s.store.lifecycle = .blank ∧ s.store.keys.any keyActive = true)))
  | asked (job : Job) (w : StoreWrite) (ha : AskedByChannel s job w) (hs : t.store = s.store)
      (hw : t.writes = (askWrite .channel w s).writes) (hj : t.mc.state = .working job)

theorem jobFits_waits {s : State} {j : ChannelState} (h : JobFits s j) :
    waitsForWrite j = false ∧ provisioningPending j = false := by
  unfold JobFits at h
  split at h <;> simp_all [waitsForWrite, provisioningPending]

theorem jobFits_owner {s : State} {j : ChannelState} (h : JobFits s j) (hj : onOwnerToken j = true) :
    s.store.lifecycle ≠ .blank ∨ onOwnerToken s.mc.state = true := by
  unfold onOwnerToken at hj
  split at hj
  · exact .inl h
  · exact h.elim
  · exact h
  · cases hj

theorem ChannelOnly.books {s t : State} (h : ChannelOnly s t) : t.store = s.store ∧ t.writes = s.writes := by
  unfold ChannelOnly at h
  rw [h]
  exact ⟨rfl, rfl⟩

theorem channelStep_books {s t : State} (h : ChannelStep s t) : ChannelBooks s t := by
  have hidle : ∀ {u : State}, ChannelOnly u t → u.store = s.store → u.writes = s.writes → t.mc.state = .idle →
      ChannelBooks s t := fun h hs hw hj =>
    .served (h.books.1.trans hs) (h.books.2.trans hw)
      (.inr ⟨by simp [hj, waitsForWrite], by simp [hj, onOwnerToken], by simp [hj, provisioningPending]⟩)
  cases h with
  | own h hj =>
    refine .served h.books.1 h.books.2 (hj.imp_right fun hj => ?_)
    obtain ⟨h1, h2⟩ := jobFits_waits hj
    exact ⟨h1, jobFits_owner hj, by simp [h2]⟩
  | cleared h hj => exact hidle h rfl rfl hj
  | narrowed i mask h hj => exact hidle h rfl rfl hj
  | opened hr hs h hj => exact hidle h rfl rfl hj
  | closed hs h hj => exact hidle h rfl rfl hj
  | abandoned hs h hj => exact hidle h rfl rfl hj
  | verifying hb hr hs h hj => exact hidle h (by simp) (by simp) hj
  | restart floor ht h =>
    refine .served rfl rfl (.inr ⟨rfl, by simp [onOwnerToken, waitFor], fun hp => ?_⟩)
    cases floor with
    | none => simp [provisioningPending, waitFor] at hp
    | some v => exact h v rfl
  | @write u job w h hj hw =>
    exact .asked job w (.inl hw) (by simpa using h.books.1) (askWrite_writes_congr h.books.2) rfl
  | commit r n hb hs hactive ha =>
    exact .asked _ _ (.inr ⟨r, n, rfl, ha, hb, rfl⟩) (by simp) (askWrite_writes_congr rfl) rfl
  | extend hk hk' hd h =>
    obtain ⟨-, rfl⟩ := beginExtend_next h
    exact .served (by simp) (by simp)
      (.inr ⟨rfl, by simp [onOwnerToken, waitFor], by simp [provisioningPending, waitFor]⟩)

/-- The write in progress has ended and left the writes in hand. -/
structure WriteEnded (w : PendingWrite) (s t : State) : Prop where
  current : s.writes.current = some w
  store : t.store = s.store.apply w.contents
  state : t.mc.state = s.mc.state
  writes : writesInHand t = s.writes.waiting.toList

/-- What keeps an invariant of the books through every step. Each condition is one thing that can happen to them. -/
structure KeptByBooks (I : State → Prop) : Prop where
  guard : ∀ s, I s → FloorGuarded s
  congr : ∀ s t, SameBooks s t → I s → I t
  serve : ∀ s t, t.store = s.store → t.writes = s.writes → otherWrites s = [] → waitsForWrite t.mc.state = false →
    (onOwnerToken t.mc.state = true → s.store.lifecycle ≠ .blank ∨ onOwnerToken s.mc.state = true) →
    (provisioningPending t.mc.state = true → s.store.lifecycle = .blank ∧ s.store.keys.any keyActive = true) →
    I s → I t
  ask : ∀ s t job w, AskedByChannel s job w → t.store = s.store → t.writes = (askWrite .channel w s).writes →
    t.mc.state = .working job → otherWrites s = [] → I s → I t
  slotAsk : ∀ s t r, t.store = s.store → t.writes = (askWrite .slotController (.slotRecord r) s).writes →
    t.mc.state = s.mc.state → I s → I t
  done : ∀ s t w, WriteEnded w s t → I s → I t
  reset : ∀ s t, (t.store = s.store ∨ ∃ w, s.writes.current = some w ∧ t.store = s.store.apply w.contents) →
    t.writes = ⟨none, none⟩ → t.mc.state = .idle → I s → I t
  lowering : ∀ s t, t.store = s.store → t.writes = ⟨some ⟨.partReset, .lockoutLowering⟩, none⟩ →
    t.mc.state = .working .resetWrite → I s → I t
  provision : ∀ s t v, t.store = s.store → s.mc.state = .working (.restart (some v)) →
    t.writes = ⟨some ⟨.partReset, .provisioning v⟩, none⟩ → t.mc.state = .working .resetWrite → I s → I t

theorem SlotBooks.kept {I : State → Prop} (hI : KeptByBooks I) {s t : State} (h : SlotBooks s t) (hs : I s) : I t := by
  obtain ⟨hstore, hstate, hw | ⟨r, hw⟩⟩ := h
  · exact hI.congr s t ⟨hstore, hw, hstate⟩ hs
  · exact hI.slotAsk s t r hstore hw hstate hs

/-- While the channel waits for no write, none but the boot scan's is in hand. -/
theorem FloorGuarded.noOther {s : State} (h : FloorGuarded s) (hw : waitsForWrite s.mc.state = false) :
    otherWrites s = [] := h.waits.resolve_right (by simp [hw])

theorem channelSteps_kept {I : State → Prop} (hI : KeptByBooks I) {s t : State} (h : ChannelSteps s t)
    (ho : otherWrites s = []) (hs : I s) : I t := by
  obtain ⟨u, v, hq, hv, ht⟩ := h
  have hu : I u := hI.congr s u hq.books hs
  have ho' : otherWrites u = [] := (otherWrites_congr hq.writes).trans ho
  refine hI.congr v t ht.books ?_
  cases channelStep_books hv with
  | served hstore hw hj =>
    obtain hj | ⟨hwait, ho, hp⟩ := hj
    · exact hI.congr u v ⟨hstore, hw, hj⟩ hu
    · exact hI.serve u v hstore hw ho' hwait ho hp hu
  | asked job w ha hstore hw hj => exact hI.ask u v job w ha hstore hw hj ho' hu

theorem waits_of_serving {j : ChannelState} (h : serving j = true) : waitsForWrite j = false := by
  unfold serving at h
  split at h <;> simp_all [waitsForWrite]

/-- The end of a write of the channel leaves no other in hand. -/
theorem FloorGuarded.noOtherAfter {s t : State} {w : PendingWrite} (h : FloorGuarded s) (he : WriteEnded w s t)
    (hr : w.requester ≠ .slotController) : otherWrites t = [] := by
  have hone := h.one
  unfold otherWrites at hone ⊢
  rw [writesInHand_current he.current, List.filter_cons_of_pos (by simpa using hr)] at hone
  rw [he.writes]
  simpa using hone

theorem writeEnded_writeDone {w : PendingWrite} {s : State} (h : s.writes.current = some w) :
    WriteEnded w s (writeDone w s) :=
  ⟨h, rfl, rfl, by simp [writesInHand, writeDone, beginWaitingWrite]⟩

/-- The store of a POWER_ON or PIN reset: as it was, or with the write in progress (log 14). -/
theorem hardReset_store (s : State) :
    (hardReset s).store = s.store ∨
      ∃ w, s.writes.current = some w ∧ (hardReset s).store = s.store.apply w.contents := by
  have heq : (hardReset s).store = (interruptWrite s).store := by simp [hardReset]
  rw [heq]
  unfold interruptWrite
  split
  · exact .inl rfl
  · next w hw =>
    dsimp only
    split
    · exact .inr ⟨w, hw, rfl⟩
    · exact .inl rfl

theorem beginResetWork_kept {I : State → Prop} (hI : KeptByBooks I) {s : State} (hs : I s) :
    I (beginResetWork s) := by
  unfold beginResetWork
  split
  · exact hI.lowering s _ rfl rfl rfl hs
  · exact hI.congr s _ ⟨rfl, rfl, rfl⟩ hs

theorem hardReset_kept {I : State → Prop} (hI : KeptByBooks I) {s : State} (low : Bool) (hs : I s) :
    I { hardReset s with rstLow := low } :=
  hI.reset s _ (hardReset_store s) rfl rfl hs

theorem beginBoot_books (s : State) : SlotBooks s (beginBoot s) := by
  unfold beginBoot
  split
  · exact .of_eq (by simp) (by simp) (by simp)
  · exact bootStep_books (bootStep_bootFirstStep (passed := True) (sound := True) s)

/-- An invariant of the books is kept by every event. -/
theorem move_kept {I : State → Prop} (hI : KeptByBooks I) {s t : State} (h : Move s t) (hs : I s) : I t := by
  have hno : waitsForWrite s.mc.state = false → otherWrites s = [] := (hI.guard s hs).noOther
  have hitem : I (scanItemDone s) := hI.congr s _ ⟨rfl, rfl, rfl⟩ hs
  cases h with
  | stood => exact hs
  | posted kept hl hidle h =>
    have hone := hno (by rw [hidle]; rfl)
    refine channelSteps_kept hI h hone (hI.serve s _ rfl rfl hone rfl (by simp [acceptPost, onOwnerToken])
      (by simp [acceptPost, provisioningPending]) hs)
  | allowed c targets inStaging => exact hI.congr s _ ⟨by simp, by simp, by simp⟩ hs
  | refused c address reason => exact hI.congr s _ ⟨by simp, by simp, by simp⟩ hs
  | scan hp h => exact (scanStep_books h).kept hI hs
  | scanAbsorbed absorbing hi hl => exact hI.congr s _ ⟨rfl, rfl, rfl⟩ hs
  | scanDigested hi hw h => exact (scanStep_books h).kept hI hitem
  | failureDigested hi hw =>
    exact (bootStep_books (bootStep_failureDigested (passed := True) (sound := False) False.elim _)).kept hI hitem
  | revertDigested hi hw =>
    exact (bootStep_books (bootStep_revertDigested (passed := True) (sound := False) False.elim _)).kept hI hitem
  | bootFolded hi hw hl => exact (bootFolded_books _ _).kept hI hitem
  | itemDropped hi hw => exact hitem
  | channelAbsorbed hi hl => exact hI.congr s _ ⟨rfl, rfl, rfl⟩ hs
  | channelDigested hj h =>
    exact channelSteps_kept hI h (hno (waits_of_serving hj)) (hI.congr s _ ⟨rfl, rfl, rfl⟩ hs)
  | channelItemDropped hf => exact hI.congr s _ ⟨rfl, rfl, rfl⟩ hs
  | laneFolded hk hi hl =>
    exact hI.serve s _ rfl rfl (hno (by rw [hk]; rfl)) rfl (by simp [laneFolded, onOwnerToken])
      (by simp [laneFolded, provisioningPending]) hs
  | channelSigned hj h => exact channelSteps_kept hI h (hno (waits_of_serving hj)) hs
  | @writtenDue w hw hdue =>
    exact hI.done s _ w ⟨hw, rfl, rfl, by simp [writesInHand]⟩ hs
  | @channelWritten w hw hr =>
    have he := writeEnded_writeDone hw
    exact channelSteps_kept hI (steps_channelWriteEnded _) ((hI.guard s hs).noOtherAfter he (by simp [hr]))
      (hI.done s _ w he hs)
  | @slotWritten w hw hr =>
    exact (bootStep_books (bootStep_bootWriteEnded True _)).kept hI (hI.done s _ w (writeEnded_writeDone hw) hs)
  | @resetWritten w hw hr =>
    have he := writeEnded_writeDone hw
    exact hI.serve (writeDone w s) _ rfl rfl ((hI.guard s hs).noOtherAfter he (by simp [hr])) rfl
      (by simp [resetWriteEnded, onOwnerToken]) (by simp [resetWriteEnded, provisioningPending]) (hI.done s _ w he hs)
  | recoveryEnded hp => exact hI.congr s _ ⟨rfl, rfl, rfl⟩ hs
  | captured a b hp =>
    exact (SlotBooks.of_base (by exact ⟨rfl, rfl, rfl⟩) (beginBoot_books _)).kept hI hs
  | hardReset low work h =>
    split
    · exact beginResetWork_kept hI (hardReset_kept hI low hs)
    · exact hardReset_kept hI low hs
  | released hl => exact beginResetWork_kept hI (hI.congr s _ ⟨rfl, rfl, rfl⟩ hs)
  | restarted floor hj hdue =>
    unfold restartWork
    split
    · next v => exact hI.provision s _ v rfl hj rfl rfl hs
    · exact hI.reset s _ (.inl rfl) rfl rfl hs

/-- An invariant of the books is kept by every step. -/
theorem step_kept {I : State → Prop} (hI : KeptByBooks I) {s t : State} (h : step s = .next t) (hs : I s) : I t := by
  obtain ⟨u, v, hu, hv, ht⟩ := step_moves h
  exact hI.congr v t ht.books (move_kept hI hv (hI.congr s u hu.books hs))

/-! ### The rollback floor (R121) -/

theorem channelWrite_floorOk {s : State} {job : Job} {w : StoreWrite} (h : AskedByChannel s job w) :
    w.floorOk s.store.floor = true ∧ waitsForWrite (.working job) = true ∧
      provisioningPending (.working job) = false ∧ (s.store.lifecycle = .blank → w.raisesFloor = false) := by
  obtain h | ⟨r, n, rfl, -, hb, rfl⟩ := h
  · cases h with
    | floor hb ho hv =>
      refine ⟨?_, rfl, rfl, fun h => absurd h hb⟩
      cases hf : s.store.floor with
      | none => rfl
      | some f =>
        rw [hf] at hv
        simpa [StoreWrite.floorOk] using BitVec.le_of_lt hv
    | _ => exact ⟨rfl, rfl, rfl, fun _ => rfl⟩
  · exact ⟨rfl, rfl, rfl, fun _ => rfl⟩

theorem FloorGuarded.serve {s t : State} (hs : t.store = s.store) (hw : t.writes = s.writes)
    (hn : otherWrites s = []) (hp : provisioningPending t.mc.state = true → s.store.lifecycle = .blank)
    (h : FloorGuarded s) : FloorGuarded t where
  writes := by rw [writesInHand_congr hw, hs]; exact h.writes
  slot := by rw [writesInHand_congr hw]; exact h.slot
  one := by rw [otherWrites_congr hw]; exact h.one
  waits := .inl (by rw [otherWrites_congr hw]; exact hn)
  pending := fun hp' => by rw [hs]; exact (h.blank (hp hp')).1
  blank := by rw [writesInHand_congr hw, hs]; exact h.blank

theorem otherWrites_askChannel {w : StoreWrite} {s t : State} (hw : t.writes = (askWrite .channel w s).writes)
    (hn : otherWrites s = []) : otherWrites t = [⟨.channel, w⟩] := by
  rw [otherWrites_congr hw]
  exact filter_askWrite _ hn rfl

theorem FloorGuarded.ask {s t : State} {job : Job} {w : StoreWrite} (ha : AskedByChannel s job w)
    (hs : t.store = s.store) (hw : t.writes = (askWrite .channel w s).writes) (hj : t.mc.state = .working job)
    (hn : otherWrites s = []) (h : FloorGuarded s) : FloorGuarded t := by
  obtain ⟨hok, hwait, hpend, hraise⟩ := channelWrite_floorOk ha
  have hother := otherWrites_askChannel hw hn
  have hmem : ∀ v ∈ writesInHand t, v = ⟨.channel, w⟩ ∨ v ∈ writesInHand s := fun v hv =>
    mem_askWrite (writesInHand_congr hw ▸ hv)
  refine ⟨fun v hv => ?_, fun v hv hr => ?_, by simp [hother], .inr (by rw [hj]; exact hwait), ?_, fun hb => ?_⟩
  · rw [hs]
    obtain rfl | hv := hmem v hv
    · exact hok
    · exact h.writes v hv
  · obtain rfl | hv := hmem v hv
    · cases hr
    · exact h.slot v hv hr
  · rw [hj, hpend]
    exact fun h => Bool.noConfusion h
  · rw [hs] at hb ⊢
    obtain ⟨hf, hno⟩ := h.blank hb
    refine ⟨hf, fun v hv => ?_⟩
    obtain rfl | hv := hmem v hv
    · exact hraise hb
    · exact hno v hv

theorem FloorGuarded.slotAsk {s t : State} {r : SlotRecord} (hs : t.store = s.store)
    (hw : t.writes = (askWrite .slotController (.slotRecord r) s).writes) (hm : t.mc.state = s.mc.state)
    (h : FloorGuarded s) : FloorGuarded t := by
  have hmem : ∀ v ∈ writesInHand t, v = ⟨.slotController, .slotRecord r⟩ ∨ v ∈ writesInHand s := fun v hv =>
    mem_askWrite (writesInHand_congr hw ▸ hv)
  have hsub : (otherWrites t).Sublist (otherWrites s) := by
    rw [otherWrites_congr hw]
    exact filter_askWrite_other _ rfl
  refine ⟨fun v hv => ?_, fun v hv hr => ?_, hsub.length_le.trans h.one, ?_, ?_, fun hb => ?_⟩
  · rw [hs]
    obtain rfl | hv := hmem v hv
    · rfl
    · exact h.writes v hv
  · obtain rfl | hv := hmem v hv
    · rfl
    · exact h.slot v hv hr
  · rw [hm]
    exact h.waits.imp_left fun he => List.sublist_nil.1 (by rw [← he]; exact hsub)
  · rw [hm, hs]
    exact h.pending
  · rw [hs] at hb ⊢
    obtain ⟨hf, hno⟩ := h.blank hb
    refine ⟨hf, fun v hv => ?_⟩
    obtain rfl | hv := hmem v hv
    · rfl
    · exact hno v hv

/-- The write in progress is the boot scan's, or no write but the boot scan's waits behind it. -/
theorem FloorGuarded.waiting {s : State} {w v : PendingWrite} (h : FloorGuarded s) (hw : s.writes.current = some w)
    (hv : s.writes.waiting = some v) (hr : w.requester ≠ .slotController) : v.contents.ofSlotRecord = true := by
  have hone := h.one
  unfold otherWrites at hone
  rw [writesInHand_current hw, hv, List.filter_cons_of_pos (by simpa using hr)] at hone
  refine h.slot v (by simp [writesInHand, hv]) ?_
  by_contra hvr
  rw [Option.toList_some, List.filter_cons_of_pos (by simpa using hvr)] at hone
  simp at hone

theorem apply_lifecycle {t : Store} {w : StoreWrite} (h : (t.apply w).lifecycle = .blank) :
    t.lifecycle = .blank ∧ w.ofProvisioning = false ∧ w.ofOwnership = false := by
  cases w <;> simp_all [Store.apply, StoreWrite.ofProvisioning, StoreWrite.ofOwnership]

theorem apply_floor_kept {t : Store} {w : StoreWrite} (hp : w.ofProvisioning = false) (hf : w.raisesFloor = false) :
    (t.apply w).floor = t.floor := by
  cases w <;> simp_all [Store.apply, StoreWrite.ofProvisioning, StoreWrite.raisesFloor]

/-- The guard after a write has taken effect, whatever becomes of the write behind it. -/
theorem FloorGuarded.applied {s t : State} {w : PendingWrite} (hw : s.writes.current = some w)
    (hs : t.store = s.store.apply w.contents) (hin : ∀ v ∈ writesInHand t, s.writes.waiting = some v)
    (hm : t.mc.state = s.mc.state ∨ (otherWrites t = [] ∧ provisioningPending t.mc.state = false))
    (hsub : (otherWrites t).Sublist (otherWrites s)) (h : FloorGuarded s) : FloorGuarded t := by
  have hmem : ∀ v ∈ writesInHand t, v ∈ writesInHand s := fun v hv => by simp [writesInHand, hin v hv]
  have hcur : w ∈ writesInHand s := by simp [writesInHand_current hw]
  refine ⟨fun v hv => ?_, fun v hv hr => h.slot v (hmem v hv) hr, hsub.length_le.trans h.one, ?_, fun hp => ?_, fun hb => ?_⟩
  · by_cases hr : w.requester = .slotController
    · rw [hs, (slotRecord_apply_floor _ (h.slot w hcur hr)).1]
      exact h.writes v (hmem v hv)
    · exact slotRecord_floorOk _ (h.waiting hw (hin v hv) hr)
  · obtain hm | ⟨hn, -⟩ := hm
    · rw [hm]
      exact h.waits.imp_left fun he => List.sublist_nil.1 (by rw [← he]; exact hsub)
    · exact .inl hn
  · obtain hm | ⟨-, hp'⟩ := hm
    · rw [hm] at hp
      have hn : otherWrites s = [] := h.noOther (by
        unfold provisioningPending at hp
        split at hp
        · next hst => rw [hst]; rfl
        · cases hp)
      have hr : w.requester = .slotController := by
        by_contra hr
        have : w ∈ otherWrites s := List.mem_filter.2 ⟨hcur, by simpa using hr⟩
        simp [hn] at this
      rw [hs, (slotRecord_apply_floor _ (h.slot w hcur hr)).1]
      exact h.pending hp
    · rw [hp'] at hp
      cases hp
  · rw [hs] at hb ⊢
    obtain ⟨hb', hprov, -⟩ := apply_lifecycle hb
    obtain ⟨hf, hno⟩ := h.blank hb'
    exact ⟨(apply_floor_kept hprov (hno w hcur)).trans hf, fun v hv => hno v (hmem v hv)⟩

theorem WriteEnded.mem {s t : State} {w v : PendingWrite} (h : WriteEnded w s t) (hv : v ∈ writesInHand t) :
    s.writes.waiting = some v := by
  rw [h.writes] at hv
  simpa using hv

theorem WriteEnded.other {s t : State} {w : PendingWrite} (h : WriteEnded w s t) :
    (otherWrites t).Sublist (otherWrites s) := by
  unfold otherWrites
  rw [writesInHand_current h.current, h.writes]
  exact (List.sublist_cons_self _ _).filter _

theorem FloorGuarded.noWrites {s t : State} (hs : t.store = s.store) (hw : t.writes = ⟨none, none⟩)
    (hp : provisioningPending t.mc.state = false) (h : FloorGuarded s) : FloorGuarded t := by
  have hin : writesInHand t = [] := by simp [writesInHand, hw]
  have hother : otherWrites t = [] := by simp [otherWrites, hin]
  exact ⟨by simp [hin], by simp [hin], by simp [hother], .inl hother, by simp [hp], by
    rw [hs, hin]
    exact fun hb => ⟨(h.blank hb).1, by simp⟩⟩

/-- The reset's own write is the only one, and the channel waits for it. -/
theorem FloorGuarded.resetWrite {s t : State} {w : StoreWrite} (hs : t.store = s.store)
    (hw : t.writes = ⟨some ⟨.partReset, w⟩, none⟩) (hm : t.mc.state = .working .resetWrite)
    (hok : w.floorOk s.store.floor = true) (hr : w.raisesFloor = false) (h : FloorGuarded s) : FloorGuarded t := by
  have hin : writesInHand t = [⟨.partReset, w⟩] := by simp [writesInHand, hw]
  have hother : otherWrites t = [⟨.partReset, w⟩] := by simp [otherWrites, hin]
  exact ⟨by simp [hin, hs, hok], by simp [hin], by simp [hother], .inr (by rw [hm]; rfl),
    by simp [hm, provisioningPending], by
      rw [hs, hin]
      exact fun hb => ⟨(h.blank hb).1, by simp [hr]⟩⟩

theorem floorGuarded_kept : KeptByBooks FloorGuarded where
  guard _ h := h
  congr _ _ := fun ⟨hs, hw, hm⟩ h => h.congr hs hw hm
  serve _ _ hs hw hn _ _ hp h := h.serve hs hw hn fun hp' => (hp hp').1
  ask _ _ _ _ ha hs hw hj hn h := h.ask ha hs hw hj hn
  slotAsk _ _ _ hs hw hm h := h.slotAsk hs hw hm
  done _ _ _ he h := h.applied he.current he.store (fun _ => he.mem) (.inl he.state) he.other
  reset s t hstore hw hm h := by
    have hin : writesInHand t = [] := by simp [writesInHand, hw]
    obtain hs | ⟨w, hc, hs⟩ := hstore
    · exact h.noWrites hs hw (by simp [hm, provisioningPending])
    · exact h.applied hc hs (by simp [hin]) (.inr ⟨by simp [otherWrites, hin], by simp [hm, provisioningPending]⟩)
        (by simp [otherWrites, hin])
  lowering _ _ hs hw hm h := h.resetWrite hs hw hm rfl rfl
  provision s t v hs hj hw hm h := by
    refine h.resetWrite hs hw hm ?_ rfl
    rw [h.pending (by rw [hj]; rfl)]
    rfl

/-! ### A floor that is reached stays -/

/-- The guard, and a floor of at least `f`. -/
def FloorReached (f : Word32) (s : State) : Prop := FloorGuarded s ∧ ∃ g, s.store.floor = some g ∧ f ≤ g

theorem floorReached_kept (f : Word32) : KeptByBooks (FloorReached f) where
  guard _ h := h.1
  congr s t hb h := ⟨floorGuarded_kept.congr s t hb h.1, by rw [hb.1]; exact h.2⟩
  serve s t hs hw hn hwait hown hp h := ⟨floorGuarded_kept.serve s t hs hw hn hwait hown hp h.1, by rw [hs]; exact h.2⟩
  ask s t job w ha hs hw hj hn h := ⟨floorGuarded_kept.ask s t job w ha hs hw hj hn h.1, by rw [hs]; exact h.2⟩
  slotAsk s t r hs hw hm h := ⟨floorGuarded_kept.slotAsk s t r hs hw hm h.1, by rw [hs]; exact h.2⟩
  done s t w he h := by
    refine ⟨floorGuarded_kept.done s t w he h.1, ?_⟩
    obtain ⟨g, hg, hfg⟩ := h.2
    obtain ⟨k, hk, hgk⟩ := apply_floor_mono (h.1.writes w (by simp [writesInHand_current he.current])) hg
    exact ⟨k, by rw [he.store, hk], BitVec.le_trans hfg hgk⟩
  reset s t hstore hw hm h := by
    refine ⟨floorGuarded_kept.reset s t hstore hw hm h.1, ?_⟩
    obtain ⟨g, hg, hfg⟩ := h.2
    obtain hs | ⟨w, hc, hs⟩ := hstore
    · rw [hs]
      exact h.2
    · obtain ⟨k, hk, hgk⟩ := apply_floor_mono (h.1.writes w (by simp [writesInHand_current hc])) hg
      exact ⟨k, by rw [hs, hk], BitVec.le_trans hfg hgk⟩
  lowering s t hs hw hm h := ⟨floorGuarded_kept.lowering s t hs hw hm h.1, by rw [hs]; exact h.2⟩
  provision s t v hs hj hw hm h := ⟨floorGuarded_kept.provision s t v hs hj hw hm h.1, by rw [hs]; exact h.2⟩

/-! ### The credential directory (R165, R166) -/

theorem directorySorted_iff (l : List Credential) :
    directorySorted l = true ↔ (∀ c ∈ l, c.ok = true) ∧ l.Pairwise fun c d => c.handle < d.handle := by
  induction l with
  | nil => simp [directorySorted]
  | cons c rest ih =>
    cases rest with
    | nil => simp [directorySorted]
    | cons d rest =>
      rw [directorySorted, Bool.and_eq_true, Bool.and_eq_true, ih, decide_eq_true_eq]
      simp only [List.pairwise_cons, List.mem_cons]
      constructor
      · rintro ⟨⟨hc, hcd⟩, hok, hd, hp⟩
        refine ⟨?_, ?_, hd, hp⟩
        · rintro x (rfl | hx)
          · exact hc
          · exact hok x hx
        · rintro x (rfl | hx)
          · exact hcd
          · exact hcd.trans (hd x hx)
      · rintro ⟨hok, hc, hd, hp⟩
        exact ⟨⟨hok c (.inl rfl), hc d (.inl rfl)⟩, fun x hx => hok x (.inr hx), hd, hp⟩

theorem mem_putCredential {c d : Credential} {l : List Credential} (h : d ∈ putCredential c l) : d = c ∨ d ∈ l := by
  induction l with
  | nil => simpa [putCredential] using h
  | cons e rest ih =>
    unfold putCredential at h
    split at h
    · simpa using h
    · split at h
      · rw [List.mem_cons] at h
        exact h.imp_right fun h => List.mem_cons_of_mem _ h
      · rw [List.mem_cons] at h
        obtain rfl | h := h
        · exact .inr (List.mem_cons_self ..)
        · exact (ih h).imp_right fun h => List.mem_cons_of_mem _ h

theorem putCredential_pairwise {c : Credential} {l : List Credential}
    (h : l.Pairwise fun c d => c.handle < d.handle) :
    (putCredential c l).Pairwise fun c d => c.handle < d.handle := by
  induction l with
  | nil => simp [putCredential]
  | cons e rest ih =>
    rw [List.pairwise_cons] at h
    obtain ⟨he, hrest⟩ := h
    unfold putCredential
    split
    · next hlt =>
      refine List.pairwise_cons.2 ⟨fun d hd => ?_, List.pairwise_cons.2 ⟨he, hrest⟩⟩
      rw [List.mem_cons] at hd
      obtain rfl | hd := hd
      · exact hlt
      · exact hlt.trans (he d hd)
    · split
      · next heq => exact List.pairwise_cons.2 ⟨fun d hd => heq ▸ he d hd, hrest⟩
      · refine List.pairwise_cons.2 ⟨fun d hd => ?_, ih hrest⟩
        obtain rfl | hd := mem_putCredential hd
        · omega
        · exact he d hd

/-- R172: the bytes used after a record is put in its place. -/
theorem bytesUsed_putCredential {c : Credential} {l : List Credential}
    (h : l.Pairwise fun c d => c.handle < d.handle) : bytesUsed (putCredential c l) = bytesAfterStore l c := by
  have hkeep : ∀ l : List Credential, (∀ d ∈ l, c.handle < d.handle) → l.filter (fun d => d.handle != c.handle) = l :=
    fun l hl => List.filter_eq_self.2 fun d hd => by simpa using (hl d hd).ne'
  induction l with
  | nil => simp [putCredential, bytesAfterStore, bytesUsed]
  | cons e rest ih =>
    rw [List.pairwise_cons] at h
    obtain ⟨he, hrest⟩ := h
    unfold putCredential
    split
    · next hlt =>
      have hall : ∀ d ∈ e :: rest, c.handle < d.handle := fun d hd => by
        rw [List.mem_cons] at hd
        obtain rfl | hd := hd
        · exact hlt
        · exact hlt.trans (he d hd)
      rw [bytesAfterStore, hkeep _ hall]
      simp [bytesUsed, Nat.add_comm]
    · split
      · next heq =>
        have hall : ∀ d ∈ rest, c.handle < d.handle := fun d hd => heq ▸ he d hd
        rw [bytesAfterStore, List.filter_cons_of_neg (by simp [heq]), hkeep _ hall]
        simp [bytesUsed, Nat.add_comm]
      · next hne =>
        have hih := ih hrest
        rw [bytesAfterStore] at hih ⊢
        rw [List.filter_cons_of_pos (by simpa using Ne.symm hne)]
        simp only [bytesUsed, List.map_cons, List.sum_cons] at hih ⊢
        omega

theorem bytesUsed_filter (p : Credential → Bool) (l : List Credential) : bytesUsed (l.filter p) ≤ bytesUsed l := by
  unfold bytesUsed
  exact List.Sublist.sum_le_sum (l.filter_sublist.map _) (by simp)

/-- The directory, taken apart, beside the guard. -/
structure DirectoryOk (s : State) : Prop where
  guard : FloorGuarded s
  ok : ∀ c ∈ s.store.credentials, c.ok = true
  sorted : s.store.credentials.Pairwise fun c d => c.handle < d.handle
  bytes : bytesUsed s.store.credentials ≤ 2048
  writes : ∀ w ∈ writesInHand s, w.contents.credentialOk s.store.credentials = true

theorem directoryOk_iff {s : State} : directoryOk s = true ∧ floorGuarded s = true ↔ DirectoryOk s := by
  unfold directoryOk
  rw [floorGuarded_iff, Bool.and_eq_true, Bool.and_eq_true, Bool.and_eq_true, directorySorted_iff, decide_eq_true_eq,
    Option.all_eq_true, Option.all_eq_true]
  constructor
  · rintro ⟨⟨⟨⟨⟨hok, hp⟩, hb⟩, hc⟩, hw⟩, hg⟩
    refine ⟨hg, hok, hp, hb, fun w hmem => ?_⟩
    simp only [writesInHand, List.mem_append, Option.mem_toList] at hmem
    exact hmem.elim (hc w) (hw w)
  · rintro ⟨hg, hok, hp, hb, hw⟩
    exact ⟨⟨⟨⟨⟨hok, hp⟩, hb⟩, fun w h => hw w (by simp [writesInHand, h])⟩, fun w h => hw w (by simp [writesInHand, h])⟩, hg⟩

/-- A write that is in order leaves a directory in order. -/
theorem apply_directory {t : Store} {w : StoreWrite} (hok : ∀ c ∈ t.credentials, c.ok = true)
    (hp : t.credentials.Pairwise fun c d => c.handle < d.handle) (hb : bytesUsed t.credentials ≤ 2048)
    (hw : w.credentialOk t.credentials = true) :
    (∀ c ∈ (t.apply w).credentials, c.ok = true) ∧
      (t.apply w).credentials.Pairwise (fun c d => c.handle < d.handle) ∧ bytesUsed (t.apply w).credentials ≤ 2048 := by
  cases w with
  | putCredential c =>
    simp only [StoreWrite.credentialOk, Bool.and_eq_true, decide_eq_true_eq] at hw
    obtain ⟨hc, hl⟩ := hw
    refine ⟨fun d hd => ?_, putCredential_pairwise hp, ?_⟩
    · obtain rfl | hd := mem_putCredential hd
      · exact hc
      · exact hok d hd
    · exact (bytesUsed_putCredential hp).trans_le hl
  | removeCredential h =>
    exact ⟨fun c hc => hok c (List.mem_of_mem_filter hc), hp.filter _, (bytesUsed_filter _ _).trans hb⟩
  | releaseOwnership => exact ⟨fun c hc => (List.not_mem_nil hc).elim, .nil, by simp [Store.apply, bytesUsed]⟩
  | _ => exact ⟨hok, hp, hb⟩

theorem slotRecord_credentialOk {w : StoreWrite} (l : List Credential) (h : w.ofSlotRecord = true) :
    w.credentialOk l = true := by
  cases w <;> simp_all [StoreWrite.ofSlotRecord, StoreWrite.credentialOk]

theorem slotRecord_apply_credentials {w : StoreWrite} (t : Store) (h : w.ofSlotRecord = true) :
    (t.apply w).credentials = t.credentials := by
  cases w <;> simp_all [StoreWrite.ofSlotRecord, Store.apply]

theorem asked_credentialOk {s : State} {job : Job} {w : StoreWrite} (h : AskedByChannel s job w) :
    w.credentialOk s.store.credentials = true := by
  obtain h | ⟨r, n, rfl, -, -, rfl⟩ := h
  · cases h with
    | putCredential r hc hl =>
      simp only [StoreWrite.credentialOk, Bool.and_eq_true, decide_eq_true_eq]
      exact ⟨hc, hl⟩
    | _ => rfl
  · rfl

theorem DirectoryOk.of_store {s t : State} (hg : FloorGuarded t) (hs : t.store = s.store)
    (hw : ∀ w ∈ writesInHand t, w ∈ writesInHand s ∨ w.contents.credentialOk s.store.credentials = true)
    (h : DirectoryOk s) : DirectoryOk t where
  guard := hg
  ok := by rw [hs]; exact h.ok
  sorted := by rw [hs]; exact h.sorted
  bytes := by rw [hs]; exact h.bytes
  writes w hmem := by
    rw [hs]
    exact (hw w hmem).elim (h.writes w) id

theorem DirectoryOk.applied {s t : State} {w : PendingWrite} (hg : FloorGuarded t) (hw : s.writes.current = some w)
    (hs : t.store = s.store.apply w.contents) (hin : ∀ v ∈ writesInHand t, s.writes.waiting = some v)
    (h : DirectoryOk s) : DirectoryOk t := by
  have hcur : w ∈ writesInHand s := by simp [writesInHand_current hw]
  obtain ⟨hok, hsorted, hbytes⟩ := apply_directory h.ok h.sorted h.bytes (h.writes w hcur)
  refine ⟨hg, by rw [hs]; exact hok, by rw [hs]; exact hsorted, by rw [hs]; exact hbytes, fun v hv => ?_⟩
  by_cases hr : w.requester = .slotController
  · rw [hs, slotRecord_apply_credentials _ (h.guard.slot w hcur hr)]
    exact h.writes v (by simp [writesInHand, hin v hv])
  · exact slotRecord_credentialOk _ (h.guard.waiting hw (hin v hv) hr)

theorem directory_kept : KeptByBooks DirectoryOk where
  guard _ h := h.guard
  congr s t hb h := h.of_store (floorGuarded_kept.congr s t hb h.guard) hb.1 fun w hw =>
    .inl (writesInHand_congr hb.2.1 ▸ hw)
  serve s t hs hw hn hwait hown hp h := h.of_store (floorGuarded_kept.serve s t hs hw hn hwait hown hp h.guard) hs fun w hmem =>
    .inl (writesInHand_congr hw ▸ hmem)
  ask s t job w ha hs hw hj hn h := by
    refine h.of_store (floorGuarded_kept.ask s t job w ha hs hw hj hn h.guard) hs fun v hv => ?_
    obtain rfl | hv := mem_askWrite (writesInHand_congr hw ▸ hv)
    · exact .inr (asked_credentialOk ha)
    · exact .inl hv
  slotAsk s t r hs hw hm h := by
    refine h.of_store (floorGuarded_kept.slotAsk s t r hs hw hm h.guard) hs fun v hv => ?_
    obtain rfl | hv := mem_askWrite (writesInHand_congr hw ▸ hv)
    · exact .inr rfl
    · exact .inl hv
  done s t w he h := h.applied (floorGuarded_kept.done s t w he h.guard) he.current he.store fun _ => he.mem
  reset s t hstore hw hm h := by
    have hg := floorGuarded_kept.reset s t hstore hw hm h.guard
    have hin : writesInHand t = [] := by simp [writesInHand, hw]
    obtain hs | ⟨w, hc, hs⟩ := hstore
    · exact h.of_store hg hs (by simp [hin])
    · exact h.applied hg hc hs (by simp [hin])
  lowering s t hs hw hm h :=
    h.of_store (floorGuarded_kept.lowering s t hs hw hm h.guard) hs (by simp [writesInHand, hw, StoreWrite.credentialOk])
  provision s t v hs hj hw hm h :=
    h.of_store (floorGuarded_kept.provision s t v hs hj hw hm h.guard) hs
      (by simp [writesInHand, hw, StoreWrite.credentialOk])

end Sys2Proof.Machine

namespace Sys2Proof.StoreInvariants

open Sys2Proof Sys2Proof.Machine

/-- Settles O10: the guard and a floor once reached are kept by every change of the books. -/
theorem rollbackFloorNeverFalls : Obligations.RollbackFloorNeverFalls := by
  unfold Obligations.RollbackFloorNeverFalls
  intro s t hs h
  rw [floorGuarded_iff] at hs ⊢
  refine ⟨step_kept floorGuarded_kept h hs, fun f hf => ?_⟩
  exact (step_kept (floorReached_kept f) h ⟨hs, f, hf, BitVec.le_refl f⟩).2

/-- Settles O9: the directory and the guard are kept together by every change of the books. -/
theorem directoryStaysOrdered : Obligations.DirectoryStaysOrdered := by
  unfold Obligations.DirectoryStaysOrdered
  intro s t hd hf h
  exact (directoryOk_iff.2 (step_kept directory_kept h (directoryOk_iff.1 ⟨hd, hf⟩))).1

end Sys2Proof.StoreInvariants
end

section
/-! PROOFS. The order of resets and boots (R98 to R106, R150): kept by every step. -/

namespace Sys2Proof.Machine

/-! ### The invariant in two parts -/

/-- The part's frame: what RST_N, the preparation, SOC_RUN and the writes in hand say of each other. -/
structure FrameOk (s : State) : Prop where
  low : s.rstLow = true → s.fp.prep = .heldByPin ∧ restartPending s.mc.state = false
  prep : s.fp.prep ≠ .ready → s.socRun = false ∧ slotWrites s = []
  held : s.socRun = false → s.tu.table = heldTable ∧ s.fp.op = none
  running : s.socRun = true → slotWrites s = []
  one : (slotWrites s).length ≤ 1
  reset : ∀ w, s.writes.current = some w → w.requester = .partReset →
    s.fp.prep = .afterWrite ∧ s.writes.waiting = none ∧ s.mc.state = .working .resetWrite
  waiting : ∀ w, s.writes.waiting = some w → w.requester ≠ .partReset

/-- The scan in hand and the boot scan's stage. -/
structure ScanOk (s : State) : Prop where
  prep : s.fp.prep ≠ .ready → s.de.scan = none ∧ scanAtRest s = true
  released : s.socRun = true → s.isc.stage = .released
  staged : scanAtRest s = false → s.socRun = true →
    s.isc.scan.owner = .stagedScan ∧ s.isc.staging.state = .verifying
  booting : scanAtRest s = false → s.socRun = false → s.isc.scan.owner = .bootScan
  item : ∀ i, s.de.scan = some i → scanItemFits s i = true
  slot : slotWrites s ≠ [] → s.de.scan = none ∧ scanAtRest s = true
  pass : passStage s.isc.stage = true → scanAtRest s = true

/-- R98 to R106, R150: the order of a reset and a boot. -/
structure BootOk (s : State) : Prop where
  frame : FrameOk s
  scan : ScanOk s

theorem bootOk_iff {s : State} : bootOk s = true ↔ BootOk s := by
  unfold bootOk
  simp only [Bool.and_eq_true, Bool.or_eq_true, Bool.not_eq_true', decide_eq_true_eq, List.isEmpty_iff,
    Option.isNone_iff_eq_none, Option.all_eq_true]
  constructor
  · rintro ⟨⟨⟨⟨⟨⟨⟨⟨⟨hlow, hprep⟩, hheld⟩, hrun⟩, hscan⟩, hitem⟩, hslot⟩, hpass⟩, hreset⟩, hwait⟩
    have hscan' : scanAtRest s = false → _ := fun hr => hscan.resolve_left (by simp [hr])
    have hprep' : s.fp.prep ≠ .ready → _ := hprep.resolve_left
    have hslot' : slotWrites s ≠ [] → _ := hslot.resolve_left
    refine ⟨⟨fun h => hlow.resolve_left (by simp [h]), fun h => ⟨(hprep' h).1.1.1, (hprep' h).2⟩,
      fun h => hheld.resolve_left (by simp [h]), fun h => (hrun.resolve_left (by simp [h])).2, ?_,
      fun w hw hr => ?_, hwait⟩, ⟨fun h => ⟨(hprep' h).1.1.2, (hprep' h).1.2⟩,
      fun h => (hrun.resolve_left (by simp [h])).1, fun hr h => ?_, fun hr h => ?_, hitem,
      fun h => (hslot' h).1, fun h => hpass.resolve_left (by simp [h])⟩⟩
    · by_cases h : slotWrites s = []
      · simp [h]
      · exact (hslot' h).2
    · obtain ⟨⟨h1, h2⟩, h3⟩ := (hreset w hw).resolve_left (not_not.2 hr)
      exact ⟨h1, h2, h3⟩
    · simpa [h] using hscan' hr
    · simpa [h] using hscan' hr
  · rintro ⟨⟨hlow, hprep, hheld, hrun, hone, hreset, hwait⟩, ⟨hprep', hrel, hstaged, hboot, hitem, hslot, hpass⟩⟩
    refine ⟨⟨⟨⟨⟨⟨⟨⟨⟨?_, ?_⟩, ?_⟩, ?_⟩, ?_⟩, hitem⟩, ?_⟩, ?_⟩, fun w hw => ?_⟩, hwait⟩
    · cases h : s.rstLow with
      | false => exact .inl rfl
      | true => exact .inr (hlow h)
    · by_cases h : s.fp.prep = .ready
      · exact .inl h
      · exact .inr ⟨⟨⟨(hprep h).1, (hprep' h).1⟩, (hprep' h).2⟩, (hprep h).2⟩
    · cases h : s.socRun with
      | false => exact .inr (hheld h)
      | true => exact .inl rfl
    · cases h : s.socRun with
      | false => exact .inl rfl
      | true => exact .inr ⟨hrel h, hrun h⟩
    · cases hr : scanAtRest s with
      | true => exact .inl rfl
      | false =>
        cases h : s.socRun with
        | false => simp [hboot hr h]
        | true => simp [hstaged hr h]
    · by_cases h : slotWrites s = []
      · exact .inl h
      · exact .inr ⟨hslot h, hone⟩
    · cases h : passStage s.isc.stage with
      | false => exact .inl rfl
      | true => exact .inr (hpass h)
    · by_cases hr : w.requester = .partReset
      · obtain ⟨h1, h2, h3⟩ := hreset w hw hr
        exact .inr ⟨⟨h1, h2⟩, h3⟩
      · exact .inl hr

/-! ### The frame -/

/-- What the frame rests on, the channel's state apart. -/
structure SameFrame (s t : State) : Prop where
  low : t.rstLow = s.rstLow
  prep : t.fp.prep = s.fp.prep
  run : t.socRun = s.socRun
  writes : t.writes = s.writes
  held : s.socRun = false → s.tu.table = heldTable ∧ s.fp.op = none → t.tu.table = heldTable ∧ t.fp.op = none

theorem OpKept.absent {s t : State} (h : OpKept s t) (hs : s.fp.op = none) : t.fp.op = none := by
  cases ht : t.fp.op with
  | none => rfl
  | some o =>
    obtain ⟨p, hp, -⟩ := h o ht
    simp [hs] at hp

theorem Quiet.frame {s t : State} (h : Quiet s t) : SameFrame s t :=
  ⟨h.rstLow, h.prep, h.socRun, h.writes, fun _ ⟨ht, ho⟩ => ⟨by rw [h.tu, ht], h.op.absent ho⟩⟩

/-- R187: the channel is not at the end of a reset's own write. -/
def noResetWrite (s : State) : Prop := ∀ w, s.writes.current = some w → w.requester ≠ .partReset

theorem FrameOk.same {s t : State} (h : FrameOk s) (hf : SameFrame s t)
    (hlow : s.rstLow = true → restartPending t.mc.state = false)
    (hreset : t.mc.state = s.mc.state ∨ noResetWrite s) : FrameOk t where
  low := by
    rw [hf.low, hf.prep]
    exact fun hl => ⟨(h.low hl).1, hlow hl⟩
  prep := by rw [hf.prep, hf.run, slotWrites_congr hf.writes]; exact h.prep
  held hr := hf.held (hf.run ▸ hr) (h.held (hf.run ▸ hr))
  running := by rw [hf.run, slotWrites_congr hf.writes]; exact h.running
  one := by rw [slotWrites_congr hf.writes]; exact h.one
  reset := by
    rw [hf.writes, hf.prep]
    intro w hw hr
    obtain hm | hn := hreset
    · rw [hm]
      exact h.reset w hw hr
    · exact absurd hr (hn w hw)
  waiting := by rw [hf.writes]; exact h.waiting

theorem FrameOk.kept {s t : State} (h : FrameOk s) (hf : SameFrame s t) (hm : t.mc.state = s.mc.state) : FrameOk t :=
  h.same hf (fun hl => by rw [hm]; exact (h.low hl).2) (.inl hm)

theorem FrameOk.noReset {s : State} (h : FrameOk s) (hm : s.mc.state ≠ .working .resetWrite) : noResetWrite s :=
  fun w hw hr => hm (h.reset w hw hr).2.2

theorem slotWrites_askChannel {s t : State} {w : StoreWrite} (hw : t.writes = (askWrite .channel w s).writes) :
    (slotWrites t).Sublist (slotWrites s) := by
  rw [slotWrites_congr hw]
  exact filter_askWrite_other _ rfl

/-- A write of the channel joins those in hand. -/
theorem FrameOk.askChannel {s t : State} {w : StoreWrite} (hlow : t.rstLow = s.rstLow) (hprep : t.fp.prep = s.fp.prep)
    (hrun : t.socRun = s.socRun) (htable : t.tu.table = s.tu.table) (hop : t.fp.op = s.fp.op)
    (hw : t.writes = (askWrite .channel w s).writes) (hr : restartPending t.mc.state = false)
    (hn : noResetWrite s) (h : FrameOk s) : FrameOk t := by
  have hsub := slotWrites_askChannel hw
  have hnil : slotWrites s = [] → slotWrites t = [] := fun he => List.sublist_nil.1 (by rw [← he]; exact hsub)
  refine ⟨?_, ?_, ?_, ?_, hsub.length_le.trans h.one, ?_, ?_⟩
  · rw [hlow, hprep]
    exact fun hl => ⟨(h.low hl).1, hr⟩
  · rw [hprep, hrun]
    exact fun hp => ⟨(h.prep hp).1, hnil (h.prep hp).2⟩
  · rw [hrun, htable, hop]
    exact h.held
  · rw [hrun]
    exact fun hr => hnil (h.running hr)
  · rw [hw]
    intro v hv hreq
    obtain ⟨-, he⟩ | ⟨c, hc, he⟩ := askWrite_writes .channel w s
    · rw [he] at hv
      cases hv
      cases hreq
    · rw [he] at hv
      cases hv
      exact absurd hreq (hn v hc)
  · rw [hw]
    intro v hv
    obtain ⟨-, he⟩ | ⟨c, hc, he⟩ := askWrite_writes .channel w s
    · rw [he] at hv
      exact h.waiting v hv
    · rw [he] at hv
      cases hv
      simp

/-- The boot scan's one write joins those in hand, on a prepared part whose SOC_RUN is low. -/
theorem FrameOk.askSlot {s t : State} {r : SlotRecord} (hf : SameFrame s { t with writes := s.writes })
    (hw : t.writes = (askWrite .slotController (.slotRecord r) s).writes) (hm : t.mc.state = s.mc.state)
    (hrun : s.socRun = false) (hprep : s.fp.prep = .ready) (hn : slotWrites s = []) (h : FrameOk s) : FrameOk t := by
  have hready : t.fp.prep = .ready := hf.prep.trans hprep
  have hlow : t.socRun = false := hf.run.trans hrun
  refine ⟨?_, fun hp => absurd hready hp, ?_, ?_, ?_, ?_, ?_⟩
  · rw [show t.rstLow = s.rstLow from hf.low, show t.fp.prep = s.fp.prep from hf.prep, hm]
    exact h.low
  · exact fun _ => hf.held hrun (h.held hrun)
  · simp [hlow]
  · rw [slotWrites_congr hw, slotWrites, filter_askWrite _ hn rfl]
    simp
  · rw [hw]
    intro v hv hreq
    obtain ⟨-, he⟩ | ⟨c, hc, he⟩ := askWrite_writes .slotController (.slotRecord r) s
    · rw [he] at hv
      cases hv
      cases hreq
    · rw [he] at hv
      cases hv
      have := (h.reset v hc hreq).1
      simp [hprep] at this
  · rw [hw]
    intro v hv
    obtain ⟨-, he⟩ | ⟨c, hc, he⟩ := askWrite_writes .slotController (.slotRecord r) s
    · rw [he] at hv
      exact h.waiting v hv
    · rw [he] at hv
      cases hv
      simp

/-- SOC_RUN rises on a prepared part with no slot record write in hand. -/
theorem FrameOk.release {s t : State} (hlow : t.rstLow = s.rstLow) (hprep : t.fp.prep = s.fp.prep)
    (hw : t.writes = s.writes) (hm : t.mc.state = s.mc.state) (hrun : t.socRun = true) (hready : s.fp.prep = .ready)
    (hn : slotWrites s = []) (h : FrameOk s) : FrameOk t := by
  refine ⟨?_, fun hp => absurd (hprep.trans hready) hp, by simp [hrun], fun _ => ?_, ?_, ?_, ?_⟩
  · rw [hlow, hprep, hm]
    exact h.low
  · rw [slotWrites_congr hw, hn]
  · rw [slotWrites_congr hw, hn]
    simp
  · rw [hw, hprep, hm]
    exact h.reset
  · rw [hw]
    exact h.waiting

/-- The write in progress has ended. -/
theorem FrameOk.written {s t : State} {w : PendingWrite} (hc : s.writes.current = some w) (hlow : t.rstLow = s.rstLow)
    (hprep : t.fp.prep = s.fp.prep) (hrun : t.socRun = s.socRun) (htable : t.tu.table = s.tu.table)
    (hop : t.fp.op = s.fp.op) (hm : t.mc.state = s.mc.state)
    (hw : t.writes = ⟨s.writes.waiting, none⟩ ∨ t.writes = ⟨none, s.writes.waiting⟩) (h : FrameOk s) : FrameOk t := by
  have hsub : (slotWrites t).Sublist (slotWrites s) := by
    unfold slotWrites
    refine List.Sublist.filter _ ?_
    rw [writesInHand_current hc]
    obtain hw | hw := hw <;> simp [writesInHand, hw]
  have hnil : slotWrites s = [] → slotWrites t = [] := fun he => List.sublist_nil.1 (by rw [← he]; exact hsub)
  refine ⟨?_, ?_, ?_, ?_, hsub.length_le.trans h.one, ?_, ?_⟩
  · rw [hlow, hprep, hm]
    exact h.low
  · rw [hprep, hrun]
    exact fun hp => ⟨(h.prep hp).1, hnil (h.prep hp).2⟩
  · rw [hrun, htable, hop]
    exact h.held
  · rw [hrun]
    exact fun hr => hnil (h.running hr)
  · intro v hv hreq
    obtain hw | hw := hw
    · rw [hw] at hv
      exact absurd hreq (h.waiting v hv)
    · rw [hw] at hv
      cases hv
  · intro v hv
    obtain hw | hw := hw
    · rw [hw] at hv
      cases hv
    · rw [hw] at hv
      exact h.waiting v hv

/-- A part right after its reset: nothing in hand but at most the reset's own write. -/
theorem FrameOk.afterReset {t : State} (hlow : t.rstLow = true → t.fp.prep = .heldByPin ∧ restartPending t.mc.state = false)
    (hrun : t.socRun = false) (htable : t.tu.table = heldTable) (hop : t.fp.op = none)
    (hw : t.writes = ⟨none, none⟩ ∨
      ∃ w, t.writes = ⟨some ⟨.partReset, w⟩, none⟩ ∧ t.fp.prep = .afterWrite ∧ t.mc.state = .working .resetWrite) :
    FrameOk t := by
  have hslot : slotWrites t = [] := by
    obtain hw | ⟨w, hw, -⟩ := hw <;> simp [slotWrites, writesInHand, hw]
  refine ⟨hlow, fun _ => ⟨hrun, hslot⟩, fun _ => ⟨htable, hop⟩, fun _ => hslot, by simp [hslot], ?_, ?_⟩
  · intro v hv _
    obtain hw | ⟨w, hw, hp, hm⟩ := hw
    · rw [hw] at hv
      cases hv
    · rw [hw]
      exact ⟨hp, rfl, hm⟩
  · intro v hv
    obtain hw | ⟨w, hw, -⟩ := hw <;> rw [hw] at hv <;> cases hv

/-! ### The scan in hand -/

/-- What the scan's invariant rests on. -/
structure SameScan (s t : State) : Prop where
  prep : t.fp.prep = s.fp.prep
  run : t.socRun = s.socRun
  slot : slotWrites s = [] → slotWrites t = []
  phase : t.isc.scan.phase = s.isc.scan.phase
  owner : t.isc.scan.owner = s.isc.scan.owner
  staging : t.isc.staging.state = s.isc.staging.state ∨ s.isc.staging.state ≠ .verifying
  stage : t.isc.stage = s.isc.stage
  item : t.de.scan = none ∨ ∀ i, t.de.scan = some i → ∃ j, s.de.scan = some j ∧ i.work = j.work

theorem SameScan.of_eq {s t : State} (prep : t.fp.prep = s.fp.prep) (run : t.socRun = s.socRun)
    (writes : t.writes = s.writes) (isc : t.isc = s.isc) (scan : t.de.scan = s.de.scan) : SameScan s t where
  prep := prep
  run := run
  slot := by rw [slotWrites_congr writes]; exact id
  phase := by rw [isc]
  owner := by rw [isc]
  staging := .inl (by rw [isc])
  stage := by rw [isc]
  item := .inr fun i hi => ⟨i, scan ▸ hi, rfl⟩

theorem scanAtRest_congr {s t : State} (h : t.isc.scan.phase = s.isc.scan.phase) : scanAtRest t = scanAtRest s := by
  unfold scanAtRest
  rw [h]

theorem scanItemFits_congr {s t : State} {i j : DigestItem} (hp : t.isc.scan.phase = s.isc.scan.phase)
    (hr : t.socRun = s.socRun) (hw : i.work = j.work) : scanItemFits t i = scanItemFits s j := by
  unfold scanItemFits
  rw [scanAtRest_congr hp, hp, hr, hw]

theorem ItemKept.work {s t : State} (h : ItemKept s t) :
    t.de.scan = none ∨ ∀ i, t.de.scan = some i → ∃ j, s.de.scan = some j ∧ i.work = j.work := by
  refine .inr fun i hi => ?_
  obtain h | ⟨j, a, b, hj, -, h⟩ := h
  · exact ⟨i, h ▸ hi, rfl⟩
  · rw [h] at hi
    cases hi
    exact ⟨j, hj, rfl⟩

theorem Quiet.scan {s t : State} (h : Quiet s t) : SameScan s t where
  prep := h.prep
  run := h.socRun
  slot := by rw [slotWrites_congr h.writes]; exact id
  phase := by rw [h.isc]
  owner := by rw [h.isc]
  staging := .inl (by rw [h.isc])
  stage := by rw [h.isc]
  item := h.item.work

theorem SameScan.absent {s t : State} (h : SameScan s t) (hs : s.de.scan = none) : t.de.scan = none := by
  obtain hi | hi := h.item
  · exact hi
  · cases ht : t.de.scan with
    | none => rfl
    | some i =>
      obtain ⟨j, hj, -⟩ := hi i ht
      cases hs.symm.trans hj

theorem SameScan.trans {s t u : State} (h₁ : SameScan s t) (h₂ : SameScan t u) : SameScan s u where
  prep := h₂.prep.trans h₁.prep
  run := h₂.run.trans h₁.run
  slot hn := h₂.slot (h₁.slot hn)
  phase := h₂.phase.trans h₁.phase
  owner := h₂.owner.trans h₁.owner
  staging := by
    obtain h₁ | h₁ := h₁.staging
    · rw [← h₁]
      exact h₂.staging
    · exact .inr h₁
  stage := h₂.stage.trans h₁.stage
  item := by
    obtain h₂ | h₂ := h₂.item
    · exact .inl h₂
    · obtain h₁ | h₁ := h₁.item
      · refine .inl ?_
        cases hu : u.de.scan with
        | none => rfl
        | some i =>
          obtain ⟨j, hj, -⟩ := h₂ i hu
          cases h₁.symm.trans hj
      · refine .inr fun i hi => ?_
        obtain ⟨j, hj, hw⟩ := h₂ i hi
        obtain ⟨k, hk, hw'⟩ := h₁ j hj
        exact ⟨k, hk, hw.trans hw'⟩

theorem SameScan.after {s t u : State} (h₂ : SameScan t u) (h₁ : SameScan s t) : SameScan s u := h₁.trans h₂

theorem SameScan.restaged {s : State} (hs : s.isc.staging.state ≠ .verifying) (state : StagingState) :
    SameScan s { s with isc.staging.state := state } :=
  ⟨rfl, rfl, id, rfl, rfl, .inr hs, rfl, .inr fun i hi => ⟨i, hi, rfl⟩⟩

theorem SameScan.askChannel (s : State) {job : Job} {w : StoreWrite} :
    SameScan s (waitFor job (askWrite .channel w s)) := by
  have hsub := slotWrites_askChannel (t := waitFor job (askWrite .channel w s)) (w := w) (s := s) rfl
  refine ⟨by simp, by simp, fun he => List.sublist_nil.1 (he ▸ hsub), by simp, by simp, .inl (by simp), by simp,
    .inr fun i hi => ⟨i, by simpa using hi, rfl⟩⟩

theorem ScanOk.same {s t : State} (h : ScanOk s) (hf : SameScan s t) : ScanOk t := by
  have hrest := scanAtRest_congr hf.phase
  have hnone : s.de.scan = none → t.de.scan = none := hf.absent
  refine ⟨?_, ?_, ?_, ?_, fun i hi => ?_, fun hn => ?_, ?_⟩
  · rw [hf.prep, hrest]
    exact fun hp => ⟨hnone (h.prep hp).1, (h.prep hp).2⟩
  · rw [hf.run, hf.stage]
    exact h.released
  · rw [hrest, hf.run, hf.owner]
    intro hr hrun
    obtain ⟨ho, hv⟩ := h.staged hr hrun
    exact ⟨ho, hf.staging.elim (fun he => he.trans hv) fun hn => absurd hv hn⟩
  · rw [hrest, hf.run, hf.owner]
    exact h.booting
  · obtain hn | hj := hf.item
    · simp [hn] at hi
    · obtain ⟨j, hj, hw⟩ := hj i hi
      rw [scanItemFits_congr hf.phase hf.run hw]
      exact h.item j hj
  · have hs : slotWrites s ≠ [] := fun he => hn (hf.slot he)
    rw [hrest]
    exact ⟨hnone (h.slot hs).1, (h.slot hs).2⟩
  · rw [hf.stage, hrest]
    exact h.pass

/-- No scan and no item in hand. -/
theorem ScanOk.rest {t : State} (hi : t.de.scan = none) (hr : scanAtRest t = true)
    (hrel : t.socRun = true → t.isc.stage = .released) : ScanOk t where
  prep _ := ⟨hi, hr⟩
  released := hrel
  staged h := by simp [hr] at h
  booting h := by simp [hr] at h
  item i h := by simp [hi] at h
  slot _ := ⟨hi, hr⟩
  pass _ := hr

/-- Between two scans the boot scan has a digest or a fold in hand. -/
theorem ScanOk.event {t : State} {i : DigestItem} (hi : t.de.scan = some i)
    (hw : i.work = .bootExtend ∨ i.work = .scanFailureEvent ∨ i.work = .trialRevertEvent) (hr : scanAtRest t = true)
    (hrun : t.socRun = false) (hprep : t.fp.prep = .ready) (hn : slotWrites t = []) : ScanOk t where
  prep h := absurd hprep h
  released h := by simp [hrun] at h
  staged h := by simp [hr] at h
  booting h := by simp [hr] at h
  item j h := by
    rw [hi] at h
    cases h
    unfold scanItemFits
    obtain hw | hw | hw := hw <;> simp [hw, hr, hrun]
  slot h := absurd hn h
  pass _ := hr

/-- A scan is in hand. -/
theorem ScanOk.scanning {t : State} (hprep : t.fp.prep = .ready) (hn : slotWrites t = [])
    (hpass : passStage t.isc.stage = false) (hrel : t.socRun = true → t.isc.stage = .released)
    (hstaged : t.socRun = true → t.isc.scan.owner = .stagedScan ∧ t.isc.staging.state = .verifying)
    (hboot : t.socRun = false → t.isc.scan.owner = .bootScan)
    (hitem : ∀ i, t.de.scan = some i → scanItemFits t i = true) : ScanOk t where
  prep h := absurd hprep h
  released := hrel
  staged _ := hstaged
  booting _ := hboot
  item := hitem
  slot h := absurd hn h
  pass h := by simp [hpass] at h

theorem BootOk.quiet {s t : State} (hq : Quiet s t) (h : BootOk s) : BootOk t :=
  ⟨h.frame.kept hq.frame hq.state, h.scan.same hq.scan⟩

end Sys2Proof.Machine
end

section
/-! PROOFS. The order of resets and boots: what each event leaves of it. -/

namespace Sys2Proof.Machine

/-! ### Between two scans of the boot scan -/

/-- R99 to R104: the boot scan is between two pieces of its work. -/
structure BootIdle (s : State) : Prop where
  run : s.socRun = false
  prep : s.fp.prep = .ready
  item : s.de.scan = none
  rest : scanAtRest s = true
  slot : slotWrites s = []

theorem extending_frame {lane : Nat} {record : LogRecord} {s u : State} (h : beginExtend lane record s = some u) :
    SameFrame s u := by
  obtain ⟨-, rfl⟩ := beginExtend_next h
  constructor <;> simp

theorem extending_scan {lane : Nat} {record : LogRecord} {s u : State} (h : beginExtend lane record s = some u) :
    SameScan s u := by
  obtain ⟨-, rfl⟩ := beginExtend_next h
  refine ⟨by simp, by simp, fun hn => (slotWrites_congr (by simp)).trans hn, by simp, by simp, .inl (by simp), by simp, .inr fun i hi => ?_⟩
  exact ⟨i, by simpa using hi, rfl⟩

theorem extending_state {lane : Nat} {record : LogRecord} {s u : State} (h : beginExtend lane record s = some u) :
    u.mc.state = s.mc.state := by
  obtain ⟨-, rfl⟩ := beginExtend_next h
  simp

theorem release_bootOk {s : State} (record : BootRecord) (table : List Region) (x : Slot) (hi : BootIdle s)
    (h : FrameOk s) : BootOk (release record (installTable table x s)) := by
  have hw : (release record (installTable table x s)).writes = s.writes := by simp
  have hscan : (release record (installTable table x s)).isc.scan = s.isc.scan := by simp
  have hstage : (release record (installTable table x s)).isc.stage = .released := by
    unfold release
    dsimp only
    split <;> rfl
  have hrun : (release record (installTable table x s)).socRun = true := by
    unfold release
    dsimp only
    split <;> rfl
  refine ⟨h.release (by simp) (by simp) hw ?_ hrun hi.prep hi.slot, .rest (by simp [hi.item]) ?_ fun _ => hstage⟩
  · unfold release
    dsimp only
    split <;> rfl
  · exact (scanAtRest_congr (by rw [hscan])).trans hi.rest

/-- R99 to R104: what the boot scan does next leaves the order of resets and boots. -/
theorem bootStep_bootOk {passed sound : Prop} {s t : State} (hi : BootIdle s) (h : FrameOk s)
    (hstep : BootStep passed sound s t) : BootOk t := by
  have hlow : s.socRun ≠ true := by simp [hi.run]
  cases hstep with
  | stood => exact ⟨h, .rest hi.item hi.rest fun hr => absurd hr hlow⟩
  | begun x bootX fallback trial =>
    exact ⟨h.kept ⟨rfl, rfl, rfl, rfl, fun _ => id⟩ rfl, .scanning hi.prep hi.slot rfl (fun hr => absurd hr hlow)
      (fun hr => absurd hr hlow) (fun _ => rfl) fun i hs => by
        cases hi.item.symm.trans hs⟩
  | revertEvent input =>
    exact ⟨h.kept ⟨rfl, rfl, rfl, rfl, fun _ => id⟩ rfl,
      .event rfl (.inr (.inr rfl)) hi.rest hi.run hi.prep hi.slot⟩
  | asked r stage bootX fallback trial hw hp =>
    refine ⟨h.askSlot (r := r) ⟨by simp, by simp, by simp, rfl, by simp⟩ ?_ (by simp) hi.run hi.prep hi.slot, .rest ?_ ?_ ?_⟩
    · exact askWrite_writes_congr rfl
    · simp [hi.item]
    · rw [← hi.rest]
      exact scanAtRest_congr (by simp)
    · simp [hi.run]
  | extending stage hl hstage hd hp hu =>
    have hf := extending_frame hu
    have hs := extending_scan hu
    have hm := extending_state hu
    refine ⟨h.kept ⟨hf.low, hf.prep, hf.run, hf.writes, hf.held⟩ hm,
      .event (i := bufferItem .bootExtend (foldInput _ _)) rfl (.inl rfl) ?_ (hf.run.trans hi.run) (hf.prep.trans hi.prep) ?_⟩
    · exact (scanAtRest_congr hs.phase).trans hi.rest
    · exact (slotWrites_congr hf.writes).trans hi.slot
  | recovered =>
    unfold enterRecovery
    exact release_bootOk _ _ _ hi h
  | released hp =>
    unfold finishPass
    exact release_bootOk _ _ _ hi h

theorem bootPassed_bootOk {s : State} (hi : BootIdle s) (h : FrameOk s) : BootOk (bootPassed s) :=
  bootStep_bootOk (sound := True) hi h (bootStep_bootPassed trivial s)

/-! ### A scan in hand -/

/-- R91: a scan in this phase is between its start and its end. -/
def scanBusy (p : ScanPhase) : Prop := p ≠ .idle ∧ p ≠ .ended

theorem scanAtRest_false {s : State} : scanAtRest s = false ↔ scanBusy s.isc.scan.phase := by
  simp [scanAtRest, scanBusy]

theorem placeEmpty.busy {p : ScanPhase} {s : State} (h : placeEmpty p s) : scanBusy p := by
  obtain ⟨h, -⟩ | h | h := h <;> simp [h, scanBusy]

/-- During a scan the part is prepared, no slot record write of the boot scan is in hand, and no pass. -/
theorem BootOk.busy {s : State} (h : BootOk s) (hb : scanBusy s.isc.scan.phase) :
    s.fp.prep = .ready ∧ slotWrites s = [] ∧ passStage s.isc.stage = false := by
  have hr := scanAtRest_false.2 hb
  refine ⟨?_, ?_, ?_⟩
  · by_contra hp
    simp [(h.scan.prep hp).2] at hr
  · by_contra hn
    simp [(h.scan.slot hn).2] at hr
  · by_contra hp
    simp [h.scan.pass (by simpa using hp)] at hr

/-- R93, R94: a scan that waits for no digest has the scan place empty. -/
theorem BootOk.place {s : State} {p : ScanPhase} (h : BootOk s) (hp : s.isc.scan.phase = p) (hn : placeEmpty p s) :
    s.de.scan = none := by
  obtain ⟨-, hn⟩ | hn := hn
  · exact hn
  · cases hi : s.de.scan with
    | none => rfl
    | some i =>
      have hf := h.scan.item i hi
      unfold scanItemFits at hf
      obtain hn | hn := hn <;> subst hn <;> split at hf <;> simp [hp, scanAtRest] at hf

/-- A scan goes on: the frame and its owner stand, and its phase is a busy one. -/
theorem BootOk.goesOn {s t : State} (h : BootOk s) (hb : scanBusy s.isc.scan.phase) (hf : SameFrame s t)
    (hm : t.mc.state = s.mc.state) (howner : t.isc.scan.owner = s.isc.scan.owner)
    (hstaging : t.isc.staging.state = s.isc.staging.state) (hstage : t.isc.stage = s.isc.stage)
    (hitem : ∀ i, t.de.scan = some i → scanItemFits t i = true) : BootOk t := by
  obtain ⟨hprep, hslot, hpass⟩ := h.busy hb
  have hr := scanAtRest_false.2 hb
  refine ⟨h.frame.kept hf hm, .scanning (hf.prep.trans hprep) ((slotWrites_congr hf.writes).trans hslot) ?_ ?_ ?_ ?_ hitem⟩
  · rw [hstage, hpass]
  · rw [hf.run, hstage]
    exact h.scan.released
  · rw [hf.run, howner, hstaging]
    exact h.scan.staged hr
  · rw [hf.run, howner]
    exact h.scan.booting hr

/-- R96, R112 to R114: a scan has ended for its owner, or is withdrawn; no scan work stands. -/
theorem BootOk.ended {s t : State} (h : BootOk s) (hf : SameFrame s t) (hm : t.mc.state = s.mc.state)
    (hi : t.de.scan = none) (hr : scanAtRest t = true) (hstage : t.isc.stage = s.isc.stage) : BootOk t :=
  ⟨h.frame.kept hf hm, .rest hi hr (by rw [hf.run, hstage]; exact h.scan.released)⟩

theorem BootOk.bootOwned {s : State} (h : BootOk s) (hb : scanBusy s.isc.scan.phase)
    (ho : s.isc.scan.owner = .bootScan) : s.socRun = false := by
  by_contra hr
  have := (h.scan.staged (scanAtRest_false.2 hb) (by simpa using hr)).1
  simp [ho] at this

theorem scanStep_bootOk {p : ScanPhase} {sound : Prop} {s t : State} (h : BootOk s) (hp : s.isc.scan.phase = p)
    (hstep : ScanStep p sound s t) : BootOk t := by
  have busy : ∀ {q}, p = q → scanBusy q → scanBusy s.isc.scan.phase := fun hq hb => by rw [hp, hq]; exact hb
  cases hstep with
  | stood => exact h
  | slotFilled bytes =>
    refine ⟨h.frame.kept ⟨rfl, rfl, rfl, rfl, fun _ => id⟩ rfl, h.scan.same ⟨rfl, rfl, id, rfl, rfl, .inl rfl, rfl, .inr ?_⟩⟩
    intro i hi
    obtain ⟨j, hj, rfl⟩ := Option.map_eq_some_iff.1 hi
    exact ⟨j, hj, rfl⟩
  | manifestTaken bytes key hq =>
    exact h.goesOn (busy hq ⟨by decide, by decide⟩) ⟨rfl, rfl, rfl, rfl, fun _ => id⟩ rfl rfl rfl rfl fun i hi => by
      cases hi; rfl
  | verifyPlaced digest op hq hn =>
    exact h.goesOn (busy hq ⟨by decide, by decide⟩) ⟨rfl, rfl, rfl, rfl, fun _ => id⟩ rfl rfl rfl rfl fun i hi => by
      cases hn.symm.trans hi
  | segmentBegun k total digests hd hq =>
    have hb : scanBusy s.isc.scan.phase := by
      obtain hq | ⟨hq, -⟩ := hq <;> exact busy hq ⟨by decide, by decide⟩
    refine h.goesOn hb ?_ (by simp [beginSegment]) rfl (by simp [beginSegment]) (by simp [beginSegment]) ?_
    · constructor <;> simp [beginSegment]
    · intro i hi
      simp only [beginSegment, requestSegmentChunk_frame, placeScanItem_de_scan, Option.some.injEq] at hi
      subst hi
      rfl
  | stagedFailed reason k manifest hn ho =>
    exact h.ended ⟨rfl, rfl, rfl, rfl, fun _ => id⟩ rfl (h.place hp hn) rfl rfl
  | bootFailed reason k manifest hn ho =>
    have hb := busy rfl hn.busy
    obtain ⟨hprep, hslot, -⟩ := h.busy hb
    exact ⟨h.frame.kept ⟨rfl, rfl, rfl, rfl, fun _ => id⟩ rfl,
      .event rfl (.inr (.inl rfl)) rfl (h.bootOwned hb ho) hprep hslot⟩
  | stagedPassed digest hd hn ho hq => exact h.ended ⟨rfl, rfl, rfl, rfl, fun _ => id⟩ rfl hn rfl rfl
  | bootPassed digest hd hn ho hq =>
    have hb := busy hq ⟨by decide, by decide⟩
    obtain ⟨hprep, hslot, -⟩ := h.busy hb
    exact bootPassed_bootOk ⟨h.bootOwned hb ho, hprep, hn, rfl, hslot⟩ (h.frame.kept ⟨rfl, rfl, rfl, rfl, fun _ => id⟩ rfl)

/-! ### The channel's steps -/

theorem ChannelOnly.boot {s t : State} (h : ChannelOnly s t) : SameFrame s t ∧ SameScan s t := by
  refine ⟨⟨?_, ?_, ?_, ?_, ?_⟩, .of_eq ?_ ?_ ?_ ?_ ?_⟩ <;> rw [h]
  exact fun _ => id

theorem restartPending_of_fits {s : State} {j : ChannelState} (h : JobFits s j) : restartPending j = false := by
  unfold restartPending
  split
  · exact h.elim
  · rfl

theorem FrameOk.channel {s t : State} (h : FrameOk s) (hf : SameFrame s t) (hn : noResetWrite s)
    (hj : restartPending t.mc.state = false) : FrameOk t := h.same hf (fun _ => hj) (.inr hn)

theorem restartPending_idle {s : State} (h : s.mc.state = .idle) : restartPending s.mc.state = false := by
  rw [h]
  rfl

theorem narrowTable_held (i : Nat) (mask : Rights) : narrowTable heldTable i mask = heldTable := by
  refine List.ext_getElem (by simp [narrowTable]) fun k _ _ => ?_
  simp only [narrowTable, heldTable, List.getElem_modify, List.getElem_replicate, ite_eq_right_iff]
  exact fun _ => rfl

/-- A change under the channel's own, which leaves the frame and a scan in hand. -/
theorem BootOk.around {s u t : State} (h : BootOk s) (hn : noResetWrite s) (ho : ChannelOnly u t)
    (hj : t.mc.state = .idle) (hf : SameFrame s u) (hs : ScanOk u) : BootOk t := by
  have hu : FrameOk { u with mc.state := .idle } :=
    h.frame.channel ⟨hf.low, hf.prep, hf.run, hf.writes, hf.held⟩ hn rfl
  have hnu : noResetWrite { u with mc.state := .idle } := by
    unfold noResetWrite
    rw [show ({ u with mc.state := .idle } : State).writes = s.writes from hf.writes]
    exact hn
  have hb := ho.boot
  exact ⟨hu.channel ⟨hb.1.low, hb.1.prep, hb.1.run, hb.1.writes, hb.1.held⟩ hnu (restartPending_idle hj), hs.same hb.2⟩

/-- A part whose SOC_RUN is high and that verifies nothing has no scan in hand. -/
theorem BootOk.runningRest {s : State} (h : BootOk s) (hr : s.socRun = true) (hs : s.isc.staging.state ≠ .verifying) :
    scanAtRest s = true ∧ s.de.scan = none := by
  have hrest : scanAtRest s = true := by
    by_contra hb
    exact hs (h.scan.staged (by simpa using hb) hr).2
  refine ⟨hrest, ?_⟩
  cases hi : s.de.scan with
  | none => rfl
  | some i =>
    have hf := h.scan.item i hi
    have hb : ¬ scanBusy s.isc.scan.phase := by simp [← scanAtRest_false, hrest]
    unfold scanItemFits at hf
    split at hf <;> simp [hr] at hf <;> simp [hf, scanBusy] at hb

theorem BootOk.runningReady {s : State} (h : BootOk s) (hr : s.socRun = true) : s.fp.prep = .ready := by
  by_contra hp
  simp [(h.frame.prep hp).1] at hr

/-- A change of the staging state, no scan of staging being in hand. -/
theorem BootOk.restaged {s t : State} (h : BootOk s) (hn : noResetWrite s) (state : StagingState)
    (hs : s.isc.staging.state ≠ .verifying) (ho : ChannelOnly { s with isc.staging.state := state } t)
    (hj : t.mc.state = .idle) : BootOk t :=
  h.around hn ho hj ⟨rfl, rfl, rfl, rfl, fun _ => id⟩
    (h.scan.same (.restaged hs state))

theorem BootOk.askChannel {s : State} (h : BootOk s) (hn : noResetWrite s) {job : Job} {w : StoreWrite}
    (hj : restartPending (.working job) = false) : BootOk (waitFor job (askWrite .channel w s)) := by
  have hw : (waitFor job (askWrite .channel w s)).writes = (askWrite .channel w s).writes := rfl
  exact ⟨h.frame.askChannel (by simp) (by simp) (by simp) (by simp) (by simp) hw hj hn, h.scan.same (.askChannel s)⟩

theorem channelStep_bootOk {s t : State} (h : BootOk s) (hn : noResetWrite s)
    (ht : s.mc.state = .working .taken → s.rstLow = false) (hstep : ChannelStep s t) : BootOk t := by
  cases hstep with
  | own ho hj =>
    have hb := ho.boot
    refine ⟨h.frame.same hb.1 (fun hl => ?_) (.inr hn), h.scan.same hb.2⟩
    obtain hj | hj := hj
    · rw [hj]
      exact (h.frame.low hl).2
    · exact restartPending_of_fits hj
  | cleared ho hj =>
    exact h.around hn ho hj ⟨rfl, rfl, rfl, rfl, fun _ => id⟩ (h.scan.same (.of_eq rfl rfl rfl rfl rfl))
  | narrowed i mask ho hj =>
    refine h.around hn ho hj ⟨rfl, rfl, rfl, rfl, fun _ hd => ⟨?_, hd.2⟩⟩ (h.scan.same (.of_eq rfl rfl rfl rfl rfl))
    rw [hd.1]
    exact narrowTable_held i mask
  | opened hr hs ho hj => exact h.restaged hn .opened (by simp [hs]) ho hj
  | closed hs ho hj => exact h.restaged hn .closed hs ho hj
  | abandoned hs ho hj =>
    exact h.around hn ho hj ⟨rfl, rfl, rfl, rfl, fun _ => id⟩ (.rest rfl rfl h.scan.released)
  | verifying hb hr hs ho hj =>
    have hv : s.isc.staging.state ≠ .verifying := by simp [hs]
    refine h.around hn ho hj ⟨rfl, rfl, rfl, rfl, fun _ => id⟩ (.scanning (h.runningReady hr) (h.frame.running hr) ?_
      h.scan.released (fun _ => ⟨rfl, rfl⟩) (fun hl => ?_) fun i hi => ?_)
    · exact congrArg passStage (h.scan.released hr)
    · cases hr.symm.trans hl
    · cases (h.runningRest hr hv).2.symm.trans hi
  | restart floor hj hv =>
    refine ⟨h.frame.same ⟨rfl, rfl, rfl, rfl, fun _ => id⟩ (fun hl => ?_) (.inr hn), h.scan.same (.of_eq rfl rfl rfl rfl rfl)⟩
    cases (ht hj).symm.trans hl
  | write ho hj hw =>
    have hb := ho.boot
    refine (⟨h.frame.kept hb.1 hj, h.scan.same hb.2⟩ : BootOk _).askChannel ?_ (by cases hw <;> rfl)
    unfold noResetWrite
    rw [hb.1.writes]
    exact hn
  | commit r attempts hb hs hactive ha =>
    refine BootOk.askChannel ?_ (by exact hn) (by rfl)
    exact ⟨h.frame.kept ⟨rfl, rfl, rfl, rfl, fun _ => id⟩ rfl, h.scan.same (.restaged (by simp [hs]) _)⟩
  | extend hk hk' hd hu =>
    have hf := extending_frame hu
    exact ⟨h.frame.channel ⟨hf.low, hf.prep, hf.run, hf.writes, hf.held⟩ hn rfl,
      (h.scan.same (extending_scan hu)).same (.of_eq rfl rfl rfl rfl rfl)⟩

end Sys2Proof.Machine
end

section
/-! PROOFS. The order of resets and boots is kept by every step. -/

namespace Sys2Proof.Machine

theorem noResetWrite.of_writes {s t : State} (h : noResetWrite s) (hw : t.writes = s.writes) : noResetWrite t := by
  unfold noResetWrite
  rw [hw]
  exact h

theorem channelSteps_bootOk {s t : State} (h : BootOk s) (hn : noResetWrite s)
    (ht : s.mc.state = .working .taken → s.rstLow = false) (hsteps : ChannelSteps s t) : BootOk t := by
  obtain ⟨u, v, hu, hstep, hv⟩ := hsteps
  refine (channelStep_bootOk (h.quiet hu) (hn.of_writes hu.writes) (fun hj => ?_) hstep).quiet hv
  exact hu.rstLow.trans (ht (hu.state.symm.trans hj))

/-! ### The decision under the held table -/

theorem lookup_held (a : LogicalAddress) : lookup heldTable a = none := by
  have hnone : ∀ (n i start : Nat), lookupFrom i start a.toNat (List.replicate n .held) = none := by
    intro n
    induction n with
    | zero => exact fun _ _ => rfl
    | succ n ih =>
      intro i start
      simp [List.replicate_succ, lookupFrom, show Region.held.stop = 0 from rfl, ih]
  exact hnone 16 0 0

/-- R3, R16: under the held table every program and erase is refused. -/
theorem decideCommand_held {tu : TranslationUnit} (h : tu.table = heldTable) (m : Option SlotMap)
    (staging : StagingState) (c : TakenCommand) (targets : List Nat) (inStaging : Bool) :
    decideCommand tu m staging c ≠ .allowed targets inStaging := by
  have hunit : ∀ a, checkUnit tu m staging c.kind a = .error .unmapped := fun a => by
    simp [checkUnit, translate, h, lookup_held]
  unfold decideCommand
  cases hk : c.kind with
  | chipErase => simp
  | program => simp [unitsOf, hk, decideUnits, hk ▸ hunit]
  | sectorErase => simp [unitsOf, hk, decideUnits, hk ▸ hunit]
  | blockErase => simp [unitsOf, hk, decideUnits, hk ▸ hunit, List.range_succ]

/-! ### Between two scans -/

theorem BootOk.itemDone {s : State} (h : BootOk s) : BootOk (scanItemDone s) :=
  ⟨h.frame.kept ⟨rfl, rfl, rfl, rfl, fun _ => id⟩ rfl,
    h.scan.same ⟨rfl, rfl, id, rfl, rfl, .inl rfl, rfl, .inl rfl⟩⟩

/-- A digest in the scan place is in hand on a prepared part with no slot record write of the boot scan. -/
theorem BootOk.itemReady {s : State} {i : DigestItem} (h : BootOk s) (hi : s.de.scan = some i) :
    s.fp.prep = .ready ∧ slotWrites s = [] := by
  constructor
  · by_contra hp
    cases hi.symm.trans (h.scan.prep hp).1
  · by_contra hn
    cases hi.symm.trans (h.scan.slot hn).1

/-- R104, R133: an event digest or a fold in the scan place is in hand between two scans of the boot scan. -/
theorem BootOk.eventIdle {s : State} {i : DigestItem} (h : BootOk s) (hi : s.de.scan = some i)
    (hw : i.work = .bootExtend ∨ i.work = .scanFailureEvent ∨ i.work = .trialRevertEvent) : BootIdle (scanItemDone s) := by
  obtain ⟨hprep, hslot⟩ := h.itemReady hi
  have hf : scanAtRest s = true ∧ s.socRun = false := by
    have hf := h.scan.item i hi
    unfold scanItemFits at hf
    obtain hw | hw | hw := hw <;> simpa [hw] using hf
  exact ⟨hf.2, hprep, rfl, hf.1, hslot⟩

theorem BootOk.extendCompleted {s : State} (lane : Nat) (digest : Bytes) (hi : BootIdle s) (h : FrameOk s) :
    BootIdle (completeExtend lane digest s) ∧ FrameOk (completeExtend lane digest s) :=
  ⟨⟨hi.run, hi.prep, hi.item, hi.rest, hi.slot⟩, h.kept ⟨rfl, rfl, rfl, rfl, fun _ => id⟩ rfl⟩

/-- R85, R99 to R102: the write that the boot scan waited for has ended. -/
theorem BootOk.slotWriteDone {s : State} {w : PendingWrite} (h : BootOk s) (hw : s.writes.current = some w)
    (hr : w.requester = .slotController) : BootIdle (writeDone w s) := by
  have hmem : w ∈ slotWrites s := by simp [slotWrites, writesInHand, hw, hr]
  have hne : slotWrites s ≠ [] := List.ne_nil_of_mem hmem
  have hrun : s.socRun = false := by
    by_contra hr
    exact hne (h.frame.running (by simpa using hr))
  have hprep : s.fp.prep = .ready := by
    by_contra hp
    exact hne (h.frame.prep hp).2
  refine ⟨hrun, hprep, (h.scan.slot hne).1, (h.scan.slot hne).2, ?_⟩
  have hone := h.frame.one
  simp only [slotWrites, writesInHand_current hw, List.filter_cons, hr, decide_true, if_true, List.length_cons] at hone
  have : (s.writes.waiting.toList.filter fun w => decide (w.requester = .slotController)) = [] :=
    List.length_eq_zero_iff.1 (by omega)
  simpa [slotWrites, writesInHand, writeDone, beginWaitingWrite] using this

theorem frame_writeDone {s : State} {w : PendingWrite} (h : FrameOk s) (hw : s.writes.current = some w) :
    FrameOk (writeDone w s) := h.written hw rfl rfl rfl rfl rfl rfl (.inl rfl)

theorem BootOk.writeDone {s : State} {w : PendingWrite} (h : BootOk s) (hw : s.writes.current = some w) :
    BootOk (writeDone w s) := by
  refine ⟨frame_writeDone h.frame hw, h.scan.same ⟨rfl, rfl, fun hn => ?_, rfl, rfl, .inl rfl, rfl, .inr fun i hi => ⟨i, hi, rfl⟩⟩⟩
  refine List.filter_eq_nil_iff.2 fun v hv => ?_
  exact List.filter_eq_nil_iff.1 hn v (by simp [writesInHand, mem_writeDone hv])

/-! ### Resets -/

/-- The part is being prepared: its frame, whatever writes of the channel are in hand. -/
theorem FrameOk.preparing {t : State} (hlow : t.rstLow = false) (hrun : t.socRun = false)
    (htable : t.tu.table = heldTable) (hop : t.fp.op = none) (hslot : slotWrites t = []) (hn : noResetWrite t)
    (hwait : ∀ w, t.writes.waiting = some w → w.requester ≠ .partReset) : FrameOk t where
  low h := by simp [hlow] at h
  prep _ := ⟨hrun, hslot⟩
  held _ := ⟨htable, hop⟩
  running _ := hslot
  one := by simp [hslot]
  reset w hw hr := absurd hr (hn w hw)
  waiting := hwait

/-- R65, R150: the work of a reset begins on a part with its reset values and no write in hand. -/
theorem beginResetWork_bootOk {s : State} (hlow : s.rstLow = false) (hrun : s.socRun = false)
    (htable : s.tu.table = heldTable) (hop : s.fp.op = none) (hslot : slotWrites s = []) (hn : noResetWrite s)
    (hwait : ∀ w, s.writes.waiting = some w → w.requester ≠ .partReset) (hi : s.de.scan = none)
    (hr : scanAtRest s = true) : BootOk (beginResetWork s) := by
  refine ⟨?_, .rest (by simp [hi]) ((scanAtRest_congr (by simp)).trans hr) (by simp [hrun])⟩
  unfold beginResetWork
  split
  · exact .afterReset (by simp [hlow]) (by simp [hrun]) (by simp [htable]) (by simp [hop]) (.inr ⟨_, by simp; rfl, by simp, by simp⟩)
  · exact .preparing (by simp [hlow]) (by simp [hrun]) (by simp [htable]) (by simp [hop])
      ((slotWrites_congr (by simp)).trans hslot) (hn.of_writes (by simp)) (by simpa using hwait)

theorem partReset_noResetWrite (s : State) : noResetWrite (partReset s) := by
  intro w hw
  simp at hw

theorem restartWork_bootOk {s : State} (floor : Option Word32) (hl : s.rstLow = false) :
    BootOk (restartWork floor (partReset s)) := by
  have hrest : scanAtRest (restartWork floor (partReset s)) = true :=
    (scanAtRest_congr (s := partReset s) (by simp)).trans rfl
  refine ⟨?_, .rest (by simp; rfl) hrest (by simp)⟩
  unfold restartWork
  split
  · exact .afterReset (by simp [hl]) (by simp) (by simp; rfl) (by simp; rfl) (.inr ⟨_, by simp; rfl, by simp, by simp⟩)
  · exact .preparing (by simp [hl]) (by simp) (by simp; rfl) (by simp; rfl) rfl
      ((partReset_noResetWrite s).of_writes (by simp)) (by simp)

/-! ### Every event -/

theorem BootOk.posted {s : State} (h : BootOk s) (kept : Bytes) (hl : s.rstLow = false) (hidle : s.mc.state = .idle) :
    BootOk (acceptPost kept s) := by
  refine ⟨h.frame.same ⟨rfl, rfl, rfl, rfl, fun _ => id⟩ (fun hlow => ?_) (.inr (h.frame.noReset (by simp [hidle]))),
    h.scan.same (.of_eq rfl rfl rfl rfl rfl)⟩
  cases hl.symm.trans hlow

theorem allowed_bootOk {s : State} (h : BootOk s) (c : TakenCommand) (targets : List Nat) (inStaging : Bool)
    (hd : decideCommand s.tu s.store.slotMap s.isc.staging.state c = .allowed targets inStaging) :
    BootOk (allowCommand c targets inStaging s) := by
  have hrun : s.socRun = true := by
    by_contra hr
    exact decideCommand_held (h.frame.held (by simpa using hr)).1 _ _ _ _ _ hd
  have hstale : BootOk (makeStale s) := by
    unfold makeStale
    split
    · exact h.ended ⟨rfl, rfl, rfl, rfl, fun _ => id⟩ rfl rfl rfl rfl
    · exact h
  have hplaced : ∀ {u : State}, BootOk u → u.socRun = true →
      BootOk { u with bp.writeRecord := .inFlight, bp.wel := false, fp.op := some (operationOf c targets) } :=
    fun hu hur => ⟨hu.frame.kept ⟨rfl, rfl, rfl, rfl, fun hlow => by simp [hur] at hlow⟩ rfl,
      hu.scan.same (.of_eq rfl rfl rfl rfl rfl)⟩
  unfold allowCommand
  dsimp only
  split
  · exact hplaced hstale (by simp [hrun])
  · exact hplaced h hrun

theorem enterRefusal_table (tu : TranslationUnit) (address : LogicalAddress) (kind : CommandKind)
    (reason : RefusalReason) : (enterRefusal tu address kind reason).table = tu.table := by
  unfold enterRefusal
  (repeat' split) <;> rfl

theorem BootOk.itemKept {s t : State} (h : BootOk s) (hf : SameFrame s t) (hm : t.mc.state = s.mc.state)
    (hs : SameScan s t) : BootOk t := ⟨h.frame.kept hf hm, h.scan.same hs⟩

theorem noResetWrite_of_serving {s : State} (h : BootOk s) (hj : serving s.mc.state = true) : noResetWrite s :=
  h.frame.noReset fun he => by simp [he, serving] at hj

theorem serving_not_taken {s : State} (hj : serving s.mc.state = true) : s.mc.state ≠ .working .taken :=
  fun he => by simp [he, serving] at hj

/-- R3, R150: a part after a POWER_ON or PIN reset. -/
theorem hardReset_bootOk (s : State) (low work : Bool) (h : low = true → work = false) :
    BootOk (if work then beginResetWork { hardReset s with rstLow := low } else { hardReset s with rstLow := low }) := by
  unfold hardReset
  split
  · next hw =>
    have hlow : low = false := by
      by_contra hl
      simp [h (by simpa using hl)] at hw
    exact beginResetWork_bootOk hlow (by simp) rfl rfl rfl (fun w hw => by cases hw) (fun w hw => by cases hw) rfl rfl
  · exact ⟨.afterReset (fun _ => ⟨rfl, rfl⟩) rfl rfl rfl (.inl rfl), .rest rfl rfl (by simp)⟩

theorem released_bootOk {s : State} (h : BootOk s) (hl : s.rstLow = true) :
    BootOk (beginResetWork { s with rstLow := false }) := by
  have hprep : s.fp.prep ≠ .ready := by simp [(h.frame.low hl).1]
  have hn : noResetWrite s := fun w hw hr => by
    have := (h.frame.reset w hw hr).1
    simp [(h.frame.low hl).1] at this
  obtain ⟨hrun, hslot⟩ := h.frame.prep hprep
  obtain ⟨htable, hop⟩ := h.frame.held hrun
  exact beginResetWork_bootOk rfl hrun htable hop hslot hn h.frame.waiting (h.scan.prep hprep).1 (h.scan.prep hprep).2

/-- R65, R98: the preparation moves on. -/
theorem preparing_bootOk {s t : State} (h : BootOk s) (hp : s.fp.prep ≠ .ready) (hl : s.rstLow = false)
    (hlow : t.rstLow = s.rstLow) (hrun : t.socRun = s.socRun) (htable : t.tu.table = s.tu.table)
    (hop : t.fp.op = s.fp.op) (hn : noResetWrite t)
    (hw : ∀ w, w ∈ writesInHand t → w ∈ writesInHand s) (hwait : ∀ w, t.writes.waiting = some w → w.requester ≠ .partReset)
    (hde : t.de = s.de) (hisc : t.isc = s.isc) : BootOk t := by
  obtain ⟨hr, hslot⟩ := h.frame.prep hp
  obtain ⟨ht, ho⟩ := h.frame.held hr
  refine ⟨.preparing (hlow.trans hl) (hrun.trans hr) (htable.trans ht) (hop.trans ho) ?_ hn hwait,
    .rest (by rw [hde]; exact (h.scan.prep hp).1)
      ((scanAtRest_congr (by rw [hisc])).trans (h.scan.prep hp).2) (by simp [hrun, hr])⟩
  exact List.filter_eq_nil_iff.2 fun v hv => List.filter_eq_nil_iff.1 hslot v (hw v hv)

/-- R98: the identification has been handed over, and the boot path begins. -/
theorem captured_bootOk {s : State} (h : BootOk s) (hp : s.fp.prep = .identifying) (manufacturer type : Byte) :
    BootOk (beginBoot { s with bp.idManufacturer := manufacturer, bp.idType := type, fp.prep := .ready }) := by
  have hready : s.fp.prep ≠ .ready := by simp [hp]
  have hlow : s.rstLow = false := by
    by_contra hl
    simp [(h.frame.low (by simpa using hl)).1] at hp
  have hn : noResetWrite s := fun w hw hr => by simp [(h.frame.reset w hw hr).1] at hp
  obtain ⟨hrun, hslot⟩ := h.frame.prep hready
  obtain ⟨htable, hop⟩ := h.frame.held hrun
  obtain ⟨hitem, hrest⟩ := h.scan.prep hready
  have hidle : BootIdle { s with bp.idManufacturer := manufacturer, bp.idType := type, fp.prep := .ready } :=
    ⟨hrun, rfl, hitem, hrest, hslot⟩
  have hframe : FrameOk { s with bp.idManufacturer := manufacturer, bp.idType := type, fp.prep := .ready } :=
    .preparing hlow hrun htable hop hslot hn h.frame.waiting
  unfold beginBoot
  split
  · exact release_bootOk _ _ _ hidle hframe
  · exact bootStep_bootOk (passed := True) (sound := True) hidle hframe (bootStep_bootFirstStep _)

theorem channelWriteEnded_taken {s : State} (h : s.mc.state = .working .taken) : channelWriteEnded s = s := by
  unfold channelWriteEnded
  rw [h]

theorem move_bootOk {s t : State} (h : BootOk s) (hm : Move s t) : BootOk t := by
  cases hm with
  | stood => exact h
  | posted kept hl hidle hs =>
    exact channelSteps_bootOk (h.posted kept hl hidle)
      ((h.frame.noReset (by simp [hidle])).of_writes rfl) (fun _ => hl) hs
  | allowed c targets inStaging hd => exact allowed_bootOk h c targets inStaging hd
  | refused c address reason =>
    exact h.itemKept ⟨rfl, rfl, rfl, rfl, fun _ ⟨ht, ho⟩ => ⟨(enterRefusal_table ..).trans ht, ho⟩⟩ rfl
      (.of_eq rfl rfl rfl rfl rfl)
  | scan hp hs => exact scanStep_bootOk h hp hs
  | scanAbsorbed absorbing hi hl =>
    refine h.itemKept ⟨rfl, rfl, rfl, rfl, fun _ => id⟩ rfl ⟨rfl, rfl, id, rfl, rfl, .inl rfl, rfl, .inr fun j hj => ?_⟩
    cases hj
    exact ⟨_, hi, rfl⟩
  | scanDigested hi hw hs =>
    have hf := h.scan.item _ hi
    unfold scanItemFits at hf
    refine scanStep_bootOk h.itemDone (show s.isc.scan.phase = _ from ?_) hs
    obtain ⟨hw, rfl⟩ | ⟨hw, rfl⟩ := hw <;> simpa [hw] using hf
  | failureDigested hi hw =>
    exact bootStep_bootOk (passed := True) (h.eventIdle hi (.inr (.inl hw))) h.itemDone.frame
      (bootStep_failureDigested (sound := False) False.elim _)
  | revertDigested hi hw =>
    exact bootStep_bootOk (passed := True) (h.eventIdle hi (.inr (.inr hw))) h.itemDone.frame
      (bootStep_revertDigested (sound := False) False.elim _)
  | bootFolded hi hw hl =>
    obtain he | ⟨lane, -, hs⟩ := bootFolded_cases False (shaOutput _) (scanItemDone s)
    · rw [he]
      exact h.itemDone
    · obtain ⟨hidle, hframe⟩ := BootOk.extendCompleted lane (shaOutput _) (h.eventIdle hi (.inl hw)) h.itemDone.frame
      exact bootStep_bootOk hidle hframe hs
  | itemDropped hi hw => exact h.itemDone
  | channelAbsorbed hi hl => exact h.itemKept ⟨rfl, rfl, rfl, rfl, fun _ => id⟩ rfl (.of_eq rfl rfl rfl rfl rfl)
  | channelDigested hj hs =>
    have hdone : BootOk (channelItemDone s) :=
      h.itemKept ⟨rfl, rfl, rfl, rfl, fun _ => id⟩ rfl (.of_eq rfl rfl rfl rfl rfl)
    exact channelSteps_bootOk hdone
      ((noResetWrite_of_serving h hj).of_writes rfl) (fun ht => absurd ht (serving_not_taken hj)) hs
  | channelItemDropped hf => exact h.itemKept ⟨rfl, rfl, rfl, rfl, fun _ => id⟩ rfl (.of_eq rfl rfl rfl rfl rfl)
  | laneFolded hk hi hl =>
    exact ⟨h.frame.channel ⟨rfl, rfl, rfl, rfl, fun _ => id⟩ (h.frame.noReset (by simp [hk])) rfl,
      h.scan.same (.of_eq rfl rfl rfl rfl rfl)⟩
  | channelSigned hj hs =>
    exact channelSteps_bootOk h (noResetWrite_of_serving h hj) (fun ht => absurd ht (serving_not_taken hj)) hs
  | writtenDue hw hdue =>
    refine ⟨h.frame.written hw rfl rfl rfl rfl rfl rfl (.inr rfl), h.scan.same ⟨rfl, rfl, fun hn => ?_, rfl, rfl, .inl rfl, rfl, .inr fun i hi => ⟨i, hi, rfl⟩⟩⟩
    refine List.filter_eq_nil_iff.2 fun v hv => List.filter_eq_nil_iff.1 hn v ?_
    simp [writesInHand] at hv ⊢
    exact .inr hv
  | @channelWritten w hw hr =>
    have hdone := h.writeDone hw
    by_cases ht : s.mc.state = .working .taken
    · exact (channelWriteEnded_taken (s := writeDone w s) ht).symm ▸ hdone
    · refine channelSteps_bootOk hdone (fun v hv => ?_) (fun he => absurd he ht) (steps_channelWriteEnded _)
      exact h.frame.waiting v hv
  | slotWritten hw hr =>
    exact bootStep_bootOk (h.slotWriteDone hw hr) (frame_writeDone h.frame hw) (bootStep_bootWriteEnded True _)
  | resetWritten hw hr =>
    obtain ⟨hprep, hwait, hstate⟩ := h.frame.reset _ hw hr
    have hl : s.rstLow = false := by
      by_contra hl
      simp [(h.frame.low (by simpa using hl)).1] at hprep
    refine preparing_bootOk h (by simp [hprep]) hl rfl rfl rfl rfl ?_ ?_ ?_ rfl rfl
    · intro v hv
      exact h.frame.waiting v hv
    · intro v hv
      simp [writesInHand, mem_writeDone hv]
    · intro v hv
      cases hv
  | recoveryEnded hp =>
    have hl : s.rstLow = false := by
      by_contra hl
      simp [(h.frame.low (by simpa using hl)).1] at hp
    refine preparing_bootOk h (by simp [hp]) hl rfl rfl rfl rfl ?_ (fun _ => id) h.frame.waiting rfl rfl
    intro w hw hr
    simp [(h.frame.reset w hw hr).1] at hp
  | captured a b hp => exact captured_bootOk h hp _ _
  | hardReset low work hlow => exact hardReset_bootOk s low work hlow
  | released hl => exact released_bootOk h hl
  | restarted floor hj hdue =>
    refine restartWork_bootOk floor ?_
    by_contra hl
    have := (h.frame.low (by simpa using hl)).2
    simp [hj, restartPending] at this

theorem step_bootOk {s t : State} (h : BootOk s) (hstep : step s = .next t) : BootOk t := by
  obtain ⟨u, v, hu, hm, hv⟩ := step_moves hstep
  exact (move_bootOk (h.quiet hu) hm).quiet hv

end Sys2Proof.Machine
end

section
/-! PROOFS. What a BLANK part has not begun (R5, R146, R152, R156): kept by every step. -/

namespace Sys2Proof.Machine

/-- R5, R146, R153, R156: which writes lead out of BLANK, and what the channel of a BLANK part does not do. -/
structure BlankBooks (s : State) : Prop where
  owner : s.store.lifecycle = .blank → onOwnerToken s.mc.state = false
  owned : s.store.lifecycle = .blank → ∀ w ∈ writesInHand s, w.contents.ofOwnership = false
  provisioning : ∀ w ∈ writesInHand s, w.contents.ofProvisioning = true → w.requester = .partReset
  slotMap : s.store.lifecycle ≠ .blank → ∀ w ∈ writesInHand s, w.contents.ofSlotMap = false

/-- R98, R152: a BLANK part scans nothing. -/
def BlankRest (s : State) : Prop :=
  s.store.lifecycle = .blank →
    scanAtRest s = true ∧ s.de.scan = none ∧ (s.isc.stage = .idle ∨ s.isc.stage = .released)

theorem blankOk_iff {s : State} : blankOk s = true ↔ BlankBooks s ∧ BlankRest s := by
  unfold blankOk blank BlankRest
  simp only [Bool.and_eq_true, Bool.or_eq_true, Bool.not_eq_true', decide_eq_true_eq, decide_eq_false_iff_not,
    List.all_eq_true, Option.isNone_iff_eq_none]
  constructor
  · rintro ⟨⟨hb, hp⟩, hm⟩
    have hb' : s.store.lifecycle = .blank → _ := fun he => hb.resolve_left (not_not.2 he)
    refine ⟨⟨fun he => (hb' he).1.2, fun he => (hb' he).2, fun w hw hpr => ?_, hm.resolve_left⟩, fun he => ?_⟩
    · exact (hp w hw).resolve_left (by simp [hpr])
    · obtain ⟨⟨⟨⟨hr, hn⟩, hs⟩, -⟩, -⟩ := hb' he
      exact ⟨hr, hn, hs⟩
  · rintro ⟨⟨howner, howned, hp, hm⟩, hrest⟩
    refine ⟨⟨?_, fun w hw => ?_⟩, ?_⟩
    · by_cases he : s.store.lifecycle = .blank
      · obtain ⟨hr, hn, hs⟩ := hrest he
        exact .inr ⟨⟨⟨⟨hr, hn⟩, hs⟩, howner he⟩, howned he⟩
      · exact .inl he
    · cases hpr : w.contents.ofProvisioning with
      | false => exact .inl rfl
      | true => exact .inr (hp w hw hpr)
    · by_cases he : s.store.lifecycle = .blank
      · exact .inl he
      · exact .inr (hm he)

/-! ### The books -/

/-- The lifecycle stands and no write joins those in hand. -/
theorem BlankBooks.of_sub {s t : State} (h : BlankBooks s) (hl : t.store.lifecycle = s.store.lifecycle)
    (hw : ∀ v ∈ writesInHand t, v ∈ writesInHand s)
    (hm : s.store.lifecycle = .blank → onOwnerToken t.mc.state = false) : BlankBooks t where
  owner hb := hm (hl ▸ hb)
  owned hb v hv := h.owned (hl ▸ hb) v (hw v hv)
  provisioning v hv := h.provisioning v (hw v hv)
  slotMap hb v hv := h.slotMap (hl ▸ hb) v (hw v hv)

theorem BlankBooks.of_same {s t : State} (h : BlankBooks s) (hb : SameBooks s t) : BlankBooks t := by
  obtain ⟨hs, hw, hm⟩ := hb
  exact h.of_sub (by rw [hs]) (fun v => by rw [writesInHand_congr hw]; exact id) (fun hl => by rw [hm]; exact h.owner hl)

/-- A write is asked for. -/
theorem BlankBooks.ask {s t : State} {who : Requester} {w : StoreWrite} (h : BlankBooks s)
    (hs : t.store = s.store) (hw : t.writes = (askWrite who w s).writes)
    (hm : s.store.lifecycle = .blank → onOwnerToken t.mc.state = false)
    (howned : s.store.lifecycle = .blank → w.ofOwnership = false) (hp : w.ofProvisioning = false)
    (hmap : s.store.lifecycle ≠ .blank → w.ofSlotMap = false) : BlankBooks t := by
  have hmem : ∀ v ∈ writesInHand t, v = ⟨who, w⟩ ∨ v ∈ writesInHand s := fun v hv =>
    mem_askWrite (by rw [writesInHand_congr hw] at hv; exact hv)
  refine ⟨fun hb => hm (hs ▸ hb), fun hb v hv => ?_, fun v hv hpv => ?_, fun hb v hv => ?_⟩
  · obtain rfl | hv := hmem v hv
    · exact howned (hs ▸ hb)
    · exact h.owned (hs ▸ hb) v hv
  · obtain rfl | hv := hmem v hv
    · simp [hp] at hpv
    · exact h.provisioning v hv hpv
  · obtain rfl | hv := hmem v hv
    · exact hmap (hs ▸ hb)
    · exact h.slotMap (hs ▸ hb) v hv

theorem BlankBooks.slot {s t : State} (h : BlankBooks s) (hb : SlotBooks s t) : BlankBooks t := by
  obtain ⟨hs, hm, hw | ⟨r, hw⟩⟩ := hb
  · exact h.of_same ⟨hs, hw, hm⟩
  · exact h.ask hs hw (fun hl => by rw [hm]; exact h.owner hl) (fun _ => rfl) rfl fun _ => rfl

theorem asked_blank {s : State} {job : Job} {w : StoreWrite} (h : BlankBooks s) (ha : AskedByChannel s job w) :
    (s.store.lifecycle = .blank → onOwnerToken (.working job) = false ∧ w.ofOwnership = false) ∧
      w.ofProvisioning = false ∧ (s.store.lifecycle ≠ .blank → w.ofSlotMap = false) := by
  obtain ha | ⟨r, n, rfl, -, -, rfl⟩ := ha
  · cases ha with
    | slotMap r hb hv => exact ⟨fun _ => ⟨rfl, rfl⟩, rfl, fun hn => absurd hb hn⟩
    | failures r passed n hj =>
      exact ⟨fun hb => by simpa [hj, onOwnerToken] using h.owner hb, rfl, fun _ => rfl⟩
    | takeOwnership r d ho => exact ⟨fun hb => by simpa [ho] using h.owner hb, rfl, fun _ => rfl⟩
    | releaseOwnership r ho => exact ⟨fun hb => by simpa [ho] using h.owner hb, rfl, fun _ => rfl⟩
    | _ => exact ⟨fun _ => ⟨rfl, rfl⟩, rfl, fun _ => rfl⟩
  · exact ⟨fun _ => ⟨rfl, rfl⟩, rfl, fun _ => rfl⟩

theorem BlankBooks.channel {s t : State} (h : BlankBooks s) (hstep : ChannelStep s t) : BlankBooks t := by
  cases channelStep_books hstep with
  | served hs hw hj =>
    refine h.of_sub (by rw [hs]) (fun v => by rw [writesInHand_congr hw]; exact id) fun hb => ?_
    obtain hj | ⟨-, ho, -⟩ := hj
    · rw [hj]
      exact h.owner hb
    · by_contra hown
      obtain hn | hn := ho (by simpa using hown)
      · exact hn hb
      · simp [h.owner hb] at hn
  | asked job w ha hs hw hj =>
    obtain ⟨howner, hp, hmap⟩ := asked_blank h ha
    exact h.ask hs hw (fun hb => hj ▸ (howner hb).1) (fun hb => (howner hb).2) hp hmap

theorem BlankBooks.channels {s t : State} (h : BlankBooks s) (hsteps : ChannelSteps s t) : BlankBooks t := by
  obtain ⟨u, v, hu, hstep, hv⟩ := hsteps
  exact ((h.of_same hu.books).channel hstep).of_same hv.books

/-- A reset's own write is alone in hand. -/
def resetWriteAlone (s : State) : Prop :=
  ∀ w, s.writes.current = some w → w.requester = .partReset → s.writes.waiting = none

theorem apply_blank {t : Store} {w : StoreWrite} (hb : t.lifecycle = .blank) (hp : w.ofProvisioning = false)
    (ho : w.ofOwnership = false) : (t.apply w).lifecycle = .blank := by
  cases w <;> simp_all [Store.apply, StoreWrite.ofProvisioning, StoreWrite.ofOwnership]

/-- The write in progress takes effect. -/
theorem BlankBooks.applied {s t : State} {w : PendingWrite} (h : BlankBooks s) (halone : resetWriteAlone s)
    (hc : s.writes.current = some w) (hs : t.store = s.store.apply w.contents)
    (hw : ∀ v ∈ writesInHand t, s.writes.waiting = some v)
    (hm : s.store.lifecycle = .blank → onOwnerToken t.mc.state = false) : BlankBooks t := by
  have hmem : ∀ v ∈ writesInHand t, v ∈ writesInHand s := fun v hv => by simp [writesInHand, hw v hv]
  have hcur : w ∈ writesInHand s := by simp [writesInHand, hc]
  refine ⟨fun hb => ?_, fun hb v hv => ?_, fun v hv => h.provisioning v (hmem v hv), fun hb v hv => ?_⟩
  · exact hm (apply_lifecycle (hs ▸ hb)).1
  · exact h.owned (apply_lifecycle (hs ▸ hb)).1 v (hmem v hv)
  · by_cases hb' : s.store.lifecycle = .blank
    · by_cases hp : w.contents.ofProvisioning = true
      · have := halone w hc (h.provisioning w hcur hp)
        cases this.symm.trans (hw v hv)
      · exfalso
        exact hb (hs ▸ apply_blank hb' (by simpa using hp) (h.owned hb' w hcur))
    · exact h.slotMap hb' v (hmem v hv)

theorem BlankBooks.writeDone {s : State} {w : PendingWrite} (h : BlankBooks s) (halone : resetWriteAlone s)
    (hc : s.writes.current = some w) : BlankBooks (writeDone w s) :=
  h.applied halone hc rfl (fun _ hv => mem_writeDone hv) h.owner

/-- A reset leaves no write in hand but its own. -/
theorem BlankBooks.reset {t : State} (hm : onOwnerToken t.mc.state = false)
    (hw : ∀ w ∈ writesInHand t, w.contents.ofOwnership = false ∧ w.contents.ofSlotMap = false ∧ w.requester = .partReset) :
    BlankBooks t :=
  ⟨fun _ => hm, fun _ w h => (hw w h).1, fun w h _ => (hw w h).2.2, fun _ w h => (hw w h).2.1⟩

theorem BlankBooks.resetWork {s : State} (h : BlankBooks s) : BlankBooks (beginResetWork s) := by
  unfold beginResetWork
  split
  · refine .reset rfl fun w hw => ?_
    simp [writesInHand] at hw
    subst hw
    exact ⟨rfl, rfl, rfl⟩
  · exact h.of_same ⟨by simp, by simp, by simp⟩

theorem BlankBooks.hardReset (s : State) (low : Bool) : BlankBooks { hardReset s with rstLow := low } := by
  refine .reset rfl fun w hw => ?_
  cases hw

theorem move_blankBooks {s t : State} (h : BlankBooks s) (halone : resetWriteAlone s) (hm : Move s t) :
    BlankBooks t := by
  have hitem : BlankBooks (scanItemDone s) := h.of_same ⟨rfl, rfl, rfl⟩
  cases hm with
  | stood => exact h
  | posted kept hl hidle hs =>
    refine BlankBooks.channels (s := acceptPost kept s) ?_ hs
    exact h.of_sub (t := acceptPost kept s) rfl (fun _ => id) fun _ => rfl
  | allowed c targets inStaging hd => exact h.of_same ⟨by simp, by simp, by simp⟩
  | refused c address reason => exact h.of_same ⟨by simp, by simp, by simp⟩
  | scan hp hs => exact h.slot (scanStep_books hs)
  | scanAbsorbed absorbing hi hl => exact h.of_same ⟨rfl, rfl, rfl⟩
  | scanDigested hi hw hs => exact hitem.slot (scanStep_books hs)
  | failureDigested hi hw =>
    exact hitem.slot (bootStep_books (bootStep_failureDigested (passed := True) (sound := False) False.elim _))
  | revertDigested hi hw =>
    exact hitem.slot (bootStep_books (bootStep_revertDigested (passed := True) (sound := False) False.elim _))
  | bootFolded hi hw hl => exact hitem.slot (bootFolded_books _ _)
  | itemDropped hi hw => exact hitem
  | channelAbsorbed hi hl => exact h.of_same ⟨rfl, rfl, rfl⟩
  | channelDigested hj hs => 
    refine BlankBooks.channels (s := channelItemDone s) ?_ hs
    exact h.of_same ⟨rfl, rfl, rfl⟩
  | channelItemDropped hf => exact h.of_same ⟨rfl, rfl, rfl⟩
  | laneFolded hk hi hl => exact h.of_sub rfl (fun _ => id) fun _ => rfl
  | channelSigned hj hs => exact h.channels hs
  | writtenDue hw hdue => exact h.applied halone hw rfl (fun v hv => by simpa [writesInHand] using hv) h.owner
  | channelWritten hw hr => exact (h.writeDone halone hw).channels (steps_channelWriteEnded _)
  | slotWritten hw hr => exact (h.writeDone halone hw).slot (bootStep_books (bootStep_bootWriteEnded True _))
  | resetWritten hw hr => exact (h.writeDone halone hw).of_sub rfl (fun _ => id) fun _ => rfl
  | recoveryEnded hp => exact h.of_same ⟨rfl, rfl, rfl⟩
  | captured a b hp => exact h.slot (SlotBooks.of_base (by exact ⟨rfl, rfl, rfl⟩) (beginBoot_books _))
  | hardReset low work hlow =>
    split
    · exact (BlankBooks.hardReset s low).resetWork
    · exact .hardReset s low
  | released hl => 
    refine BlankBooks.resetWork ?_
    exact h.of_same (t := { s with rstLow := false }) ⟨rfl, rfl, rfl⟩
  | restarted floor hj hdue =>
    unfold restartWork
    split
    · refine .reset rfl fun w hw => ?_
      simp [writesInHand] at hw
      subst hw
      exact ⟨rfl, rfl, rfl⟩
    · refine .reset rfl fun w hw => ?_
      cases hw

/-! ### The scan -/

theorem BlankRest.of_same {s t : State} (h : BlankRest s) (hl : t.store.lifecycle = .blank → s.store.lifecycle = .blank)
    (hs : SameScan s t) : BlankRest t := by
  intro hb
  obtain ⟨hr, hn, hst⟩ := h (hl hb)
  exact ⟨(scanAtRest_congr hs.phase).trans hr, hs.absent hn, hs.stage ▸ hst⟩

theorem BlankRest.of_eq {s t : State} (h : BlankRest s) (hs : t.store = s.store) (hi : t.isc = s.isc)
    (hd : t.de.scan = s.de.scan) : BlankRest t := by
  unfold BlankRest
  rw [hs, hi, hd, scanAtRest_congr (s := s) (by rw [hi])]
  exact h

theorem BlankRest.of_rest {t : State} (hr : scanAtRest t = true) (hi : t.de.scan = none)
    (hs : t.isc.stage = .idle ∨ t.isc.stage = .released) : BlankRest t := fun _ => ⟨hr, hi, hs⟩

theorem BlankRest.not_blank {t : State} (h : t.store.lifecycle ≠ .blank) : BlankRest t := fun hb => absurd hb h

/-- The channel leaves the scan as it is, ends it (R116), or begins one outside BLANK (R110). -/
theorem channelStep_scan {s t : State} (hstep : ChannelStep s t) :
    SameScan s t ∨ (scanAtRest t = true ∧ t.de.scan = none ∧ t.isc.stage = s.isc.stage) ∨
      s.store.lifecycle ≠ .blank := by
  cases hstep with
  | own ho hj => exact .inl ho.boot.2
  | cleared ho hj => exact .inl (ho.boot.2.after (.of_eq rfl rfl rfl rfl rfl))
  | narrowed i mask ho hj => exact .inl (ho.boot.2.after (.of_eq rfl rfl rfl rfl rfl))
  | opened hr hs ho hj => exact .inl (.trans (.restaged (by simp [hs]) _) ho.boot.2)
  | closed hs ho hj => exact .inl (.trans (.restaged hs _) ho.boot.2)
  | abandoned hs ho hj =>
    have hb := ho.boot.2
    refine .inr (.inl ⟨(scanAtRest_congr hb.phase).trans rfl, hb.absent rfl, hb.stage⟩)
  | verifying hb hr hs ho hj => exact .inr (.inr hb)
  | restart floor hj hv => exact .inl (.of_eq rfl rfl rfl rfl rfl)
  | write ho hj hw => exact .inl (.trans ho.boot.2 (.askChannel _))
  | commit r attempts hb hs hactive ha => exact .inr (.inr hb)
  | extend hk hk' hd hu => exact .inl (.trans (extending_scan hu) (.of_eq rfl rfl rfl rfl rfl))

theorem channelSteps_blankRest {s t : State} (h : BlankRest s) (hsteps : ChannelSteps s t) : BlankRest t := by
  obtain ⟨u, v, hu, hstep, hv⟩ := hsteps
  have hlife : v.store.lifecycle = .blank → u.store.lifecycle = .blank := by
    cases channelStep_books hstep with
    | served hs hw hj => rw [hs]; exact id
    | asked job w ha hs hw hj => rw [hs]; exact id
  have hru : BlankRest u := h.of_same (by rw [hu.store]; exact id) hu.scan
  refine BlankRest.of_same (s := v) (fun hb => ?_) (by rw [hv.store]; exact id) hv.scan
  obtain hs | ⟨hr, hi, hstage⟩ | hn := channelStep_scan hstep
  · exact hru.of_same hlife hs hb
  · exact ⟨hr, hi, hstage ▸ (hru (hlife hb)).2.2⟩
  · exact absurd (hlife hb) hn

/-- In BLANK no scan goes on. -/
theorem scanStep_blankRest {p : ScanPhase} {sound : Prop} {s t : State} (h : BlankRest s) (hp : s.isc.scan.phase = p)
    (hstep : ScanStep p sound s t) : BlankRest t := by
  have hbusy : scanBusy s.isc.scan.phase → t.store = s.store → BlankRest t := fun hb hs =>
    .not_blank fun hl => by
      have := (h (hs ▸ hl)).1
      simp [scanAtRest_false.2 hb] at this
  have hstore := (scanStep_books hstep).1
  have busy : ∀ {q}, p = q → scanBusy q → BlankRest t := fun hq hb => hbusy (by rw [hp, hq]; exact hb) hstore
  cases hstep with
  | stood => exact h
  | slotFilled bytes =>
    refine h.of_same (by exact id) ⟨rfl, rfl, id, rfl, rfl, .inl rfl, rfl, .inr fun i hi => ?_⟩
    obtain ⟨j, hj, rfl⟩ := Option.map_eq_some_iff.1 hi
    exact ⟨j, hj, rfl⟩
  | manifestTaken bytes key hq => exact busy hq ⟨by decide, by decide⟩
  | verifyPlaced digest op hq hn => exact busy hq ⟨by decide, by decide⟩
  | segmentBegun k total digests hd hq =>
    obtain hq | ⟨hq, -⟩ := hq <;> exact busy hq ⟨by decide, by decide⟩
  | stagedFailed reason k manifest hn ho => exact busy rfl hn.busy
  | bootFailed reason k manifest hn ho => exact busy rfl hn.busy
  | stagedPassed digest hd hn ho hq => exact busy hq ⟨by decide, by decide⟩
  | bootPassed digest hd hn ho hq => exact busy hq ⟨by decide, by decide⟩

/-- In BLANK the scan place is empty. -/
theorem BlankRest.item {s : State} {i : DigestItem} (h : BlankRest s) (hi : s.de.scan = some i) :
    s.store.lifecycle ≠ .blank := fun hb => by cases hi.symm.trans (h hb).2.1

theorem BlankRest.slot {s u t : State} {i : DigestItem} (h : BlankRest s) (hi : s.de.scan = some i)
    (hu : u.store = s.store) (hb : SlotBooks u t) : BlankRest t :=
  .not_blank (by rw [hb.1, hu]; exact h.item hi)

/-- A write ended; a BLANK part still rests. -/
theorem BlankRest.writeDone {s : State} (h : BlankRest s) (w : PendingWrite) : BlankRest (writeDone w s) :=
  fun hb => h (apply_lifecycle hb).1

theorem bootWriteEnded_rest {s : State} (h : s.isc.stage = .idle ∨ s.isc.stage = .released) : bootWriteEnded s = s := by
  unfold bootWriteEnded
  obtain h | h := h <;> rw [h]

theorem hardReset_blankRest (s : State) (low work : Bool) :
    BlankRest (if work then beginResetWork { hardReset s with rstLow := low } else { hardReset s with rstLow := low }) := by
  unfold hardReset
  split
  · refine .of_rest ?_ ?_ (.inl ?_)
    · exact (scanAtRest_congr (by simp)).trans (show scanAtRest (partReset s) = true from rfl)
    · simp
      rfl
    · simp
      rfl
  · exact .of_rest rfl rfl (.inl rfl)

theorem makeStale_blankRest {s : State} (h : BlankRest s) : BlankRest (makeStale s) := by
  unfold makeStale
  split
  · exact fun hb => ⟨rfl, rfl, (h hb).2.2⟩
  · exact h

theorem captured_blankRest {s : State} (h : BootOk s) (hp : s.fp.prep = .identifying) (manufacturer type : Byte) :
    BlankRest (beginBoot { s with bp.idManufacturer := manufacturer, bp.idType := type, fp.prep := .ready }) := by
  obtain ⟨hitem, hrest⟩ := h.scan.prep (by simp [hp])
  unfold beginBoot
  split
  · refine .of_rest ((scanAtRest_congr (s := s) (by simp)).trans hrest) (by simp [hitem]) (.inr ?_)
    unfold release
    dsimp only
    split <;> rfl
  · next hn =>
    refine .not_blank ?_
    rw [(bootStep_books (bootStep_bootFirstStep (passed := True) (sound := True) _)).1]
    exact hn

theorem move_blankRest {s t : State} (h : BlankRest s) (hboot : BootOk s) (hm : Move s t) : BlankRest t := by
  cases hm with
  | stood => exact h
  | posted kept hl hidle hs =>
    exact channelSteps_blankRest (s := acceptPost kept s) (h.of_same (by exact id) (.of_eq rfl rfl rfl rfl rfl)) hs
  | allowed c targets inStaging hd =>
    unfold allowCommand
    dsimp only
    split
    · exact (makeStale_blankRest h).of_eq (by exact rfl) (by exact rfl) (by exact rfl)
    · exact h.of_eq (by exact rfl) (by exact rfl) (by exact rfl)
  | refused c address reason => exact h.of_same (by exact id) (.of_eq rfl rfl rfl rfl rfl)
  | scan hp hs => exact scanStep_blankRest h hp hs
  | scanAbsorbed absorbing hi hl => exact .not_blank (h.item hi)
  | scanDigested hi hw hs => exact h.slot hi (by exact rfl) (scanStep_books hs)
  | failureDigested hi hw =>
    exact h.slot hi (by exact rfl) (bootStep_books (bootStep_failureDigested (passed := True) (sound := False) False.elim _))
  | revertDigested hi hw =>
    exact h.slot hi (by exact rfl) (bootStep_books (bootStep_revertDigested (passed := True) (sound := False) False.elim _))
  | bootFolded hi hw hl => exact h.slot hi (by exact rfl) (bootFolded_books _ _)
  | itemDropped hi hw => exact .not_blank (h.item hi)
  | channelAbsorbed hi hl => exact h.of_same (by exact id) (.of_eq rfl rfl rfl rfl rfl)
  | channelDigested hj hs =>
    exact channelSteps_blankRest (s := channelItemDone s) (h.of_same (by exact id) (.of_eq rfl rfl rfl rfl rfl)) hs
  | channelItemDropped hf => exact h.of_same (by exact id) (.of_eq rfl rfl rfl rfl rfl)
  | laneFolded hk hi hl => exact h.of_same (by exact id) (.of_eq rfl rfl rfl rfl rfl)
  | channelSigned hj hs => exact channelSteps_blankRest h hs
  | writtenDue hw hdue => exact fun hb => h (apply_lifecycle hb).1
  | channelWritten hw hr => exact channelSteps_blankRest (h.writeDone _) (steps_channelWriteEnded _)
  | @slotWritten w hw hr =>
    intro hb
    have hb' : (writeDone w s).store.lifecycle = .blank := by
      rw [← (bootStep_books (bootStep_bootWriteEnded True (writeDone w s))).1]
      exact hb
    have hrest := h.writeDone w hb'
    rw [bootWriteEnded_rest hrest.2.2]
    exact hrest
  | resetWritten hw hr => exact fun hb => h (apply_lifecycle hb).1
  | recoveryEnded hp => exact h.of_eq rfl rfl rfl
  | captured a b hp => exact captured_blankRest hboot hp _ _
  | hardReset low work hlow => exact hardReset_blankRest s low work
  | released hl => exact h.of_eq (by simp) (by simp) (by simp)
  | restarted floor hj hdue =>
    exact .of_rest ((scanAtRest_congr (by simp)).trans (show scanAtRest (partReset s) = true from rfl)) (by simp; rfl)
      (.inl (by simp; rfl))

theorem BootOk.alone {s : State} (h : BootOk s) : resetWriteAlone s := fun w hw hr => (h.frame.reset w hw hr).2.1

/-- What a BLANK part has not begun is kept by every step. -/
theorem step_blankOk {s t : State} (h : BlankBooks s ∧ BlankRest s) (hboot : BootOk s) (hstep : step s = .next t) :
    BlankBooks t ∧ BlankRest t := by
  obtain ⟨u, v, hu, hm, hv⟩ := step_moves hstep
  have hbu := hboot.quiet hu
  have hbooks := move_blankBooks (h.1.of_same hu.books) hbu.alone hm
  have hrest := move_blankRest (h.2.of_same (by rw [hu.store]; exact id) hu.scan) hbu hm
  exact ⟨hbooks.of_same hv.books, hrest.of_same (by rw [hv.store]; exact id) hv.scan⟩

end Sys2Proof.Machine
end

section
/-! PROOFS. What a table and an operation can reach (R1 to R3, R13 to R17, R89). -/

namespace Sys2Proof.Machine

/-! ### Tables -/

/-- R1, R2, R3: a table in order. -/
def TableFits (table : List Region) : Prop :=
  table.length = 16 ∧ endsRise 0 table = true ∧ ∀ e ∈ table, e.rightsOk = true

theorem tableOk_iff {s : State} : tableOk s = true ↔ TableFits s.tu.table := by
  simp [tableOk, TableFits, and_assoc]

/-- R17, R89: no program or erase right of an entry that begins at `before` reaches a slot or the recovery area, STAGING
apart. -/
def entryGuarded (m : SlotMap) (before : Nat) (e : Region) : Bool :=
  match e.target with
  | .none => true
  | .staging => true
  | .active => !e.granted.p && !e.granted.e
  | .direct =>
    (!e.granted.p && !e.granted.e) ||
      (!overlap (e.base * 4096) ((e.stop - before) * 4096) (m.slotStart .a) m.slotBytes &&
        !overlap (e.base * 4096) ((e.stop - before) * 4096) (m.slotStart .b) m.slotBytes &&
        !overlap (e.base * 4096) ((e.stop - before) * 4096) m.recoveryStart m.recoveryBytes)

theorem tableGuarded_cons (m : SlotMap) (before : Nat) (e : Region) (rest : List Region) :
    tableGuarded m before (e :: rest) = (entryGuarded m before e && tableGuarded m e.stop rest) := by
  cases ht : e.target <;> simp [tableGuarded, entryGuarded, ht]

theorem rights_within_minus {x y : Rights} (mask : Rights) (h : x.within y = true) : (x.minus mask).within y = true := by
  unfold Rights.within Rights.minus at *
  revert h
  cases x.r <;> cases x.p <;> cases x.e <;> cases y.r <;> cases y.p <;> cases y.e <;> simp

/-- R20: the entry with a mask removed from its live rights. -/
def narrowRegion (mask : Rights) (e : Region) : Region := { e with live := e.live.minus mask }

theorem endsRise_narrow (i : Nat) (mask : Rights) (before : Nat) (table : List Region) :
    endsRise before (narrowTable table i mask) = endsRise before table := by
  unfold narrowTable
  induction table generalizing i before with
  | nil => simp
  | cons e rest ih =>
    cases i with
    | zero => rfl
    | succ i => simp [endsRise, ih]

theorem tableGuarded_narrow (m : SlotMap) (i : Nat) (mask : Rights) (before : Nat) (table : List Region) :
    tableGuarded m before (narrowTable table i mask) = tableGuarded m before table := by
  unfold narrowTable
  induction table generalizing i before with
  | nil => simp
  | cons e rest ih =>
    cases i with
    | zero => rfl
    | succ i => simp only [List.modify_succ_cons, tableGuarded_cons, ih]

theorem mem_narrowTable {table : List Region} {i : Nat} {mask : Rights} {e : Region}
    (h : e ∈ narrowTable table i mask) : e ∈ table ∨ ∃ f ∈ table, e = narrowRegion mask f := by
  obtain ⟨k, hk, rfl⟩ := List.getElem_of_mem h
  have hk' : k < table.length := by simpa [narrowTable] using hk
  simp only [narrowTable, List.getElem_modify]
  split
  · exact .inr ⟨table[k], List.getElem_mem hk', rfl⟩
  · exact .inl (List.getElem_mem hk')

theorem rightsOk_narrow (mask : Rights) {e : Region} (h : e.rightsOk = true) : (narrowRegion mask e).rightsOk = true := by
  unfold Region.rightsOk at *
  rw [Bool.and_eq_true] at *
  exact ⟨rights_within_minus mask h.1, h.2⟩

theorem TableFits.narrow {table : List Region} (h : TableFits table) (i : Nat) (mask : Rights) :
    TableFits (narrowTable table i mask) := by
  obtain ⟨hl, hr, hok⟩ := h
  refine ⟨by simpa [narrowTable] using hl, (endsRise_narrow ..).trans hr, fun e he => ?_⟩
  obtain he | ⟨f, hf, rfl⟩ := mem_narrowTable he
  · exact hok e he
  · exact rightsOk_narrow mask (hok f hf)

theorem heldTable_fits : TableFits heldTable := by
  refine ⟨rfl, rfl, fun e he => ?_⟩
  rw [List.eq_of_mem_replicate he]
  rfl

theorem identityTable_fits : TableFits identityTable := by
  refine ⟨rfl, rfl, fun e he => ?_⟩
  obtain rfl | he := List.mem_cons.1 he
  · rfl
  · rw [List.eq_of_mem_replicate he]
    rfl

theorem tableGuarded_none {m : SlotMap} {table : List Region} (h : ∀ e ∈ table, e.target = .none) (before : Nat) :
    tableGuarded m before table = true := by
  induction table generalizing before with
  | nil => rfl
  | cons e rest ih =>
    obtain ⟨he, hrest⟩ := List.forall_mem_cons.1 h
    rw [tableGuarded_cons, ih hrest]
    simp [entryGuarded, he]

theorem heldTable_guarded (m : SlotMap) : tableGuarded m 0 heldTable = true :=
  tableGuarded_none (fun e he => by rw [List.eq_of_mem_replicate he]; rfl) 0

/-- R4, R5: the bounds and order of a valid slot map. -/
structure SlotMap.Fits (m : SlotMap) : Prop where
  lengths : m.recoveryLength + m.slotLength ≤ 256
  slot : 1 ≤ m.slotLength
  apart : m.aBase + m.slotLength ≤ m.bBase ∨ m.bBase + m.slotLength ≤ m.aBase
  a : m.aBase + m.slotLength ≤ m.recoveryBase ∨ m.recoveryBase + m.recoveryLength ≤ m.aBase
  b : m.bBase + m.slotLength ≤ m.recoveryBase ∨ m.recoveryBase + m.recoveryLength ≤ m.bBase

theorem SlotMap.fits {m : SlotMap} (h : m.valid = true) : m.Fits := by
  simp only [SlotMap.valid, Bool.and_eq_true, Bool.or_eq_true, decide_eq_true_eq] at h
  exact ⟨by omega, by omega, by omega, by omega, by omega⟩

theorem recoveryTable_fits {m : SlotMap} (h : m.Fits) : TableFits (recoveryTable m) := by
  have hl := h.lengths
  have hrest : ∀ (n top : Nat), top ≤ 4096 → endsRise top (List.replicate n (installedRegion top .none .empty 0)) = true := by
    intro n top ht
    induction n with
    | zero => rfl
    | succ n ih => simpa [List.replicate_succ, endsRise, installedRegion, ht] using ih
  refine ⟨rfl, ?_, fun e he => ?_⟩
  · simp only [recoveryTable, endsRise, Bool.and_eq_true, decide_eq_true_eq]
    exact ⟨⟨by omega, by simp [installedRegion]; omega⟩, ⟨by simp [installedRegion], by simp [installedRegion]; omega⟩,
      hrest _ _ (by simp [installedRegion]; omega)⟩
  · simp only [recoveryTable, List.mem_cons, List.mem_replicate] at he
    obtain rfl | rfl | ⟨-, rfl⟩ := he <;> rfl

theorem recoveryTable_guarded (m : SlotMap) : tableGuarded m 0 (recoveryTable m) = true := by
  rw [recoveryTable, tableGuarded_cons, tableGuarded_cons, tableGuarded_none]
  · rfl
  · intro e he
    rw [List.eq_of_mem_replicate he]
    rfl

/-! ### Manifest tables (R3, R89) -/

theorem installed_rightsOk (e : ManifestRegion) : (installedFromManifest e).rightsOk = true := by
  have hself : ∀ x : Rights, x.within x = true := fun x => by cases x.r <;> cases x.p <;> cases x.e <;> simp_all [Rights.within]
  unfold Region.rightsOk
  rw [Bool.and_eq_true]
  refine ⟨hself _, ?_⟩
  by_cases ht : targetOfCode e.target = .active <;> simp [installedFromManifest, installedRegion, ht]

theorem endsRise_installed {before : Nat} {l : List ManifestRegion} (h : endsOk before l = true) :
    endsRise before (l.map installedFromManifest) = true := by
  induction l generalizing before with
  | nil => rfl
  | cons e rest ih =>
    simp only [endsOk, Bool.and_eq_true, decide_eq_true_eq] at h
    obtain ⟨⟨⟨hb, ht⟩, -⟩, hrest⟩ := h
    simp only [List.map_cons, endsRise, Bool.and_eq_true, decide_eq_true_eq]
    exact ⟨⟨hb, ht⟩, ih hrest⟩

theorem manifestTable_fits {m : Bytes} (h : endsOk 0 (manifestRegions m) = true) : TableFits (manifestTable m) := by
  refine ⟨by simp [manifestTable, manifestRegions], endsRise_installed h, fun e he => ?_⟩
  obtain ⟨f, -, rfl⟩ := List.mem_map.1 he
  exact installed_rightsOk f

theorem overlap_empty (a b lb : Nat) : overlap a 0 b lb = false := by simp [overlap]

/-- R89: an entry that check 8 passes is guarded. -/
theorem entryGuarded_installed {sm : SlotMap} {before : Nat} {e : ManifestRegion}
    (h : e.stop = before ∨ aliasOk sm e ((e.stop - before) * 4096) = true) :
    entryGuarded sm before (installedFromManifest e) = true := by
  unfold entryGuarded
  cases ht : targetOfCode e.target with
  | none => simp [installedFromManifest, installedRegion, ht]
  | staging => simp [installedFromManifest, installedRegion, ht]
  | active => simp [installedFromManifest, installedRegion, ht]
  | direct =>
    have hgeom : (installedFromManifest e).target = .direct ∧ (installedFromManifest e).base = e.base ∧
        (installedFromManifest e).stop = e.stop := ⟨ht, rfl, rfl⟩
    simp only [hgeom]
    obtain rfl | h := h
    · simp [overlap_empty]
    · simp only [aliasOk, ht, Bool.and_eq_true] at h
      obtain ⟨⟨⟨-, ha⟩, hb⟩, hr⟩ := h
      simp [ha, hb, hr]

theorem tableGuarded_installed {sm : SlotMap} {before : Nat} {l : List ManifestRegion}
    (h : aliasesOk sm before l = true) : tableGuarded sm before (l.map installedFromManifest) = true := by
  induction l generalizing before with
  | nil => rfl
  | cons e rest ih =>
    simp only [aliasesOk, Bool.and_eq_true, Bool.or_eq_true, decide_eq_true_eq] at h
    rw [List.map_cons, tableGuarded_cons, entryGuarded_installed h.1]
    exact ih h.2

/-! ### The decision (R13 to R17) -/

theorem decideUnits_targets {check : LogicalAddress → Except RefusalReason (Nat × Bool)} {us : List LogicalAddress}
    {ts : List Nat} {st : Bool} {targets : List Nat} {inStaging : Bool}
    (h : decideUnits check ts st us = .allowed targets inStaging) :
    ∃ ps, targets = ts ++ ps ∧ List.Forall₂ (fun u p => ∃ b, check u = .ok (p, b)) us ps := by
  induction us generalizing ts st with
  | nil =>
    cases h
    exact ⟨[], by simp, .nil⟩
  | cons u rest ih =>
    unfold decideUnits at h
    split at h
    · cases h
    · next p b hu =>
      obtain ⟨ps, rfl, hps⟩ := ih h
      exact ⟨p :: ps, by simp, .cons ⟨b, hu⟩ hps⟩

/-! ### What an allowed unit reaches -/

/-- What lookup finds in a guarded table: the entry, where it begins, and that it is guarded. -/
theorem lookupFrom_guarded {m : SlotMap} {table : List Region} {i before a : Nat} {f : Found}
    (h : lookupFrom i (before * 4096) a table = some f) (hg : tableGuarded m before table = true)
    (hb : before * 4096 ≤ a) :
    ∃ b, f.start = b * 4096 ∧ b * 4096 ≤ a ∧ a < f.region.stop * 4096 ∧ f.region ∈ table ∧
      entryGuarded m b f.region = true := by
  induction table generalizing i before with
  | nil => cases h
  | cons e rest ih =>
    rw [tableGuarded_cons, Bool.and_eq_true] at hg
    by_cases ha : a < e.stop * 4096
    · rw [lookupFrom_below i _ rest ha] at h
      cases h
      exact ⟨before, rfl, hb, ha, List.mem_cons_self, hg.1⟩
    · have hle := Nat.le_of_not_lt ha
      rw [lookupFrom_above i _ rest hle] at h
      obtain ⟨b, hs, hle, hlt, hmem, hgb⟩ := ih h hg.2 hle
      exact ⟨b, hs, hle, hlt, List.mem_cons_of_mem _ hmem, hgb⟩

/-- R17: `n` bytes from `p` on reach neither the live-selector slot nor the recovery area. -/
def Clear (m : SlotMap) (selector : Slot) (p n : Nat) : Prop :=
  overlap p n (m.slotStart selector) m.slotBytes = false ∧ overlap p n m.recoveryStart m.recoveryBytes = false

theorem overlap_false {a la b lb : Nat} (hla : 0 < la) : overlap a la b lb = false ↔ lb = 0 ∨ b + lb ≤ a ∨ a + la ≤ b := by
  simp only [overlap, Bool.and_eq_false_iff, decide_eq_false_iff_not]
  omega

/-- A part of a range overlaps no more than the range. -/
theorem overlap_within {a la b lb p n : Nat} (h : overlap a la b lb = false) (hn : 0 < n) (hp : a ≤ p)
    (hpn : p + n ≤ a + la) : overlap p n b lb = false := by
  rw [overlap_false (by omega)] at *
  omega

/-- R13, R14: the size of the unit of a command: a page or a sector. -/
def unitSize : CommandKind → Nat
  | .program => 256
  | _ => 4096

theorem dvd_end {n a b : Nat} (hn : n ∣ 4096) (ha : n ∣ a) (h : a < b * 4096) : a + n ≤ b * 4096 := by
  obtain ⟨c, hc⟩ := hn
  obtain ⟨d, rfl⟩ := ha
  rw [hc, ← Nat.mul_assoc, Nat.mul_comm b n, Nat.mul_assoc] at h ⊢
  rw [← Nat.mul_succ]
  exact Nat.mul_le_mul_left n (Nat.lt_of_mul_lt_mul_left h)

theorem span_le {base a before stop n : Nat} (hle : before * 4096 ≤ a) (hend : a + n ≤ stop * 4096) :
    base * 4096 + (a - before * 4096) + n ≤ base * 4096 + (stop - before) * 4096 := by
  have h : ∀ {d b c : Nat}, b ≤ a → a + n ≤ c → d + (a - b) + n ≤ d + (c - b) := by omega
  rw [Nat.sub_mul]
  exact h hle hend

/-- R6, R10: a unit in the live-inactive slot. -/
theorem other_clear {m : SlotMap} (h : m.Fits) (selector : Slot) {o n : Nat} (hn : 0 < n)
    (ho : o + n ≤ m.slotBytes) : Clear m selector (m.slotStart selector.other + o) n := by
  obtain ⟨-, hslot, happart, hra, hrb⟩ := h
  unfold Clear
  rw [overlap_false hn, overlap_false hn]
  unfold SlotMap.slotBytes SlotMap.recoveryStart SlotMap.recoveryBytes at *
  cases selector <;> simp only [Slot.other, SlotMap.slotStart] <;> omega

theorem right_within {x y : Rights} (kind : CommandKind) (h : x.within y = true) (hr : hasNeededRight kind x = true) :
    (y.p || y.e) = true := by
  revert h hr
  unfold Rights.within hasNeededRight
  cases kind <;> cases x.p <;> cases x.e <;> cases y.p <;> cases y.e <;> simp

/-- R16, R17: an allowed unit reaches neither the live-selector slot nor the recovery area. -/
theorem unit_clear {tu : TranslationUnit} {m : SlotMap} {staging : StagingState} {kind : CommandKind}
    {a : LogicalAddress} {p : Nat} {b : Bool} (hm : m.Fits) (hfit : TableFits tu.table)
    (hg : tableGuarded m 0 tu.table = true) (ha : unitSize kind ∣ a.toNat)
    (h : checkUnit tu (some m) staging kind a = .ok (p, b)) : Clear m tu.selector p (unitSize kind) := by
  have hsize : 0 < unitSize kind ∧ unitSize kind ∣ 4096 := by
    cases kind <;> exact ⟨by decide, by decide⟩
  unfold checkUnit at h
  split at h
  · cases h
  next f q htr =>
  split at h
  · cases h
  next hright =>
  split at h
  · cases h
  cases h
  obtain ⟨g, hl, htr⟩ := Option.bind_eq_some_iff.1 htr
  obtain ⟨q', hq, heq⟩ := Option.map_eq_some_iff.1 htr
  cases heq
  obtain ⟨before, hstart, hle, hlt, hmem, hgb⟩ := lookupFrom_guarded (before := 0) (by simpa [lookup] using hl) hg (by omega)
  have hend := dvd_end hsize.2 ha hlt
  have hrights := hfit.2.2 _ hmem
  unfold Region.rightsOk at hrights
  rw [Bool.and_eq_true] at hrights
  have hneed := right_within kind hrights.1 (by simpa using hright)
  unfold entryGuarded at hgb
  unfold physicalOf at hq
  rw [hstart] at hq
  cases ht : f.region.target with
  | none => simp [ht] at hq
  | active =>
    rw [ht] at hgb
    revert hgb hneed
    cases f.region.granted.p <;> cases f.region.granted.e <;> simp
  | direct =>
    simp only [ht] at hq hgb
    split at hq
    · cases hq
    cases hq
    rw [Bool.or_eq_true] at hgb
    obtain hgb | hgb := hgb
    · revert hgb hneed
      cases f.region.granted.p <;> cases f.region.granted.e <;> simp
    · simp only [Bool.and_eq_true, Bool.not_eq_true'] at hgb
      obtain ⟨⟨hA, hB⟩, hR⟩ := hgb
      have hspan : f.region.base * 4096 + (a.toNat - before * 4096) + unitSize kind ≤
          f.region.base * 4096 + (f.region.stop - before) * 4096 := span_le hle hend
      have hin : ∀ {b lb : Nat}, overlap (f.region.base * 4096) ((f.region.stop - before) * 4096) b lb = false →
          overlap (f.region.base * 4096 + (a.toNat - before * 4096)) (unitSize kind) b lb = false :=
        fun ho => overlap_within ho hsize.1 (Nat.le_add_right _ _) hspan
      refine ⟨?_, hin hR⟩
      cases tu.selector
      · exact hin hA
      · exact hin hB
  | staging =>
    simp only [ht, physicalOf.inSlot] at hq
    split at hq
    · cases hq
    next hin =>
    cases hq
    rw [Nat.add_assoc]
    refine other_clear hm _ hsize.1 ?_
    have hbytes : m.slotBytes = (m.slotLength * 16) * 4096 := by unfold SlotMap.slotBytes; omega
    rw [hbytes]
    refine dvd_end hsize.2 ?_ (by rw [← hbytes]; omega)
    exact Nat.dvd_add (Nat.dvd_trans hsize.2 (Nat.dvd_mul_left ..)) (Nat.dvd_sub ha (Nat.dvd_trans hsize.2 (Nat.dvd_mul_left ..)))

/-! ### What an allowed command reaches (R13 to R15, R17) -/

/-- R13 to R15: a command's units begin at multiples of their size. -/
theorem unitsOf_aligned {c : TakenCommand} {u : LogicalAddress} (h : u ∈ unitsOf c) : unitSize c.kind ∣ u.toNat := by
  have ha : c.address.toNat < 16777216 := c.address.isLt
  unfold unitsOf at h
  cases hk : c.kind with
  | program =>
    simp only [hk, List.mem_singleton] at h
    subst h
    rw [BitVec.toNat_ofNat, Nat.mod_eq_of_lt (by omega)]
    exact Nat.dvd_mul_left ..
  | sectorErase =>
    simp only [hk, List.mem_singleton] at h
    subst h
    rw [BitVec.toNat_ofNat, Nat.mod_eq_of_lt (by omega)]
    exact Nat.dvd_mul_left ..
  | blockErase =>
    simp only [hk, List.mem_map, List.mem_range] at h
    obtain ⟨k, hk, rfl⟩ := h
    rw [BitVec.toNat_ofNat, Nat.mod_eq_of_lt (by omega)]
    exact Nat.dvd_add (Nat.dvd_trans (by decide : unitSize .blockErase ∣ 65536) (Nat.dvd_mul_left ..)) (Nat.dvd_mul_right ..)
  | chipErase => simp [hk] at h

/-- R17: each command of an operation reaches neither the live-selector slot nor the recovery area. -/
structure FlightFits (m : Option SlotMap) (selector : Slot) (o : FlightOp) : Prop where
  index : o.index < o.targets.length
  series : o.kind = .eraseSeries → o.targets.length = 16
  clear : ∀ x, m = some x → ∀ p ∈ o.targets, Clear x selector p (commandLength o.kind)

/-- R15: sixteen sectors of one run are clear together. -/
theorem clear_block {m : SlotMap} {selector : Slot} {p : Nat} (h : ∀ k < 16, Clear m selector (p + 4096 * k) 4096) :
    Clear m selector p 65536 := by
  have hone : ∀ {b lb : Nat}, (∀ k < 16, overlap (p + 4096 * k) 4096 b lb = false) → overlap p 65536 b lb = false := by
    intro b lb hk
    rw [overlap_false (by omega)]
    by_contra hn
    have := hk ((max p b - p) / 4096) (by omega)
    rw [overlap_false (by omega)] at this
    omega
  exact ⟨hone fun k hk => (h k hk).1, hone fun k hk => (h k hk).2⟩

/-- R15: the sectors of one run. -/
theorem oneBlock_mem {targets : List Nat} (h : oneBlock targets = true) {k : Nat} (hk : k < 16) :
    targets.getD 0 0 + 4096 * k ∈ targets := by
  simp only [oneBlock, Bool.and_eq_true, beq_iff_eq] at h
  have hmem : targets.getD 0 0 + 4096 * k ∈ (List.range 16).map fun j => targets.getD 0 0 + 4096 * j :=
    List.mem_map.2 ⟨k, List.mem_range.2 hk, rfl⟩
  rw [← h.2] at hmem
  exact hmem

theorem take_one_eq {l : List Nat} (h : 0 < l.length) : l.take 1 = [l.getD 0 0] := by
  cases l with
  | nil => cases h
  | cons x rest => rfl

/-- R13 to R17: the operation an allowed command becomes. -/
theorem operationOf_fits {tu : TranslationUnit} {m : Option SlotMap} {staging : StagingState} {c : TakenCommand}
    {targets : List Nat} {inStaging : Bool} (hfit : TableFits tu.table)
    (hm : ∀ x, m = some x → x.Fits ∧ tableGuarded x 0 tu.table = true)
    (h : decideCommand tu m staging c = .allowed targets inStaging) :
    FlightFits m tu.selector (operationOf c targets) := by
  have hkind : c.kind ≠ .chipErase := fun hk => by simp [decideCommand, hk] at h
  have hunits : decideUnits (checkUnit tu m staging c.kind) [] false (unitsOf c) = .allowed targets inStaging := by
    unfold decideCommand at h
    split at h
    · cases h
    · split at h
      · next hd =>
        cases h
        exact hd
      · cases h
  obtain ⟨ps, hps, hall⟩ := decideUnits_targets hunits
  rw [List.nil_append] at hps
  subst hps
  have hclear : ∀ x, m = some x → ∀ p ∈ targets, Clear x tu.selector p (unitSize c.kind) := by
    rintro x rfl p hp
    obtain ⟨hx, hg⟩ := hm x rfl
    obtain ⟨i, hi, rfl⟩ := List.getElem_of_mem hp
    have hi' : i < (unitsOf c).length := by rw [hall.length_eq]; exact hi
    obtain ⟨b, hb⟩ := hall.get hi' hi
    exact unit_clear hx hfit hg (unitsOf_aligned (List.get_mem ..)) hb
  have hlen : targets.length = (unitsOf c).length := hall.length_eq.symm
  unfold operationOf
  cases hk : c.kind with
  | program =>
    rw [hk] at hclear
    exact ⟨by simp [hlen, unitsOf, hk], by simp, hclear⟩
  | sectorErase =>
    rw [hk] at hclear
    exact ⟨by simp [hlen, unitsOf, hk], by simp, hclear⟩
  | chipErase => exact absurd hk hkind
  | blockErase =>
    have h16 : targets.length = 16 := by simp [hlen, unitsOf, hk]
    rw [hk] at hclear
    dsimp only
    split
    · next hblock =>
      refine ⟨by simp [h16], by simp, fun x hx p hp => ?_⟩
      rw [take_one_eq (by omega), List.mem_singleton] at hp
      subst hp
      exact clear_block fun k hk => hclear x hx _ (oneBlock_mem hblock hk)
    · exact ⟨by simp [h16], fun _ => h16, hclear⟩

end Sys2Proof.Machine
end

section
/-! PROOFS. The slot map, the table and the operation in flight stay guarded (R1 to R3, R5, R17, R89). -/

namespace Sys2Proof.Machine

/-! ### The invariant -/

/-- R89: the manifest in hand is one that checks 7 and 8 pass. -/
def ManifestFits (s : State) : Prop :=
  endsOk 0 (manifestRegions (scanManifest s)) = true ∧
    aliasesOk (slotMapOf s) 0 (manifestRegions (scanManifest s)) = true

/-- R94, R100: the scan or the boot scan rests on a manifest past its checks. -/
def pastChecks (s : State) : Prop := s.isc.scan.phase = .segments ∨ passStage s.isc.stage = true

/-- R1 to R3, R5, R17, R89: the table in order, the slot maps valid, and outside BLANK nothing that reaches a guarded
area. -/
structure MapFits (s : State) : Prop where
  table : TableFits s.tu.table
  valid : ∀ m, s.store.slotMap = some m → m.valid = true
  writes : ∀ w ∈ writesInHand s, ∀ m, w.contents = .slotMap m → m.valid = true
  manifest : pastChecks s → ManifestFits s
  guarded : s.store.lifecycle ≠ .blank → tableGuarded (slotMapOf s) 0 s.tu.table = true
  flight : s.store.lifecycle ≠ .blank → ∀ o, s.fp.op = some o → FlightFits s.store.slotMap s.tu.selector o

theorem flightGuarded_iff {s : State} {o : FlightOp} :
    flightGuarded s o = true ↔ FlightFits s.store.slotMap s.tu.selector o := by
  unfold flightGuarded
  simp only [Bool.and_eq_true, Bool.or_eq_true, decide_eq_true_eq, List.all_eq_true, Option.all_eq_true,
    Bool.not_eq_true']
  constructor
  · rintro ⟨⟨hi, hk⟩, hc⟩
    exact ⟨hi, hk.resolve_left ∘ not_not.2, fun x hx p hp => hc p hp x hx⟩
  · rintro ⟨hi, hk, hc⟩
    exact ⟨⟨hi, Decidable.not_or_of_imp hk⟩, fun p hp x hx => hc x hx p hp⟩

theorem mapGuarded_iff {s : State} : tableOk s = true ∧ mapGuarded s = true ↔ MapFits s := by
  rw [tableOk_iff]
  unfold mapGuarded blank
  simp only [Bool.and_eq_true, Bool.or_eq_true, Bool.not_eq_true', Bool.or_eq_false_iff, decide_eq_true_eq,
    decide_eq_false_iff_not, List.all_eq_true, Option.all_eq_true, flightGuarded_iff]
  constructor
  · rintro ⟨ht, ⟨⟨hv, hw⟩, hm⟩, hb⟩
    refine ⟨ht, hv, fun w hmem m he => ?_, fun hp => hm.resolve_left ?_, fun hn => (hb.resolve_left hn).1,
      fun hn => (hb.resolve_left hn).2⟩
    · simpa [he] using hw w hmem
    · rintro ⟨h1, h2⟩
      obtain hp | hp := hp
      · exact h1 hp
      · simp [h2] at hp
  · rintro ⟨ht, hv, hw, hm, hg, hf⟩
    refine ⟨ht, ⟨⟨hv, fun w hmem => ?_⟩, ?_⟩, ?_⟩
    · split
      · next m he => exact hw w hmem m he
      · rfl
    · by_cases hp : pastChecks s
      · exact .inr (hm hp)
      · unfold pastChecks at hp
        rw [not_or] at hp
        exact .inl ⟨hp.1, by simpa using hp.2⟩
    · by_cases hb : s.store.lifecycle = .blank
      · exact .inl hb
      · exact .inr ⟨hg hb, hf hb⟩

/-! ### Steps that change none of it -/

/-- What the invariant rests on: the table stands or is narrowed, the store stands, no invalid slot map is written, the
manifest past its checks is the same or past its own, and the operation goes on. -/
structure SameMap (s t : State) : Prop where
  table : t.tu.table = s.tu.table ∨ ∃ i mask, t.tu.table = narrowTable s.tu.table i mask
  selector : t.tu.selector = s.tu.selector
  store : t.store = s.store
  writes : ∀ v ∈ writesInHand t, v ∈ writesInHand s ∨ ∀ m, v.contents = .slotMap m → m.valid = true
  pass : pastChecks t → (pastChecks s ∧ t.isc.scan.manifest = s.isc.scan.manifest) ∨ ManifestFits t
  op : OpKept s t

theorem OpKept.fits {s t : State} {m : Option SlotMap} {x : Slot} (h : OpKept s t)
    (hs : ∀ o, s.fp.op = some o → FlightFits m x o) {o : FlightOp} (ho : t.fp.op = some o) : FlightFits m x o := by
  obtain ⟨p, hp, hk, ht, hi⟩ := h o ho
  obtain ⟨hidx, hser, hclear⟩ := hs p hp
  refine ⟨?_, by rw [hk, ht]; exact hser, by rw [hk, ht]; exact hclear⟩
  rw [ht]
  obtain hi | ⟨he, hi⟩ := hi
  · rw [hi]
    exact hidx
  · rw [hser (hk ▸ he)]
    omega

theorem MapFits.same {s t : State} (h : MapFits s) (hs : SameMap s t) : MapFits t where
  table := by
    obtain ht | ⟨i, mask, ht⟩ := hs.table
    · rw [ht]; exact h.table
    · rw [ht]; exact h.table.narrow i mask
  valid := by rw [hs.store]; exact h.valid
  writes v hv := (hs.writes v hv).elim (h.writes v) id
  manifest hp := by
    obtain ⟨hp, hm⟩ | hm := hs.pass hp
    · unfold ManifestFits scanManifest slotMapOf
      rw [hm, hs.store]
      exact h.manifest hp
    · exact hm
  guarded := by
    unfold slotMapOf
    rw [hs.store]
    intro hb
    obtain ht | ⟨i, mask, ht⟩ := hs.table
    · rw [ht]; exact h.guarded hb
    · rw [ht, tableGuarded_narrow]; exact h.guarded hb
  flight := by
    rw [hs.store, hs.selector]
    exact fun hb o ho => hs.op.fits (h.flight hb) ho

theorem SameMap.of_eq {s t : State} (tu : t.tu = s.tu) (store : t.store = s.store) (writes : t.writes = s.writes)
    (scan : t.isc.scan = s.isc.scan) (stage : t.isc.stage = s.isc.stage) (op : t.fp.op = s.fp.op) : SameMap s t where
  table := .inl (by rw [tu])
  selector := by rw [tu]
  store := store
  writes v hv := .inl (by rw [writesInHand_congr writes] at hv; exact hv)
  pass hp := .inl ⟨by unfold pastChecks at hp ⊢; rw [scan, stage] at hp; exact hp, by rw [scan]⟩
  op := .of_eq op

theorem Quiet.map {s t : State} (h : Quiet s t) : SameMap s t where
  table := .inl (by rw [h.tu])
  selector := by rw [h.tu]
  store := h.store
  writes v hv := .inl (by rw [writesInHand_congr h.writes] at hv; exact hv)
  pass hp := .inl ⟨by unfold pastChecks at hp ⊢; rw [h.isc] at hp; exact hp, by rw [h.isc]⟩
  op := h.op

theorem SameMap.trans {s t u : State} (h₁ : SameMap s t) (htu : u.tu = t.tu) (hs : u.store = t.store)
    (hw : ∀ v ∈ writesInHand u, v ∈ writesInHand t ∨ ∀ m, v.contents = .slotMap m → m.valid = true)
    (hscan : u.isc = t.isc) (hop : u.fp.op = t.fp.op) : SameMap s u where
  table := by rw [htu]; exact h₁.table
  selector := by rw [htu]; exact h₁.selector
  store := hs.trans h₁.store
  writes v hv := (hw v hv).elim (h₁.writes v) .inr
  pass hp := by
    have := h₁.pass (by unfold pastChecks at hp ⊢; rw [hscan] at hp; exact hp)
    unfold ManifestFits scanManifest slotMapOf at *
    rw [hscan, hs]
    exact this
  op := h₁.op.trans (.of_eq hop)

theorem ChannelOnly.map {s u t : State} (h : ChannelOnly u t) (hu : SameMap s u) : SameMap s t := by
  refine hu.trans ?_ ?_ (fun v hv => .inl ?_) ?_ ?_
  case refine_3 => rw [h] at hv; exact hv
  all_goals rw [h]

theorem SameMap.refl (s : State) : SameMap s s := .of_eq rfl rfl rfl rfl rfl rfl

/-! ### The channel -/

theorem askWrite_map {who : Requester} {w : StoreWrite} {s : State} (hw : ∀ m, w = .slotMap m → m.valid = true) :
    ∀ v ∈ writesInHand (askWrite who w s), v ∈ writesInHand s ∨ ∀ m, v.contents = .slotMap m → m.valid = true := by
  intro v hv
  obtain rfl | hv := mem_askWrite hv
  · exact .inr hw
  · exact .inl hv

theorem channelWrite_map {s : State} {job : Job} {w : StoreWrite} (h : ChannelWrite s job w) (m : SlotMap)
    (hm : w = .slotMap m) : m.valid = true := by
  subst hm
  cases h with
  | slotMap r hb hv => exact hv

theorem channelStep_map {s t : State} (hboot : BootOk s) (hstep : ChannelStep s t) : SameMap s t := by
  cases hstep with
  | own ho hj => exact ho.map (.refl s)
  | cleared ho hj => exact ho.map ⟨.inl rfl, rfl, rfl, fun v hv => .inl hv, fun hp => .inl ⟨hp, rfl⟩, .of_eq rfl⟩
  | narrowed i mask ho hj =>
    exact ho.map ⟨.inr ⟨i, mask, rfl⟩, rfl, rfl, fun v hv => .inl hv, fun hp => .inl ⟨hp, rfl⟩, .of_eq rfl⟩
  | opened hr hs ho hj => exact ho.map (.of_eq rfl rfl rfl rfl rfl rfl)
  | closed hs ho hj => exact ho.map (.of_eq rfl rfl rfl rfl rfl rfl)
  | abandoned hs ho hj =>
    refine ho.map ⟨.inl rfl, rfl, rfl, fun v hv => .inl hv, fun hp => .inl ⟨.inr ?_, rfl⟩, .of_eq rfl⟩
    exact hp.resolve_left (by simp)
  | verifying hb hr hs ho hj =>
    refine ho.map ⟨.inl rfl, rfl, rfl, fun v hv => .inl hv, fun hp => ?_, .of_eq rfl⟩
    obtain hp | hp := hp
    · cases hp
    · have hp' : passStage s.isc.stage = true := hp
      simp [hboot.scan.released hr, passStage] at hp'
  | restart floor hj hv => exact .of_eq rfl rfl rfl rfl rfl rfl
  | write ho hj hw =>
    exact (ho.map (.refl s)).trans (by simp) (by simp) (askWrite_map (channelWrite_map hw)) (by simp) (by simp)
  | commit r attempts hb hs hactive ha =>
    refine SameMap.trans (t := { s with isc.staging.state := .closed }) (.of_eq rfl rfl rfl rfl rfl rfl) ?_ ?_
      (askWrite_map (by simp)) ?_ ?_ <;> simp
  | extend hk hk' hd hu =>
    obtain ⟨-, rfl⟩ := beginExtend_next hu
    exact .of_eq (by simp) (by simp) (by simp) (by simp) (by simp) (by simp)

theorem channelSteps_map {s t : State} (h : MapFits s) (hboot : BootOk s) (hsteps : ChannelSteps s t) : MapFits t := by
  obtain ⟨u, v, hu, hstep, hv⟩ := hsteps
  exact ((h.same hu.map).same (channelStep_map (hboot.quiet hu) hstep)).same hv.map

/-! ### The boot scan -/

/-- R3, R103: a table is installed with the release of SOC_RUN. -/
theorem release_map {s : State} (h : MapFits s) (hi : BootIdle s) (hop : s.fp.op = none) (record : BootRecord)
    {table : List Region} (x : Slot) (ht : TableFits table)
    (hg : s.store.lifecycle ≠ .blank → tableGuarded (slotMapOf s) 0 table = true) :
    MapFits (release record (installTable table x s)) := by
  have hstage : (release record (installTable table x s)).isc.stage = .released := by
    unfold release
    dsimp only
    split <;> rfl
  have htable : (release record (installTable table x s)).tu.table = table := by simp
  have hstore : (release record (installTable table x s)).store = s.store := by simp
  have hrest := hi.rest
  refine ⟨by rw [htable]; exact ht, by rw [hstore]; exact h.valid, fun w hw => h.writes w ?_, fun hp => ?_, ?_, fun _ o ho => ?_⟩
  · rw [writesInHand_congr (s := s) (by simp)] at hw
    exact hw
  · unfold pastChecks at hp
    rw [hstage] at hp
    obtain hp | hp := hp
    · rw [show (release record (installTable table x s)).isc.scan = s.isc.scan by simp] at hp
      simp [scanAtRest, hp] at hrest
    · cases hp
  · unfold slotMapOf
    rw [hstore, htable]
    exact hg
  · rw [show (release record (installTable table x s)).fp.op = s.fp.op by simp, hop] at ho
    cases ho

theorem enterRecovery_map {s : State} (h : MapFits s) (hi : BootIdle s) (hop : s.fp.op = none) :
    MapFits (enterRecovery s) := by
  unfold enterRecovery
  refine release_map h hi hop _ _ ?_ fun _ => ?_
  · cases hm : s.store.slotMap with
    | none => exact heldTable_fits
    | some m => exact recoveryTable_fits (SlotMap.fits (h.valid m hm))
  · cases hm : s.store.slotMap with
    | none => exact heldTable_guarded _
    | some m => simpa [slotMapOf, hm] using recoveryTable_guarded m

theorem finishPass_map {s : State} (h : MapFits s) (hi : BootIdle s) (hop : s.fp.op = none) (hm : ManifestFits s) :
    MapFits (finishPass s) := by
  unfold finishPass
  exact release_map h hi hop _ _ (manifestTable_fits hm.1) fun _ => tableGuarded_installed hm.2

theorem ManifestFits.of_eq {s t : State} (h : ManifestFits s) (hm : t.isc.scan.manifest = s.isc.scan.manifest)
    (hs : t.store = s.store) : ManifestFits t := by
  unfold ManifestFits scanManifest slotMapOf at *
  rw [hm, hs]
  exact h

/-- Between two scans the boot scan moves on to a stage, past the checks only where the manifest in hand is. -/
theorem SameMap.staged {s t : State} (hi : BootIdle s) (hm : passStage t.isc.stage = true → ManifestFits s)
    (tu : t.tu = s.tu) (store : t.store = s.store)
    (writes : ∀ v ∈ writesInHand t, v ∈ writesInHand s ∨ ∀ m, v.contents = .slotMap m → m.valid = true)
    (scan : t.isc.scan = s.isc.scan) (op : t.fp.op = s.fp.op) : SameMap s t where
  table := .inl (by rw [tu])
  selector := by rw [tu]
  store := store
  writes := writes
  pass hp := .inr <| by
    obtain hp | hp := hp
    · have hr := hi.rest
      rw [scan] at hp
      simp [scanAtRest, hp] at hr
    · exact (hm hp).of_eq (by rw [scan]) store
  op := .of_eq op

theorem bootStep_map {passed sound : Prop} {s t : State} (h : MapFits s) (hi : BootIdle s) (hop : s.fp.op = none)
    (hm : passed → ManifestFits s) (hstep : BootStep passed sound s t) : MapFits t := by
  cases hstep with
  | stood => exact h
  | begun x bootX fallback trial =>
    refine h.same ⟨.inl rfl, rfl, rfl, fun v hv => .inl hv, fun hp => ?_, .of_eq rfl⟩
    obtain hp | hp := hp <;> cases hp
  | revertEvent input =>
    refine h.same (.staged hi (fun hp => ?_) rfl rfl (fun v hv => .inl hv) rfl rfl)
    cases hp
  | asked r stage bootX fallback trial hw hp =>
    refine h.same (.staged hi (fun hs => hm (hp (by simpa using hs))) (by simp) (by simp) ?_ (by simp) (by simp))
    exact askWrite_map (w := .slotRecord r) (by simp)
  | extending stage hl hstage hd hp hu =>
    obtain ⟨-, rfl⟩ := beginExtend_next hu
    refine h.same (.staged hi (fun hs => hm (hp hs)) (by simp) (by simp) (fun v hv => .inl ?_) (by simp) (by simp))
    rw [writesInHand_congr (s := s) (by simp)] at hv
    exact hv
  | recovered => exact enterRecovery_map h hi hop
  | released hp => exact finishPass_map h hi hop (hm hp)

/-! ### A scan in hand -/

theorem tableChecks_manifest {floor : Option Word32} {sm : SlotMap} {m : Bytes} (h : tableChecks floor sm m = none) :
    endsOk 0 (manifestRegions m) = true ∧ aliasesOk sm 0 (manifestRegions m) = true := by
  unfold tableChecks at h
  split at h
  · cases h
  · split at h
    · cases h
    · next he =>
      split at h
      · cases h
      · next ha => exact ⟨by simpa using he, by simpa using ha⟩

/-- A scan that goes on or ends before its checks, outside the passes of the boot scan. -/
theorem SameMap.scanning {s t : State} (tu : t.tu = s.tu) (store : t.store = s.store) (writes : t.writes = s.writes)
    (pass : pastChecks t → ManifestFits t) (op : t.fp.op = s.fp.op) : SameMap s t where
  table := .inl (by rw [tu])
  selector := by rw [tu]
  store := store
  writes v hv := .inl (by rw [writesInHand_congr writes] at hv; exact hv)
  pass hp := .inr (pass hp)
  op := .of_eq op

theorem scanStep_map {p : ScanPhase} {sound : Prop} {s t : State} (h : MapFits s) (hboot : BootOk s)
    (hp : s.isc.scan.phase = p) (hstep : ScanStep p sound s t) : MapFits t := by
  have busy : ∀ {q}, p = q → scanBusy q → passStage s.isc.stage = false := fun hq hb =>
    (hboot.busy (by rw [hp, hq]; exact hb)).2.2
  cases hstep with
  | stood => exact h
  | slotFilled bytes => exact h.same (.of_eq rfl rfl rfl rfl rfl rfl)
  | manifestTaken bytes key hq =>
    refine h.same (.scanning rfl rfl rfl (fun hpast => ?_) rfl)
    obtain hpast | hpast := hpast
    · cases hpast
    · cases (busy hq ⟨by decide, by decide⟩).symm.trans hpast
  | verifyPlaced digest op hq hn =>
    refine h.same (.scanning rfl rfl rfl (fun hpast => ?_) rfl)
    obtain hpast | hpast := hpast
    · cases hpast
    · cases (busy hq ⟨by decide, by decide⟩).symm.trans hpast
  | segmentBegun k total digests hd hq =>
    refine h.same (.scanning (by simp [beginSegment]) (by simp [beginSegment]) (by simp [beginSegment]) (fun _ => ?_) (by simp [beginSegment]))
    have hm : ManifestFits s := by
      obtain hq | ⟨hq, hc⟩ := hq
      · exact h.manifest (.inl (hp.trans hq))
      · exact tableChecks_manifest hc
    exact hm.of_eq rfl (by simp [beginSegment])
  | stagedFailed reason k manifest hn ho =>
    refine h.same (.scanning rfl rfl rfl (fun hpast => ?_) rfl)
    obtain hpast | hpast := hpast
    · cases hpast
    · cases (busy rfl hn.busy).symm.trans hpast
  | bootFailed reason k manifest hn ho =>
    refine h.same (.scanning rfl rfl rfl (fun hpast => ?_) rfl)
    obtain hpast | hpast := hpast <;> cases hpast
  | stagedPassed digest hd hn ho hq =>
    refine h.same (.scanning rfl rfl rfl (fun hpast => ?_) rfl)
    obtain hpast | hpast := hpast
    · cases hpast
    · cases (busy hq ⟨by decide, by decide⟩).symm.trans hpast
  | bootPassed digest hd hn ho hq =>
    have hb : scanBusy s.isc.scan.phase := by rw [hp, hq]; exact ⟨by decide, by decide⟩
    obtain ⟨hprep, hslot, hpass⟩ := hboot.busy hb
    have hrun := hboot.bootOwned hb ho
    have hm := h.manifest (.inl (hp.trans hq))
    refine bootStep_map (passed := True) (sound := True) (s := { s with
          isc.scan.segmentDigests := s.isc.scan.segmentDigests ++ [digest]
          isc.scan.phase := .ended
          isc.scan.result := some .pass }) ?_ ⟨hrun, hprep, hn, rfl, hslot⟩ (hboot.frame.held hrun).2
      (fun _ => hm.of_eq rfl rfl) (bootStep_bootPassed trivial _)
    refine h.same (.scanning rfl rfl rfl (fun hpast => ?_) rfl)
    obtain hpast | hpast := hpast
    · cases hpast
    · cases hpass.symm.trans hpast

/-! ### Writes and resets -/

theorem apply_slotMap {t : Store} {w : StoreWrite} (h : w.ofSlotMap = false) : (t.apply w).slotMap = t.slotMap := by
  cases w <;> simp_all [Store.apply, StoreWrite.ofSlotMap]

theorem valid_apply {s : State} {w : PendingWrite} (h : MapFits s) (hw : w ∈ writesInHand s) (m : SlotMap)
    (hm : (s.store.apply w.contents).slotMap = some m) : m.valid = true := by
  cases hc : w.contents.ofSlotMap with
  | false =>
    rw [apply_slotMap hc] at hm
    exact h.valid m hm
  | true =>
    unfold StoreWrite.ofSlotMap at hc
    split at hc
    · next x hx =>
      rw [hx] at hm
      cases hm
      exact h.writes w hw m hx
    · cases hc

/-- R5, R148: a write has taken effect, and the rest of the part stands. -/
theorem MapFits.applied {s t : State} {w : PendingWrite} (h : MapFits s) (hboot : BootOk s) (hbooks : BlankBooks s)
    (hrest : BlankRest s) (hw : s.writes.current = some w) (hs : t.store = s.store.apply w.contents)
    (hwrites : ∀ v ∈ writesInHand t, v ∈ writesInHand s) (htu : t.tu = s.tu) (hisc : t.isc = s.isc)
    (hop : t.fp.op = s.fp.op) : MapFits t := by
  have hmem : w ∈ writesInHand s := by simp [writesInHand, hw]
  have hkept : s.store.lifecycle ≠ .blank → t.store.slotMap = s.store.slotMap := fun hb => by
    rw [hs, apply_slotMap (hbooks.slotMap hb w hmem)]
  have hheld : s.store.lifecycle = .blank → t.store.lifecycle ≠ .blank → s.tu.table = heldTable ∧ s.fp.op = none := by
    intro hb hn
    have hp : w.contents.ofProvisioning = true := by
      by_contra hp
      exact hn (hs ▸ apply_blank hb (by simpa using hp) (hbooks.owned hb w hmem))
    have hprep := (hboot.frame.reset w hw (hbooks.provisioning w hmem hp)).1
    exact hboot.frame.held (hboot.frame.prep (by simp [hprep])).1
  refine ⟨htu ▸ h.table, fun m hm => valid_apply h hmem m (hs ▸ hm), fun v hv => h.writes v (hwrites v hv),
    fun hp => ?_, fun hn => ?_, fun hn o ho => ?_⟩
  · have hps : pastChecks s := by
      unfold pastChecks at *
      rw [hisc] at hp
      exact hp
    have hb : s.store.lifecycle ≠ .blank := fun hb => by
      obtain ⟨hr, -, hst⟩ := hrest hb
      obtain hps | hps := hps
      · simp [scanAtRest, hps] at hr
      · obtain hst | hst := hst <;> simp [hst, passStage] at hps
    have hm := h.manifest hps
    unfold ManifestFits scanManifest slotMapOf at *
    rw [hisc, hkept hb]
    exact hm
  · rw [htu]
    by_cases hb : s.store.lifecycle = .blank
    · rw [(hheld hb hn).1]
      exact heldTable_guarded _
    · unfold slotMapOf
      rw [hkept hb]
      exact h.guarded hb
  · rw [htu]
    rw [hop] at ho
    by_cases hb : s.store.lifecycle = .blank
    · cases (hheld hb hn).2.symm.trans ho
    · rw [hkept hb]
      exact h.flight hb o ho

theorem writeDone_map {s : State} {w : PendingWrite} (h : MapFits s) (hboot : BootOk s) (hbooks : BlankBooks s)
    (hrest : BlankRest s) (hw : s.writes.current = some w) : MapFits (writeDone w s) :=
  h.applied hboot hbooks hrest hw rfl (fun v hv => by simp [writesInHand, mem_writeDone hv]) rfl rfl rfl

/-- A part with its reset values: the held table, nothing in flight and no scan. -/
theorem MapFits.reset {t : State} (hv : ∀ m, t.store.slotMap = some m → m.valid = true)
    (hw : ∀ w ∈ writesInHand t, ∀ m, w.contents = .slotMap m → m.valid = true) (ht : t.tu = .afterReset)
    (hi : t.isc = .afterReset) (hop : t.fp.op = none) : MapFits t := by
  refine ⟨ht ▸ heldTable_fits, hv, hw, fun hp => ?_, fun _ => ht ▸ heldTable_guarded _, fun _ o ho => ?_⟩
  · unfold pastChecks at hp
    rw [hi] at hp
    obtain hp | hp := hp <;> cases hp
  · cases hop.symm.trans ho

/-! ### Every event -/

theorem makeStale_map (s : State) : SameMap s (makeStale s) := by
  unfold makeStale
  split
  · refine ⟨.inl rfl, rfl, rfl, fun v hv => .inl hv, fun hp => .inl ⟨.inr (hp.resolve_left (by simp [setScanDone])), rfl⟩, .of_eq rfl⟩
  · exact .refl s

/-- R13 to R17: the operation of an allowed command keeps clear of what R17 guards. -/
theorem allowed_map {s : State} (h : MapFits s) (c : TakenCommand) (targets : List Nat) (inStaging : Bool)
    (hd : decideCommand s.tu s.store.slotMap s.isc.staging.state c = .allowed targets inStaging) :
    MapFits (allowCommand c targets inStaging s) := by
  have hplaced : ∀ {u : State}, MapFits u → u.store = s.store → u.tu = s.tu →
      MapFits { u with bp.writeRecord := .inFlight, bp.wel := false, fp.op := some (operationOf c targets) } := by
    intro u hu hs htu
    refine ⟨hu.table, hu.valid, hu.writes, hu.manifest, hu.guarded, fun hb o ho => ?_⟩
    cases ho
    refine operationOf_fits hu.table (fun x hx => ⟨SlotMap.fits (hu.valid x hx), ?_⟩) (hs ▸ htu ▸ hd)
    have hg := hu.guarded hb
    rwa [slotMapOf, hx] at hg
  unfold allowCommand
  dsimp only
  split
  · exact hplaced (h.same (makeStale_map s)) (by simp) (by simp)
  · exact hplaced h rfl rfl

theorem refused_map (s : State) (c : TakenCommand) (address : LogicalAddress) (reason : RefusalReason) :
    SameMap s (refuseCommand c address reason s) := by
  refine ⟨.inl (enterRefusal_table ..), ?_, rfl, fun v hv => .inl hv, fun hp => .inl ⟨hp, rfl⟩, .of_eq rfl⟩
  show (enterRefusal s.tu address c.kind reason).selector = s.tu.selector
  unfold enterRefusal
  (repeat' split) <;> rfl

theorem MapFits.resetWork {s : State} (h : MapFits s) : MapFits (beginResetWork s) := by
  unfold beginResetWork
  split
  · refine h.same ⟨.inl rfl, rfl, rfl, fun v hv => .inr ?_, fun hp => .inl ⟨hp, rfl⟩, .of_eq rfl⟩
    simp only [writesInHand, beginResetWrite_writes] at hv
    cases List.mem_singleton.1 hv
    simp
  · exact h.same (.of_eq rfl rfl rfl rfl rfl rfl)

theorem hardReset_map {s : State} (h : MapFits s) (low : Bool) : MapFits { hardReset s with rstLow := low } := by
  refine .reset (fun m hm => ?_) (fun w hw => by cases hw) rfl rfl rfl
  obtain hs | ⟨w, hw, hs⟩ := hardReset_store s
  · exact h.valid m (hs ▸ hm)
  · exact valid_apply h (by simp [writesInHand, hw]) m (hs ▸ hm)

theorem captured_map {s : State} (h : MapFits s) (hboot : BootOk s) (hp : s.fp.prep = .identifying)
    (manufacturer type : Byte) :
    MapFits (beginBoot { s with bp.idManufacturer := manufacturer, bp.idType := type, fp.prep := .ready }) := by
  have hready : s.fp.prep ≠ .ready := by simp [hp]
  obtain ⟨hrun, hslot⟩ := hboot.frame.prep hready
  obtain ⟨hitem, hrest⟩ := hboot.scan.prep hready
  have hop := (hboot.frame.held hrun).2
  have hidle : BootIdle { s with bp.idManufacturer := manufacturer, bp.idType := type, fp.prep := .ready } :=
    ⟨hrun, rfl, hitem, hrest, hslot⟩
  have hfits : MapFits { s with bp.idManufacturer := manufacturer, bp.idType := type, fp.prep := .ready } :=
    h.same (.of_eq rfl rfl rfl rfl rfl rfl)
  unfold beginBoot
  split
  · next hb => exact release_map hfits hidle hop _ _ identityTable_fits fun hn => absurd hb hn
  · exact bootStep_map (passed := False) (sound := True) hfits hidle hop False.elim (bootStep_bootFirstStep _)

/-- The boot scan's next step, with the scan place just emptied. -/
theorem itemDone_map {s : State} (h : MapFits s) : MapFits (scanItemDone s) := h.same (.of_eq rfl rfl rfl rfl rfl rfl)

theorem move_map {s t : State} (h : MapFits s) (hboot : BootOk s) (hbooks : BlankBooks s) (hrest : BlankRest s)
    (hm : Move s t) : MapFits t := by
  have hsame : ∀ {u : State}, u.tu = s.tu → u.store = s.store → u.writes = s.writes → u.isc = s.isc → u.fp.op = s.fp.op →
      MapFits u := fun htu hs hw hi ho => h.same (.of_eq htu hs hw (by rw [hi]) (by rw [hi]) ho)
  have hop : ∀ {i}, s.de.scan = some i →
      (i.work = .bootExtend ∨ i.work = .scanFailureEvent ∨ i.work = .trialRevertEvent) → s.fp.op = none := fun hi hw =>
    (hboot.frame.held (hboot.eventIdle hi hw).run).2
  cases hm with
  | stood => exact h
  | posted kept hl hidle hs =>
    exact channelSteps_map (s := acceptPost kept s) (hsame rfl rfl rfl rfl rfl) (hboot.posted kept hl hidle) hs
  | allowed c targets inStaging hd => exact allowed_map h c targets inStaging hd
  | refused c address reason => exact h.same (refused_map s c address reason)
  | scan hp hs => exact scanStep_map h hboot hp hs
  | scanAbsorbed absorbing hi hl => exact hsame rfl rfl rfl rfl rfl
  | scanDigested hi hw hs => 
    have hf := hboot.scan.item _ hi
    unfold scanItemFits at hf
    refine scanStep_map (itemDone_map h) hboot.itemDone (show s.isc.scan.phase = _ from ?_) hs
    obtain ⟨hw, rfl⟩ | ⟨hw, rfl⟩ := hw <;> simpa [hw] using hf
  | failureDigested hi hw =>
    exact bootStep_map (passed := False) (itemDone_map h) (hboot.eventIdle hi (.inr (.inl hw)))
      (hop hi (.inr (.inl hw))) False.elim (bootStep_failureDigested (sound := False) False.elim _)
  | revertDigested hi hw =>
    exact bootStep_map (passed := False) (itemDone_map h) (hboot.eventIdle hi (.inr (.inr hw)))
      (hop hi (.inr (.inr hw))) False.elim (bootStep_revertDigested (sound := False) False.elim _)
  | @bootFolded i hi hw hl =>
    obtain he | ⟨lane, -, hs⟩ := bootFolded_cases False (shaOutput i.absorbed.running) (scanItemDone s)
    · rw [he]
      exact itemDone_map h
    · obtain ⟨hidle, -⟩ :=
        BootOk.extendCompleted lane (shaOutput i.absorbed.running) (hboot.eventIdle hi (.inl hw)) hboot.itemDone.frame
      refine bootStep_map (s := completeExtend lane (shaOutput i.absorbed.running) (scanItemDone s)) ((itemDone_map h).same (.of_eq rfl rfl rfl rfl rfl rfl)) hidle (hop hi (.inl hw))
        (fun hp => (h.manifest (.inr hp)).of_eq rfl rfl) hs
  | itemDropped hi hw => exact hsame rfl rfl rfl rfl rfl
  | channelAbsorbed hi hl => exact hsame rfl rfl rfl rfl rfl
  | channelDigested hj hs =>
    refine channelSteps_map (s := channelItemDone s) (hsame rfl rfl rfl rfl rfl) ?_ hs
    exact hboot.itemKept ⟨rfl, rfl, rfl, rfl, fun _ => id⟩ rfl (.of_eq rfl rfl rfl rfl rfl)
  | channelItemDropped hf => exact hsame rfl rfl rfl rfl rfl
  | laneFolded hk hi hl => exact hsame rfl rfl rfl rfl rfl
  | channelSigned hj hs => exact channelSteps_map h hboot hs
  | writtenDue hw hdue =>
    refine h.applied hboot hbooks hrest hw rfl (fun v hv => ?_) rfl rfl rfl
    simp only [writesInHand, Option.toList_none, List.nil_append] at hv
    simp [writesInHand, hv]
  | @channelWritten w hw hr =>
    exact channelSteps_map (writeDone_map h hboot hbooks hrest hw) (hboot.writeDone hw) (steps_channelWriteEnded _)
  | @slotWritten w hw hr =>
    have hd := writeDone_map h hboot hbooks hrest hw
    have hi := hboot.slotWriteDone hw hr
    exact bootStep_map hd hi (hboot.frame.held hi.run).2 (fun hp => hd.manifest (.inr hp)) (bootStep_bootWriteEnded True _)
  | @resetWritten w hw hr =>
    exact (writeDone_map h hboot hbooks hrest hw).same (.of_eq rfl rfl rfl rfl rfl rfl)
  | recoveryEnded hp => exact hsame rfl rfl rfl rfl rfl
  | captured a b hp => exact captured_map h hboot hp _ _
  | hardReset low work hlow =>
    split
    · exact (hardReset_map h low).resetWork
    · exact hardReset_map h low
  | released hl =>
    exact MapFits.resetWork (hsame rfl rfl rfl rfl rfl)
  | restarted floor hj hdue => 
    unfold restartWork
    split
    · refine .reset h.valid (fun w hw => ?_) rfl rfl rfl
      simp only [writesInHand, beginResetWrite_writes] at hw
      cases List.mem_singleton.1 hw
      simp
    · exact .reset h.valid (fun w hw => by cases hw) rfl rfl rfl

theorem step_map {s t : State} (h : MapFits s) (hboot : BootOk s) (hb : BlankBooks s ∧ BlankRest s)
    (hstep : step s = .next t) : MapFits t := by
  obtain ⟨u, v, hu, hm, hv⟩ := step_moves hstep
  exact (move_map (h.same hu.map) (hboot.quiet hu) (hb.1.of_same hu.books)
    (hb.2.of_same (by rw [hu.store]; exact id) hu.scan) hm).same hv.map

end Sys2Proof.Machine
end

section
/-! PROOFS. R1 to R3, R17: the table in order, and what no step reaches. -/

namespace Sys2Proof.Machine

theorem mapGuarded_flight {s : State} (h : mapGuarded s = true) (hb : s.store.lifecycle ≠ .blank) {o : FlightOp}
    (ho : s.fp.op = some o) : FlightFits s.store.slotMap s.tu.selector o := by
  unfold mapGuarded blank at h
  simp only [Bool.and_eq_true, Bool.or_eq_true, decide_eq_true_eq, Option.all_eq_true] at h
  exact flightGuarded_iff.1 ((h.2.resolve_left hb).2 o ho)

theorem FlightOp.target_mem {o : FlightOp} (h : o.index < o.targets.length) : o.target ∈ o.targets := by
  unfold FlightOp.target
  rw [List.getD_eq_getElem _ _ h]
  exact List.getElem_mem h

/-- R17: what an operation has in hand lies outside the live-selector slot and the recovery area. -/
theorem protectedAddress_clear {s : State} {o : FlightOp} {p : Nat} (h : FlightFits s.store.slotMap s.tu.selector o)
    (hp : inHand o p = true) : protectedAddress s p = false := by
  by_contra hpr
  simp only [protectedAddress, Bool.not_eq_false, Option.any_eq_true, Bool.or_eq_true, Bool.and_eq_true,
    decide_eq_true_eq] at hpr
  simp only [inHand, Bool.and_eq_true, decide_eq_true_eq] at hp
  obtain ⟨m, hm, hin⟩ := hpr
  have hlen : 0 < commandLength o.kind := by cases o.kind <;> decide
  obtain ⟨hslot, hrec⟩ := h.clear m hm _ (FlightOp.target_mem h.index)
  rw [overlap_false hlen] at hslot hrec
  omega

end Sys2Proof.Machine

namespace Sys2Proof.StoreInvariants

open Sys2Proof Sys2Proof.Machine

/-- Settles O6: the invariants of the boot, of BLANK and of the map are kept event by event; a changed byte lies in the
command in hand, which R17's guard keeps clear of the two areas. -/
theorem liveRightsStayWithinGranted : Obligations.LiveRightsStayWithinGranted := by
  unfold Obligations.LiveRightsStayWithinGranted
  refine ⟨fun s t htable hboot hblank hmap hstep => ?_, fun s t p hmap hb hstep hp => ?_⟩
  · have hb := bootOk_iff.1 hboot
    have hbl := blankOk_iff.1 hblank
    obtain ⟨ht, hm⟩ := mapGuarded_iff.2 (step_map (mapGuarded_iff.1 ⟨htable, hmap⟩) hb hbl hstep)
    exact ⟨ht, bootOk_iff.2 (step_bootOk hb hstep), blankOk_iff.2 (step_blankOk hbl hb hstep), hm⟩
  · by_contra hne
    obtain ⟨o, ho, hin, -⟩ := FlashBehind.flashChangesOnlyInHand s t p hstep hne
    have := protectedAddress_clear (mapGuarded_flight hmap hb ho) hin
    simp [hp] at this

end Sys2Proof.StoreInvariants
end

section
/-! PROOFS. The Protected Store changes by whole writes alone (R148, R149). -/

namespace Sys2Proof.Machine

/-- The end of a SIGN or GENERATE works in the channel and the books of writes alone. -/
@[simp] theorem channelSignature_frame (op : SigOp) (s : State) :
    (channelSignature op s).store = s.store ∧ (channelSignature op s).tu = s.tu ∧
      (channelSignature op s).isc = s.isc ∧ (channelSignature op s).lanes = s.lanes ∧
      (channelSignature op s).socRun = s.socRun := by
  unfold channelSignature quoteSigned
  split
  · simp
  · dsimp only
    split
    · simp
    · split <;> simp [respond]
  · simp

@[simp] theorem signatureCompletion_store (s : State) : (signatureCompletion s).store = s.store := by
  obtain h | ⟨v, -, -, h⟩ | ⟨c, -, -, h⟩ := signatureCompletion_cases s <;> rw [h]
  · simp
  · simp

theorem received_store {dispatch : State → State} {u t : State} (hd : ∀ v, (dispatch v).store = v.store)
    (h : Received dispatch u t) : t.store = u.store := by
  cases h with
  | dropped => rfl
  | badFrame kept hidle => rfl
  | taken kept hidle => exact hd _

theorem posted_store {dispatch : State → State} {s t : State} (hd : ∀ v, (dispatch v).store = v.store)
    (h : Posted dispatch s t) : t.store = s.store := by
  cases h with
  | held => rfl
  | ended => simp
  | received hl h => exact (received_store hd h).trans (quiet_postBegun s).store

theorem requestCommand_store (r : Request) (proof : Option Bytes) (body : Bytes) (s : State) :
    (requestCommand r (takeRequest r) proof body s).store = s.store := by
  obtain ⟨-, h⟩ | h := requestCommand_cases r (takeRequest r) proof body s
  · exact (received_store (fun v => by cases r <;> simp [takeRequest]) h).trans rfl
  · exact posted_store (fun v => by cases r <;> simp [takeRequest]) h

/-- R148, R149: the end of a write and the two hard resets alone touch the store. -/
theorem effect_store {c : Instr} {s t : State} (h : Effect s c t) :
    t.store = s.store ∨ c = .storeWriteEnd ∨ c = .powerOn ∨ c = .pinReset := by
  cases h with
  | request r proof body => exact .inl (requestCommand_store r proof body s)
  | read => exact .inl (quiet_readCommand ..).store
  | @bus c b clocks reply hc hb =>
    refine .inl ?_
    by_cases hpost : b = .managementPost
    · subst hpost
      exact posted_store (fun v => by simp) (posted_managementPost clocks s)
    · exact (quiet_busCommand hpost clocks reply s).store
  | status n => exact .inl (quiet_readStatus n s).store
  | id n => exact .inl (quiet_readId n s).store
  | fetch n => exact .inl (quiet_managementFetch n s).store
  | ignored => exact .inl (quiet_wholeTransaction (fun u => .refl u) s).store
  | powerOn => exact .inr (.inr (.inl rfl))
  | pinReset => exact .inr (.inr (.inr rfl))
  | rstNRelease =>
    refine .inl ?_
    split <;> simp
  | restartReset => exact .inl (by simp)
  | recoveryEnd => exact .inl (unlessRestartDue_keeps (·.store) (s := freshPort s) (by simp))
  | capture a b => exact .inl (unlessRestartDue_keeps (·.store) (s := freshPort s) (by simp))
  | readEnd n reply => exact .inl ((quiet_readTransactionEnd n reply _).store.trans rfl)
  | verdict => exact .inl (unlessRestartDue_keeps (·.store) (s := freshPort s) (by simp))
  | completion => exact .inl (by simp)
  | timeout => exact .inl (by simp)
  | fetchReport n => exact .inl (by simp)
  | delivery => exact .inl (unlessRestartDue_keeps (·.store) (s := freshPort s) (by simp))
  | chunkEnd => exact .inl (unlessRestartDue_keeps (·.store) (s := freshPort s) (by simp))
  | signature => exact .inl (unlessRestartDue_keeps (·.store) (s := freshPort s) (by simp))
  | writeEnd => exact .inr (.inl rfl)
  | expiry => exact .inl (by simp)

/-- R148: at the end of the write in progress its records are written. -/
theorem storeWriteEnd_store {s : State} {w : PendingWrite} (h : s.writes.current = some w) :
    (storeWriteEnd s).store = s.store.apply w.contents := by
  unfold storeWriteEnd
  rw [h]
  dsimp only
  split <;> simp

theorem storeWriteEnd_none {s : State} (h : s.writes.current = none) : storeWriteEnd s = s := by
  unfold storeWriteEnd
  rw [h]

theorem hardReset_ends {s t : State} {c : Instr} (h : t.store = (hardReset s).store) (hc : c = .powerOn ∨ c = .pinReset) :
    t.store = s.store ∨ ∃ w, s.writes.current = some w ∧ t.store = s.store.apply w.contents ∧
      (c = .storeWriteEnd ∨ c = .powerOn ∨ c = .pinReset) := by
  rw [h]
  obtain hs | ⟨w, hw, hs⟩ := hardReset_store s
  · exact .inl hs
  · exact .inr ⟨w, hw, hs, .inr hc⟩

/-- R148, R149: a command leaves the store as it is, or with the whole write in progress. -/
theorem exec_store {c : Instr} {s t : State} (h : exec c s = .next t) :
    t.store = s.store ∨ ∃ w, s.writes.current = some w ∧ t.store = s.store.apply w.contents ∧
      (c = .storeWriteEnd ∨ c = .powerOn ∨ c = .pinReset) := by
  obtain hs | rfl | rfl | rfl := effect_store (effect_of_exec h)
  · exact .inl hs
  · cases h
    cases hw : (freshPort s).writes.current with
    | none => exact .inl (by rw [storeWriteEnd_none hw]; rfl)
    | some w => exact .inr ⟨w, hw, storeWriteEnd_store hw, .inl rfl⟩
  · cases h
    refine hardReset_ends ?_ (.inl rfl)
    split <;> simp
  · cases h
    exact hardReset_ends rfl (.inr rfl)

/-- R146: no write leads back to BLANK. -/
theorem exec_lifecycle {c : Instr} {s t : State} (h : exec c s = .next t) (hb : s.store.lifecycle ≠ .blank) :
    t.store.lifecycle ≠ .blank := by
  obtain hs | ⟨w, -, hs, -⟩ := exec_store h
  · rwa [hs]
  · rw [hs]
    exact fun hn => hb (apply_lifecycle hn).1

/-! ### A write behind the one in progress (R148) -/

theorem askWrite_current {who : Requester} {w : StoreWrite} {s : State} {v : PendingWrite} (h : s.writes.current = some v) :
    (askWrite who w s).writes = ⟨some v, some ⟨who, w⟩⟩ := by
  obtain ⟨hn, -⟩ | ⟨c, hc, hw⟩ := askWrite_writes who w s
  · cases h.symm.trans hn
  · cases h.symm.trans hc
    exact hw

/-- What follows the end of a write leaves the write in progress to its own end. -/
theorem writeEnded_current {s : State} {v : PendingWrite} (who : Requester) (h : s.writes.current = some v) :
    (writeEnded who s).writes.current = some v := by
  have hask : ∀ {t : State} {r : Requester} {w : StoreWrite}, t.writes = (askWrite r w s).writes →
      t.writes.current = some v := fun ht => by rw [ht, askWrite_current h]
  cases who with
  | partReset => exact h
  | slotController =>
    obtain ⟨-, -, hw | ⟨r, hw⟩⟩ := bootStep_books (bootStep_bootWriteEnded True s)
    · exact (congrArg StoreWrites.current hw).trans h
    · exact hask hw
  | channel =>
    obtain ⟨a, b, ha, hstep, hb⟩ := steps_channelWriteEnded s
    show (channelWriteEnded s).writes.current = some v
    rw [hb.writes]
    cases channelStep_books hstep with
    | served hs hw hj => rw [hw, ha.writes, h]
    | asked job w hask' hs hw hj => exact hask (hw.trans (askWrite_writes_congr ha.writes))

/-- R72, R74: the end of the one chunk of a channel item hands its digest over, whatever the scan place holds. -/
theorem channelChunkEnd_digest {s : State} (work : DigestWork) (input : Bytes) (h1 : 0 < input.length)
    (h2 : input.length ≤ 256) :
    channelChunkEnd (bufferItem work input) s = channelDigest (sha256 input) (channelItemDone s) := by
  obtain ⟨hl, hd⟩ := bufferItem_digest work input h1 h2
  unfold channelChunkEnd
  simp only [hl, hd, if_true]
  rfl

theorem chunkEnd_channelDigest {s : State} (work : DigestWork) (input : Bytes) (h1 : 0 < input.length)
    (h2 : input.length ≤ 256) (hc : s.de.channel = some (bufferItem work input)) (ha : s.de.absorbing = some .channel)
    (hr : restartDue s = false) :
    exec .chunkEnd s = .next (settle (channelDigest (sha256 input) (channelItemDone (freshPort s)))) := by
  show Host.Outcome.next (unlessRestartDue chunkEnd (freshPort s)) = _
  rw [unlessRestartDue_notDue chunkEnd (s := freshPort s) hr]
  unfold chunkEnd
  rw [show (freshPort s).de.absorbing = some .channel from ha, show (freshPort s).de.channel = some _ from hc]
  rw [← channelChunkEnd_digest work input h1 h2]

/-- R157, R158: a wrong proof asks for the write of the raised count. -/
theorem proofDigested_wrong {s : State} {r : Request} {digest : Bytes} (h : s.store.verifier ≠ some digest) :
    proofDigested r digest s =
      waitFor (.gateWrite r false) (askWrite .channel (.failures (s.store.failures + 1))
        { s with mc.request := zeroRange s.mc.request 4 32 }) := by
  simp [proofDigested, h]

/-- R148, R149: the end of the write in progress, with the write behind it. -/
theorem storeWriteEnd_waiting {s : State} {w v : PendingWrite} (hw : s.writes = ⟨some w, some v⟩) :
    ((∀ f, s.mc.state ≠ .working (.restart f)) ∨ s.fp.op ≠ none → (storeWriteEnd s).writes.current = some v) ∧
      ((∃ f, s.mc.state = .working (.restart f)) → s.fp.op = none → (storeWriteEnd s).writes.current = none) := by
  have hc : s.writes.current = some w := by rw [hw]
  unfold storeWriteEnd
  rw [hc]
  dsimp only
  refine ⟨fun h => ?_, ?_⟩
  · have hdue : restartDue { s with store := s.store.apply w.contents, writes.current := none } = false := by
      obtain h | h := h
      · exact restartDue_none h
      · exact restartDue_op (Option.isSome_iff_ne_none.2 h)
    rw [hdue, if_neg (by simp), (quiet_settle _).writes]
    exact writeEnded_current _ (by simp [beginWaitingWrite, hw])
  · rintro ⟨f, hf⟩ ho
    rw [if_pos (by simp [restartDue, hf, ho])]

end Sys2Proof.Machine

namespace Sys2Proof.StoreInvariants

open Sys2Proof Sys2Proof.Machine

/-- Settles O11: the store through every command, and the write behind the one in progress from its asking to its begin. -/
theorem storeChangesOnlyByWholeWrites : Obligations.StoreChangesOnlyByWholeWrites := by
  unfold Obligations.StoreChangesOnlyByWholeWrites
  refine ⟨fun c s t h => ⟨exec_store h, fun hc w hw => ?_, exec_lifecycle h⟩, fun s t hp h => ?_,
    fun s w r proof hw hj ha hc hl hv => ?_, fun s w v hw => ?_⟩
  · subst hc
    cases h
    exact storeWriteEnd_store (s := freshPort s) hw
  · rw [step_empty hp] at h
    cases h
    exact (quiet_tick s).store
  · refine ⟨_, chunkEnd_channelDigest .ownerProof proof (by omega) (by omega) hc ha (restartDue_none (by simp [hj])), ?_⟩
    have hd : channelDigest (sha256 proof) (channelItemDone (freshPort s)) =
        proofDigested r (sha256 proof) (channelItemDone (freshPort s)) := by
      unfold channelDigest
      rw [show (channelItemDone (freshPort s)).mc.state = _ from hj]
    rw [hd, proofDigested_wrong (s := channelItemDone (freshPort s)) hv]
    refine ⟨by simp; rfl, ?_⟩
    rw [(quiet_settle _).writes]
    refine Eq.trans ?_ (askWrite_current (who := .channel) (w := .failures (s.store.failures + 1)) hw)
    exact askWrite_writes_congr rfl
  · exact ⟨_, rfl, storeWriteEnd_store (s := freshPort s) (w := w) (by simp [hw]), storeWriteEnd_waiting (s := freshPort s) hw⟩

end Sys2Proof.StoreInvariants
end

section
/-! PROOFS. The live table, the selector and SOC_RUN change only as R2, R3, R20, R103 and R106 give. -/

namespace Sys2Proof.Machine

/-! ### The three ways -/

/-- The table, the selector and SOC_RUN stand. -/
structure TableStood (s t : State) : Prop where
  table : t.tu.table = s.tu.table
  selector : t.tu.selector = s.tu.selector
  run : t.socRun = s.socRun

/-- The table, the selector and SOC_RUN stand, or they move together at the release of SOC_RUN (R3, R103). -/
inductive TableStep (s t : State) : Prop
  | stood (h : TableStood s t)
  | released (hs : s.socRun = false) (hr : t.socRun = true) (hst : t.isc.stage = .released)
      (hl : t.tu.table.length = 16) (hg : ∀ e ∈ t.tu.table, e.live = e.granted)

/-- R20: one entry is narrowed. -/
def Narrowed (s t : State) : Prop :=
  t.socRun = s.socRun ∧ t.tu.selector = s.tu.selector ∧ ∃ i mask, t.tu.table = narrowTable s.tu.table i mask

/-- R3, R97, R107, R128: the part has its reset values. -/
def TableReset (t : State) : Prop :=
  t.tu = .afterReset ∧ t.socRun = false ∧ t.lanes = List.replicate 8 .afterReset ∧ t.isc = .afterReset

theorem TableStood.of_tu {s t : State} (ht : t.tu = s.tu) (hr : t.socRun = s.socRun) : TableStood s t :=
  ⟨by rw [ht], by rw [ht], hr⟩

theorem TableStood.refl (s : State) : TableStood s s := ⟨rfl, rfl, rfl⟩

theorem Quiet.stood {s t : State} (h : Quiet s t) : TableStood s t := .of_tu h.tu h.socRun

theorem TableStood.trans {s t u : State} (h₁ : TableStood s t) (h₂ : TableStood t u) : TableStood s u :=
  ⟨h₂.table.trans h₁.table, h₂.selector.trans h₁.selector, h₂.run.trans h₁.run⟩

theorem TableStood.settles {s t : State} (h : TableStood s t) : TableStood s (settle t) := h.trans (quiet_settle t).stood

theorem TableStood.after {s u t : State} (h : TableStood u t) (htu : u.tu = s.tu) (hr : u.socRun = s.socRun) :
    TableStood s t := (TableStood.of_tu htu hr).trans h

theorem TableStep.of_tu {s t : State} (ht : t.tu = s.tu) (hr : t.socRun = s.socRun) : TableStep s t :=
  .stood (.of_tu ht hr)

theorem TableStep.refl (s : State) : TableStep s s := .of_tu rfl rfl

theorem TableStep.after {s u t : State} (h : TableStep u t) (htu : u.tu = s.tu) (hr : u.socRun = s.socRun) :
    TableStep s t := by
  cases h with
  | stood h => exact .stood (h.after htu hr)
  | released hs hr' hst hl hg => exact .released (hr ▸ hs) hr' hst hl hg

theorem TableStep.settles {s t : State} (h : TableStep s t) : TableStep s (settle t) := by
  have hq := quiet_settle t
  cases h with
  | stood h => exact .stood h.settles
  | released hs hr hst hl hg =>
    exact .released hs (hq.socRun.trans hr) (by rw [hq.isc]; exact hst) (by rw [hq.tu]; exact hl) (by rw [hq.tu]; exact hg)

/-! ### Narrowing (R20) -/

/-- R20: a taken request narrows the table only where it is a RESTRICT_REGION. -/
theorem takeRequest_table (r : Request) (s : State) :
    TableStood s (takeRequest r s) ∨ (r = .restrictRegion ∧ Narrowed s (takeRequest r s)) := by
  cases r with
  | restrictRegion =>
    show TableStood s (takeRestrictRegion s) ∨ (_ ∧ Narrowed s (takeRestrictRegion s))
    unfold takeRestrictRegion withLength
    dsimp only
    split
    · split
      · exact .inl (.of_tu rfl rfl)
      · exact .inr ⟨rfl, rfl, rfl, _, _, rfl⟩
    · exact .inl (.of_tu rfl rfl)
  | clearEvents =>
    show TableStood s (takeClearEvents s) ∨ _
    refine .inl ?_
    unfold takeClearEvents withLength
    dsimp only
    split
    · split
      · exact .of_tu rfl rfl
      · split
        · exact ⟨rfl, rfl, rfl⟩
        · exact .of_tu rfl rfl
    · exact .of_tu rfl rfl
  | _ => exact .inl (.of_tu (by simp [takeRequest]) (by simp [takeRequest]))

theorem dispatchByCode_table (s : State) : TableStood s (dispatchByCode s) ∨ Narrowed s (dispatchByCode s) := by
  unfold dispatchByCode
  split
  · exact .inl (.of_tu rfl rfl)
  · next r _ => exact (takeRequest_table r s).imp_right And.right

theorem Narrowed.after {s u t : State} (h : Narrowed u t) (htu : u.tu = s.tu) (hr : u.socRun = s.socRun) : Narrowed s t := by
  unfold Narrowed at *
  rwa [htu, hr] at h

theorem received_table {dispatch : State → State} {s u t : State} {P : Prop}
    (hd : ∀ v, TableStood v (dispatch v) ∨ (P ∧ Narrowed v (dispatch v))) (htu : u.tu = s.tu) (hr : u.socRun = s.socRun)
    (h : Received dispatch u t) : TableStood s t ∨ (P ∧ Narrowed s t) := by
  cases h with
  | dropped => exact .inl (.of_tu htu hr)
  | badFrame kept hidle => exact .inl (.of_tu htu hr)
  | taken kept hidle =>
    exact (hd _).imp (fun h => h.after (by exact htu) (by exact hr)) (fun h => ⟨h.1, h.2.after (by exact htu) (by exact hr)⟩)

theorem posted_table {dispatch : State → State} {s t : State} {P : Prop}
    (hd : ∀ v, TableStood v (dispatch v) ∨ (P ∧ Narrowed v (dispatch v))) (h : Posted dispatch s t) :
    TableStood s t ∨ (P ∧ Narrowed s t) := by
  cases h with
  | held => exact .inl (quiet_freshPort s).stood
  | ended => exact .inl ((quiet_transactionBegun s).trans (quiet_clearResetEnable _)).stood
  | received hl h => exact received_table hd (quiet_postBegun s).tu (quiet_postBegun s).socRun h

theorem requestCommand_table (r : Request) (proof : Option Bytes) (body : Bytes) (s : State) :
    TableStood s (requestCommand r (takeRequest r) proof body s) ∨
      (r = .restrictRegion ∧ Narrowed s (requestCommand r (takeRequest r) proof body s)) := by
  obtain ⟨-, h⟩ | h := requestCommand_cases r (takeRequest r) proof body s
  · exact received_table (u := freshPort s) (takeRequest_table r) rfl rfl h
  · exact posted_table (takeRequest_table r) h

/-- R27: off a byte boundary a command is not taken. -/
theorem takenCommand_offBoundary {leading : Nat} {clocks : List Clock} {act : Bytes → State → State} {s : State}
    (h : onBoundary s.bp.laneMode clocks = false) : Quiet s (takenCommand leading clocks act s) := by
  rw [takenCommand, wholeTransaction, transaction_eq]
  split
  · exact quiet_freshPort s
  · dsimp only
    rw [if_neg (by simp [h])]
    exact (quiet_transactionBegun s).trans (quiet_clearResetEnable _)

theorem managementPost_table (clocks : List Clock) (s : State) :
    TableStood s (managementPost clocks s) ∨
      (onBoundary s.bp.laneMode clocks = true ∧ Narrowed s (managementPost clocks s)) := by
  cases hb : onBoundary s.bp.laneMode clocks with
  | false => exact .inl (takenCommand_offBoundary hb).stood
  | true =>
    exact posted_table (fun v => (dispatchByCode_table v).imp_right fun h => ⟨trivial, h⟩) (posted_managementPost clocks s)
      |>.imp_right fun h => ⟨rfl, h.2⟩

/-! ### The release of SOC_RUN (R3, R103) -/

theorem release_table {s : State} (record : BootRecord) (table : List Region) (x : Slot) (hs : s.socRun = false)
    (hl : table.length = 16) (hg : ∀ e ∈ table, e.live = e.granted) :
    TableStep s (release record (installTable table x s)) := by
  refine .released hs ?_ ?_ (by simpa using hl) (by simpa using hg)
  all_goals
    unfold release
    dsimp only
    split <;> rfl

theorem recoveryTable_live (m : SlotMap) : ∀ e ∈ recoveryTable m, e.live = e.granted := by
  intro e he
  simp only [recoveryTable, List.mem_cons, List.mem_replicate] at he
  obtain rfl | rfl | ⟨-, rfl⟩ := he <;> rfl

theorem manifestTable_live (m : Bytes) : ∀ e ∈ manifestTable m, e.live = e.granted := by
  intro e he
  obtain ⟨f, -, rfl⟩ := List.mem_map.1 he
  rfl

theorem heldTable_live : ∀ e ∈ heldTable, e.live = e.granted := by
  intro e he
  rw [List.eq_of_mem_replicate he]
  rfl

theorem identityTable_live : ∀ e ∈ identityTable, e.live = e.granted := by
  intro e he
  simp only [identityTable, List.mem_cons, List.mem_replicate] at he
  obtain rfl | ⟨-, rfl⟩ := he <;> rfl

theorem bootStep_table {passed sound : Prop} {s t : State} (hs : s.socRun = false) (h : BootStep passed sound s t) :
    TableStep s t := by
  cases h with
  | stood => exact .refl s
  | begun => exact .of_tu (by simp) (by simp)
  | revertEvent => exact .of_tu rfl rfl
  | asked => exact .of_tu (by simp) (by simp)
  | extending stage _ _ _ _ hu =>
    obtain ⟨-, rfl⟩ := beginExtend_next hu
    exact .of_tu (by simp) (by simp)
  | recovered =>
    unfold enterRecovery
    refine release_table _ _ _ hs ?_ ?_
    · cases s.store.slotMap <;> rfl
    · cases s.store.slotMap with
      | none => exact heldTable_live
      | some m => exact recoveryTable_live m
  | released =>
    unfold finishPass
    exact release_table _ _ _ hs (by simp [manifestTable, manifestRegions]) (manifestTable_live _)

/-- R92, R93: before its segments a scan releases nothing. -/
theorem scanStep_stood {p : ScanPhase} {sound : Prop} {s t : State} (hp : p ≠ .segments) (h : ScanStep p sound s t) :
    TableStood s t := by
  cases h with
  | stood => exact .refl s
  | slotFilled => exact .of_tu rfl rfl
  | manifestTaken => exact .of_tu rfl rfl
  | verifyPlaced => exact .of_tu rfl rfl
  | segmentBegun => exact .of_tu (by simp) (by simp)
  | stagedFailed => exact .of_tu (by simp) (by simp)
  | bootFailed => exact .of_tu (by simp) (by simp)
  | stagedPassed => exact .of_tu (by simp) (by simp)
  | bootPassed digest hd hn ho hq => exact absurd hq hp

/-- R103: a scan releases SOC_RUN only at its end with a pass, as the boot scan. -/
theorem scanStep_table {p : ScanPhase} {sound : Prop} {s t : State} (hboot : BootOk s) (hp : s.isc.scan.phase = p)
    (h : ScanStep p sound s t) : TableStep s t := by
  by_cases hseg : p = .segments
  · cases h with
    | bootPassed digest hd hn ho hq =>
      have hrun := hboot.bootOwned (by rw [hp, hq]; simp [scanBusy]) ho
      exact (bootStep_table (by exact hrun) (bootStep_bootPassed (passed := True) (sound := True) trivial _)).after
        (by exact rfl) (by exact rfl)
    | stood => exact .refl s
    | slotFilled => exact .of_tu rfl rfl
    | manifestTaken => exact .of_tu rfl rfl
    | verifyPlaced => exact .of_tu rfl rfl
    | segmentBegun => exact .of_tu (by simp) (by simp)
    | stagedFailed => exact .of_tu (by simp) (by simp)
    | bootFailed => exact .of_tu (by simp) (by simp)
    | stagedPassed => exact .of_tu (by simp) (by simp)
  · exact .stood (scanStep_stood hseg h)

/-- R74: what a digest of the scan place leads to. -/
theorem scanDigest_table {s : State} {i : DigestItem} (hboot : BootOk s) (hi : s.de.scan = some i) (digest : Bytes) :
    TableStep s (scanDigest i.work digest (scanItemDone s)) := by
  have hf := hboot.scan.item i hi
  have hidle : (i.work = .bootExtend ∨ i.work = .scanFailureEvent ∨ i.work = .trialRevertEvent) → s.socRun = false :=
    fun hw => (hboot.eventIdle hi hw).run
  have hdone : ∀ {t}, TableStep (scanItemDone s) t → TableStep s t := fun h => h.after (by exact rfl) (by exact rfl)
  unfold scanItemFits at hf
  unfold scanDigest
  cases hw : i.work with
  | manifest =>
    have hp : s.isc.scan.phase = .manifestDigest := by simpa [hw] using hf
    exact hdone (scanStep_table hboot.itemDone (by exact hp) (scanStep_manifestDigested True digest (by exact rfl)))
  | segment =>
    have hp : s.isc.scan.phase = .segments := by simpa [hw] using hf
    exact hdone (scanStep_table hboot.itemDone (by exact hp)
      (scanStep_segmentDigested (sound := False) False.elim (by exact rfl)))
  | bootExtend =>
    show TableStep s (bootFolded digest (scanItemDone s))
    obtain he | ⟨lane, -, h⟩ := bootFolded_cases False digest (scanItemDone s)
    · rw [he]
      exact .of_tu rfl rfl
    · exact (bootStep_table (by exact hidle (.inl hw)) h).after (by exact rfl) (by exact rfl)
  | scanFailureEvent =>
    exact hdone (bootStep_table (passed := True) (hidle (.inr (.inl hw))) (bootStep_failureDigested (sound := False) False.elim _))
  | trialRevertEvent =>
    exact hdone (bootStep_table (passed := True) (hidle (.inr (.inr hw))) (bootStep_revertDigested (sound := False) False.elim _))
  | _ => simp [hw] at hf

/-! ### The events -/

theorem writeVerdict_table (s : State) : TableStood s (writeVerdict s) := by
  unfold writeVerdict
  split
  · next c _ =>
    unfold applyVerdict
    split
    · exact TableStood.settles (.of_tu (by simp) (by simp))
    · refine ⟨enterRefusal_table .., ?_, rfl⟩
      show (enterRefusal _ _ _ _).selector = _
      unfold enterRefusal
      (repeat' split) <;> rfl
  · exact .refl s

theorem chunkDelivery_table (s : State) : TableStood s (chunkDelivery s) := by
  unfold chunkDelivery
  split
  · exact .refl s
  · split
    · refine TableStood.settles ?_
      unfold deliverChunk
      split
      · exact (scanStep_stood (by decide) (scanStep_manifestDelivered True _ _)).after rfl rfl
      · exact .of_tu rfl rfl
      · exact .of_tu rfl rfl
    · exact .refl s

theorem chunkEnd_table {s : State} (hboot : BootOk s) : TableStep s (chunkEnd s) := by
  unfold chunkEnd
  split
  · next i _ hi =>
    refine TableStep.settles ?_
    unfold scanChunkEnd
    dsimp only
    have hq := quiet_reportAbsorbed i s
    split
    · exact (scanDigest_table (hboot.quiet hq) (by simpa using hi) _).after hq.tu hq.socRun
    · exact .of_tu hq.tu hq.socRun
  · exact TableStep.settles (.of_tu (by simp) (by simp))
  · exact .refl s

theorem signatureCompletion_table (s : State) : TableStood s (signatureCompletion s) := by
  obtain h | ⟨v, -, -, h⟩ | ⟨c, -, -, h⟩ := signatureCompletion_cases s <;> rw [h]
  · exact .refl s
  · refine TableStood.settles ?_
    unfold scanSignature
    split
    · dsimp only
      split
      · exact (scanStep_stood (by decide) (scanStep_verifyCompleted True _ _)).after rfl rfl
      · exact .of_tu rfl rfl
    · exact .of_tu rfl rfl
  · exact TableStood.settles (.of_tu (by simp) (by simp))

theorem storeWriteEnd_table {s : State} (hboot : BootOk s) : TableStep s (storeWriteEnd s) := by
  unfold storeWriteEnd
  split
  · exact .refl s
  · next w hw =>
    dsimp only
    split
    · exact .of_tu rfl rfl
    · refine TableStep.settles ?_
      unfold writeEnded
      split
      · exact .of_tu (by simp) (by simp)
      · next hr =>
        have hi := hboot.slotWriteDone hw hr
        exact (bootStep_table hi.run (bootStep_bootWriteEnded True _)).after rfl rfl
      · exact .of_tu (by simp) (by simp)

theorem downstreamIdCapture_table {s : State} (hboot : BootOk s) (a b : Byte) : TableStep s (downstreamIdCapture a b s) := by
  unfold downstreamIdCapture
  split
  · next hp =>
    have hs := (hboot.frame.prep (by simp [hp])).1
    refine TableStep.settles ?_
    unfold beginBoot
    split
    · exact (release_table _ _ _ (by exact hs) rfl identityTable_live).after (by exact rfl) (by exact rfl)
    · exact (bootStep_table (by exact hs) (bootStep_bootFirstStep (passed := True) (sound := True) _)).after
        (by exact rfl) (by exact rfl)
  · exact .refl s

theorem restartReset_table (s : State) : TableStood s (restartReset s) ∨ TableReset (restartReset s) := by
  unfold restartReset
  split
  · split
    · exact .inr ⟨by simp, by simp, by simp, by simp⟩
    · exact .inl (.refl s)
  · exact .inl (.refl s)

theorem unlessRestartDue_stood {event : State → State} {s : State} (h : TableStood (freshPort s) (event (freshPort s))) :
    TableStood s (unlessRestartDue event (freshPort s)) := by
  unfold unlessRestartDue
  split
  · exact .of_tu rfl rfl
  · exact h.after rfl rfl

theorem unlessRestartDue_table {event : State → State} {s : State} (h : TableStep (freshPort s) (event (freshPort s))) :
    TableStep s (unlessRestartDue event (freshPort s)) := by
  unfold unlessRestartDue
  split
  · exact .of_tu rfl rfl
  · exact h.after rfl rfl

/-! ### Every command -/

/-- A command at which SOC_RUN can be released. -/
def releases (c : Instr) : Prop := (∃ a b, c = .downstreamIdCapture a b) ∨ c = .chunkEnd ∨ c = .storeWriteEnd

/-- A command that narrows the table: a RESTRICT_REGION, or clocks that carry a POST (R20). -/
def narrows (s : State) (c : Instr) : Prop :=
  (∃ proof body, c = .restrictRegion proof body) ∨
    ∃ clocks, spells s.bp.laneMode c = some (.managementPost, clocks) ∧ onBoundary s.bp.laneMode clocks = true

/-- A command that makes a part reset. -/
def resets (c : Instr) : Prop := c = .powerOn ∨ c = .pinReset ∨ c = .restartReset

/-- How a command touches the table, the selector and SOC_RUN. -/
inductive TableEffect (s : State) (c : Instr) (t : State) : Prop
  | stood (h : TableStood s t)
  | stepped (h : TableStep s t) (hc : releases c)
  | narrowed (h : Narrowed s t) (hc : narrows s c)
  | reset (h : TableReset t) (hc : resets c)

theorem effect_table {c : Instr} {s t : State} (hboot : BootOk s) (h : Effect s c t) : TableEffect s c t := by
  have hfresh := hboot.quiet (quiet_freshPort s)
  have event : ∀ {u}, Quiet (freshPort s) u → TableEffect s c u := fun h => .stood ((quiet_freshPort s).trans h).stood
  cases h with
  | request r proof body =>
    obtain h | ⟨rfl, h⟩ := requestCommand_table r proof body s
    · exact .stood h
    · exact .narrowed h (.inl ⟨proof, body, rfl⟩)
  | read => exact .stood (quiet_readCommand ..).stood
  | @bus _ b clocks reply hc hb =>
    by_cases hpost : b = .managementPost
    · subst hpost
      obtain h | ⟨hon, h⟩ := managementPost_table clocks s
      · exact .stood h
      · exact .narrowed h (.inr ⟨clocks, hc, hon⟩)
    · exact .stood (quiet_busCommand hpost clocks reply s).stood
  | status n => exact .stood (quiet_readStatus n s).stood
  | id n => exact .stood (quiet_readId n s).stood
  | fetch n => exact .stood (quiet_managementFetch n s).stood
  | ignored => exact .stood (quiet_wholeTransaction (fun s => Quiet.refl s) s).stood
  | powerOn =>
    refine .reset ?_ (.inl rfl)
    split
    · exact ⟨rfl, rfl, rfl, rfl⟩
    · exact ⟨by simp; rfl, by simp; rfl, by simp; rfl, by simp; rfl⟩
  | pinReset => exact .reset ⟨rfl, rfl, rfl, rfl⟩ (.inr (.inl rfl))
  | rstNRelease =>
    refine .stood ?_
    split
    · exact .of_tu (by simp) (by simp)
    · exact .of_tu rfl rfl
  | restartReset =>
    obtain h | h := restartReset_table (freshPort s)
    · exact .stood (h.after rfl rfl)
    · exact .reset h (.inr (.inr rfl))
  | recoveryEnd => exact .stood (unlessRestartDue_stood (.of_tu (by simp) (by simp)))
  | capture a b => exact .stepped (unlessRestartDue_table (downstreamIdCapture_table hfresh a b)) (.inl ⟨a, b, rfl⟩)
  | readEnd n reply => exact event (quiet_readTransactionEnd n reply _)
  | verdict => exact .stood (unlessRestartDue_stood (writeVerdict_table _))
  | completion => exact event (quiet_operationCompletion _)
  | timeout => exact event (quiet_operationTimeout _)
  | fetchReport n => exact event ((quiet_clockFetch n _).trans (quiet_endFetch _))
  | delivery => exact .stood (unlessRestartDue_stood (chunkDelivery_table _))
  | chunkEnd => exact .stepped (unlessRestartDue_table (chunkEnd_table hfresh)) (.inr (.inl rfl))
  | signature => exact .stood (unlessRestartDue_stood (signatureCompletion_table _))
  | writeEnd => exact .stepped ((storeWriteEnd_table hfresh).after rfl rfl) (.inr (.inr rfl))
  | expiry => exact event (quiet_secretResponseExpiry _)

end Sys2Proof.Machine

namespace Sys2Proof.AddressMap

open Sys2Proof Sys2Proof.Machine

/-- Settles O12: from what each command does to the table, the selector and SOC_RUN. -/
theorem tableAndSocRunChangeOnlyAsGiven : Obligations.TableAndSocRunChangeOnlyAsGiven := by
  unfold Obligations.TableAndSocRunChangeOnlyAsGiven
  refine ⟨fun c s t hboot h => ?_, fun s t hp h => ?_⟩
  · have hkept : ∀ {P Q : Prop}, t.socRun = s.socRun →
        (s.socRun = false → t.socRun = true → P) ∧ (s.socRun = true → t.socRun = false → Q) := fun he =>
      ⟨fun h₀ h₁ => absurd (h₁.symm.trans (he.trans h₀)) (by decide),
        fun h₁ h₀ => absurd (h₁.symm.trans (he.symm.trans h₀)) (by decide)⟩
    cases effect_table (bootOk_iff.1 hboot) (effect_of_exec h) with
    | stood h => exact ⟨.inl ⟨h.table, h.selector⟩, hkept h.run⟩
    | stepped h hc =>
      cases h with
      | stood h => exact ⟨.inl ⟨h.table, h.selector⟩, hkept h.run⟩
      | released hs hr hst hl hg =>
        exact ⟨.inr (.inr (.inr ⟨hs, hr, hst, hc, hl, hg⟩)), fun _ _ => ⟨hc, hst⟩,
          fun h₁ _ => absurd (h₁.symm.trans hs) (by decide)⟩
    | narrowed h hc =>
      obtain ⟨hr, hsel, htable⟩ := h
      exact ⟨.inr (.inl ⟨hsel, htable, hc⟩), hkept hr⟩
    | reset h hc =>
      obtain ⟨htu, hr, hlanes, hisc⟩ := h
      refine ⟨.inr (.inr (.inl ⟨by rw [htu]; rfl, by rw [htu]; rfl, hr, hc⟩)),
        fun _ h₁ => absurd (h₁.symm.trans hr) (by decide), fun _ _ => ⟨hc, hlanes, ?_, ?_⟩⟩
      · rw [hisc]; rfl
      · rw [hisc]; rfl
  · rw [step_empty hp] at h
    cases h
    exact ⟨(quiet_tick _).tu, (quiet_tick _).socRun⟩

end Sys2Proof.AddressMap
end

section
/-! PROOFS. The lanes and their folds are not kept from every state that meets their premises (R130, R131): a part held
by RST_N may hold an EXTEND_LANE in hand there, which no run of the part reaches. -/

namespace Sys2Proof.Machine

/-- The extend of lane 4 by an event digest of zero bytes, in progress over a lane of its reset value. -/
def zeroExtend : PendingExtend := ⟨List.replicate 32 0, ⟨List.replicate 32 0, .request, 0⟩⟩

/-- R106, R130, R159: a part held by RST_N, locked out, with an EXTEND_LANE of lane 4 in hand and its fold in the channel
place. Its release is the next command. -/
def heldInExtend : State :=
  { State.reset with
    rstLow := true
    fp.prep := .heldByPin
    store.failures := 8
    mc.state := .working (.laneFold 4)
    lanes := (List.replicate 8 .afterReset).set 4 ⟨List.replicate 32 0, [], some zeroExtend⟩
    de.channel := some (bufferItem .laneExtend (List.replicate 64 0))
    pending := [.rstNRelease] }

theorem heldInExtend_foldsOk : foldsOk heldInExtend = true := rfl

theorem heldInExtend_lanesOk : lanesOk heldInExtend = true := rfl

theorem heldInExtend_slotOk : slotOk heldInExtend = true := rfl

theorem heldInExtend_bootOk : bootOk heldInExtend = true := rfl

/-- R150, R159: the release lowers the failure count first, and the channel waits for that write instead of the fold. -/
def releasedInExtend : State :=
  beginResetWrite .lockoutLowering { freshPort heldInExtend with rstLow := false, pending := [] }

theorem heldInExtend_step : step heldInExtend = .next releasedInExtend := rfl

/-- R130: the extend is still in progress, and nobody waits for its fold. -/
theorem releasedInExtend_folds_lost : foldsOk releasedInExtend = false := rfl

end Sys2Proof.Machine

namespace Sys2Proof.WholeMachine

open Sys2Proof Sys2Proof.Machine

/-- Refutes O8: the fifth part does not exclude a part held by RST_N with an EXTEND_LANE in hand; the lockout lowering of
its release makes the channel forget the extend, which stays in progress. -/
theorem not_logsRefusalsAndWriteRecordAgree : ¬ Obligations.LogsRefusalsAndWriteRecordAgree := by
  unfold Obligations.LogsRefusalsAndWriteRecordAgree
  rintro ⟨-, -, -, -, folds, -⟩
  have hlost := folds _ _ heldInExtend_foldsOk heldInExtend_lanesOk heldInExtend_slotOk heldInExtend_bootOk
    heldInExtend_step
  exact absurd (hlost.symm.trans releasedInExtend_folds_lost) (by decide)

end Sys2Proof.WholeMachine
end

section
/-! PROOFS. That a response stands only while the channel is IDLE is not kept from every state that meets its premises
(R186, R190): a part held by RST_N may hold a response there, which no run of the part reaches. -/

namespace Sys2Proof.Machine

/-- R106, R159: a part held by RST_N, locked out, with a response in its buffer. Its release is the next command. -/
def heldWithResponse : State :=
  { State.reset with
    rstLow := true
    fp.prep := .heldByPin
    store.failures := 8
    mc.response := some ⟨responseFrame 0x01 .ok [], false, false, none, none⟩
    pending := [.rstNRelease] }

theorem heldWithResponse_policyOk : policyOk heldWithResponse = true := rfl

theorem heldWithResponse_foldsOk : foldsOk heldWithResponse = true := rfl

theorem heldWithResponse_bootOk : bootOk heldWithResponse = true := rfl

/-- R150, R159: the release lowers the failure count first, and the channel waits for that write with the response in its
buffer. -/
def releasedWithResponse : State :=
  beginResetWrite .lockoutLowering { freshPort heldWithResponse with rstLow := false, pending := [] }

theorem heldWithResponse_step : step heldWithResponse = .next releasedWithResponse := rfl

theorem releasedWithResponse_policy_lost : policyOk releasedWithResponse = false := rfl

end Sys2Proof.Machine

namespace Sys2Proof.WholeMachine

open Sys2Proof Sys2Proof.Machine

/-- Refutes O7: the second part does not exclude a part held by RST_N with a response in its buffer; the lockout lowering
of its release makes the channel WORKING over that response. -/
theorem not_secretResponseLifetime : ¬ Obligations.SecretResponseLifetime := by
  unfold Obligations.SecretResponseLifetime
  rintro ⟨-, policy⟩
  have hlost := policy _ _ heldWithResponse_policyOk rfl heldWithResponse_foldsOk rfl rfl heldWithResponse_bootOk rfl
    heldWithResponse_step
  exact absurd (hlost.symm.trans releasedWithResponse_policy_lost) (by decide)

end Sys2Proof.WholeMachine
end

section
/-! PROOFS. Physical addresses, the recovery table and the installed manifest table (R3, R8, R10). -/

namespace Sys2Proof.Machine

/-! ### Physical addresses (R10) -/

theorem physicalOf_none {e : Region} (m : Option SlotMap) (selector : Slot) (o : Nat) (h : e.target = .none) :
    physicalOf m selector e o = none := by
  simp [physicalOf, h]

theorem physicalOf_active {e : Region} (m : SlotMap) (selector : Slot) (o : Nat) (h : e.target = .active) :
    physicalOf (some m) selector e o =
      if m.slotBytes ≤ e.base * 4096 + o then none else some (m.slotStart selector + e.base * 4096 + o) := by
  simp [physicalOf, h, physicalOf.inSlot]

theorem physicalOf_staging {e : Region} (m : SlotMap) (selector : Slot) (o : Nat) (h : e.target = .staging) :
    physicalOf (some m) selector e o =
      if m.slotBytes ≤ e.base * 4096 + o then none else some (m.slotStart selector.other + e.base * 4096 + o) := by
  simp [physicalOf, h, physicalOf.inSlot]

theorem map_ite_some {α β : Type} (c : Prop) [Decidable c] (f : α → β) (x : α) :
    (if c then none else some x).map f = if c then none else some (f x) := by
  split <;> rfl

/-! ### The recovery table (R8) -/

theorem sectors_unit (n : Nat) : n * 16 * 4096 = n * 65536 := by omega

theorem recoveryTable_stop {m : SlotMap} {i : Nat} (hlow : 1 ≤ i) (hhigh : i ≤ 15) :
    ((recoveryTable m).getD i .held).stop = m.recoveryLength * 16 + m.slotLength * 16 := by
  obtain rfl | h2 : i = 1 ∨ 2 ≤ i := by omega
  · rfl
  · obtain ⟨k, rfl⟩ := Nat.exists_eq_add_of_le' h2
    rw [recoveryTable, List.getD_cons_succ, List.getD_cons_succ, List.getD_replicate _ (by omega)]
    rfl

/-- R8: the entry of the recovery area. -/
def recoveryFound (m : SlotMap) : Found := ⟨0, (recoveryTable m).getD 0 .held, 0⟩

/-- R8: the entry of the live-inactive slot. -/
def inactiveFound (m : SlotMap) : Found := ⟨1, (recoveryTable m).getD 1 .held, m.recoveryLength * 16 * 4096⟩

theorem lookup_recovery {m : SlotMap} {a : LogicalAddress} (h : a.toNat < m.recoveryLength * 65536) :
    lookup (recoveryTable m) a = some (recoveryFound m) :=
  lookup_least (i := 0) (Nat.zero_lt_succ _) (by rw [← sectors_unit] at h; exact h)
    fun _ hj => absurd hj (Nat.not_lt_zero _)

theorem lookup_inactive {m : SlotMap} {a : LogicalAddress} (hlow : m.recoveryLength * 65536 ≤ a.toNat)
    (hhigh : a.toNat < (m.recoveryLength + m.slotLength) * 65536) :
    lookup (recoveryTable m) a = some (inactiveFound m) := by
  rw [← sectors_unit, Nat.add_mul] at hhigh
  rw [← sectors_unit] at hlow
  refine lookup_least (i := 1) (by simp [recoveryTable]) hhigh fun j hj => ?_
  rw [Nat.lt_one_iff.1 hj]
  exact hlow

theorem lookup_aboveRecovery {m : SlotMap} {a : LogicalAddress}
    (h : (m.recoveryLength + m.slotLength) * 65536 ≤ a.toNat) : lookup (recoveryTable m) a = none := by
  rw [← sectors_unit, Nat.add_mul] at h
  refine lookup_none fun i hi => ?_
  have h16 : (recoveryTable m).length = 16 := rfl
  cases i with
  | zero => exact Nat.le_trans (Nat.mul_le_mul_right 4096 (Nat.le_add_right ..)) h
  | succ i => rwa [recoveryTable_stop (by omega) (by omega)]

theorem translate_recovery {m : SlotMap} {a : LogicalAddress} (selector : Slot) (hv : m.valid = true)
    (h : a.toNat < m.recoveryLength * 65536) :
    translate (recoveryTable m) selector (some m) a = some (recoveryFound m, m.recoveryBase * 65536 + a.toNat) := by
  have hb : (recoveryFound m).region.base * 4096 = m.recoveryBase * 65536 := sectors_unit m.recoveryBase
  have hin : ¬ physicalSize ≤ m.recoveryBase * 65536 + a.toNat := by
    simp only [SlotMap.valid, Bool.and_eq_true, decide_eq_true_eq] at hv
    unfold physicalSize
    omega
  rw [translate_of_lookup _ _ (lookup_recovery h), physicalOf_direct _ _ _ rfl, hb]
  show Option.map _ (if physicalSize ≤ m.recoveryBase * 65536 + (a.toNat - 0) then none else some _) = _
  rw [Nat.sub_zero, if_neg hin]
  rfl

theorem translate_inactive {m : SlotMap} {a : LogicalAddress} (selector : Slot)
    (hlow : m.recoveryLength * 65536 ≤ a.toNat) (hhigh : a.toNat < (m.recoveryLength + m.slotLength) * 65536) :
    translate (recoveryTable m) selector (some m) a =
      some (inactiveFound m, m.slotStart selector.other + (a.toNat - m.recoveryLength * 65536)) := by
  have hb : (inactiveFound m).region.base * 4096 = 0 := Nat.zero_mul 4096
  have hs : (inactiveFound m).start = m.recoveryLength * 65536 := sectors_unit m.recoveryLength
  have hin : ¬ m.slotBytes ≤ a.toNat - m.recoveryLength * 65536 := by
    unfold SlotMap.slotBytes
    omega
  rw [translate_of_lookup _ _ (lookup_inactive hlow hhigh), physicalOf_staging _ _ _ rfl, hb, hs, Nat.zero_add,
    Nat.add_zero, if_neg hin]
  rfl

/-! ### The units of one command (R13 to R15) -/

theorem unitsOf_ne_nil {c : TakenCommand} (h : c.kind ≠ .chipErase) : unitsOf c ≠ [] := by
  unfold unitsOf
  dsimp only
  split
  · simp
  · simp
  · simp
  · next hk => exact absurd hk h

theorem ofNat24_toNat {n : Nat} (h : n < 256 * 65536) : (BitVec.ofNat 24 n).toNat = n := by
  rw [BitVec.toNat_ofNat, Nat.mod_eq_of_lt (by omega)]

/-- R13 to R15: a command's units lie in the 64 KiB units that hold its address. -/
theorem unitsOf_within {c : TakenCommand} {lo hi : Nat} (hlow : lo * 65536 ≤ c.address.toNat)
    (hhigh : c.address.toNat < hi * 65536) (hmax : hi ≤ 256) :
    ∀ u ∈ unitsOf c, lo * 65536 ≤ u.toNat ∧ u.toNat < hi * 65536 := by
  intro u hu
  unfold unitsOf at hu
  dsimp only at hu
  split at hu
  · rw [List.mem_singleton.1 hu, ofNat24_toNat (by omega)]
    omega
  · rw [List.mem_singleton.1 hu, ofNat24_toNat (by omega)]
    omega
  · obtain ⟨k, hk, rfl⟩ := List.mem_map.1 hu
    have hk := List.mem_range.1 hk
    rw [ofNat24_toNat (by omega)]
    omega
  · cases hu

/-- R17: where every unit passes in a STAGING entry, the command is allowed there. -/
theorem decideUnits_staging {check : LogicalAddress → Except RefusalReason (Nat × Bool)} {target : LogicalAddress → Nat}
    {units : List LogicalAddress} (targets : List Nat) (inStaging : Bool)
    (hok : ∀ u ∈ units, check u = .ok (target u, true)) :
    decideUnits check targets inStaging units = .allowed (targets ++ units.map target) (inStaging || !units.isEmpty) := by
  induction units generalizing targets inStaging with
  | nil => simp [decideUnits]
  | cons u rest ih =>
    obtain ⟨hu, hrest⟩ := List.forall_mem_cons.mp hok
    simp [decideUnits, hu, ih _ _ hrest]

/-- R17: where the first unit is refused, so is the command. -/
theorem decideCommand_refused {tu : TranslationUnit} {m : Option SlotMap} {staging : StagingState} {c : TakenCommand}
    {reason : RefusalReason} (hkind : c.kind ≠ .chipErase)
    (hcheck : ∀ u ∈ unitsOf c, checkUnit tu m staging c.kind u = .error reason) :
    ∃ u, decideCommand tu m staging c = .refused u reason := by
  obtain ⟨u, rest, hunits⟩ := List.exists_cons_of_ne_nil (unitsOf_ne_nil hkind)
  have hu := hcheck u (by simp [hunits])
  refine ⟨recordedAddress c u, ?_⟩
  unfold decideCommand
  split
  · next hchip => exact absurd hchip hkind
  · simp [hunits, decideUnits, hu]

theorem checkUnit_staging {tu : TranslationUnit} {m : Option SlotMap} {staging : StagingState} {kind : CommandKind}
    {a : LogicalAddress} {f : Found} {p : Nat} (htr : translate tu.table tu.selector m a = some (f, p))
    (hright : hasNeededRight kind f.region.live = true) (htarget : f.region.target = .staging)
    (hopen : stagingAdmits staging = true) : checkUnit tu m staging kind a = .ok (p, true) := by
  simp [checkUnit, htr, hright, htarget, hopen]

theorem checkUnit_noRight {tu : TranslationUnit} {m : Option SlotMap} (staging : StagingState) {kind : CommandKind}
    {a : LogicalAddress} {f : Found} {p : Nat} (htr : translate tu.table tu.selector m a = some (f, p))
    (hright : hasNeededRight kind f.region.live = false) : checkUnit tu m staging kind a = .error .noRight := by
  simp [checkUnit, htr, hright]

/-- R8: programs and erases of the slot above the recovery area are allowed in OPEN and VERIFYING. -/
theorem decideCommand_inactive {m : SlotMap} {tu : TranslationUnit} {staging : StagingState} {c : TakenCommand}
    (hv : m.Fits) (ht : tu.table = recoveryTable m) (hkind : c.kind ≠ .chipErase)
    (hlow : m.recoveryLength * 65536 ≤ c.address.toNat)
    (hhigh : c.address.toNat < (m.recoveryLength + m.slotLength) * 65536) (hopen : stagingAdmits staging = true) :
    ∃ targets, decideCommand tu (some m) staging c = .allowed targets true := by
  have hunit := unitsOf_within hlow hhigh hv.lengths
  have hok := decideUnits_staging [] false (check := checkUnit tu (some m) staging c.kind)
    (target := fun u => m.slotStart tu.selector.other + (u.toNat - m.recoveryLength * 65536)) fun u hu =>
      checkUnit_staging (ht ▸ translate_inactive tu.selector (hunit u hu).1 (hunit u hu).2) (by cases c.kind <;> rfl) rfl hopen
  have hsome : (false || !(unitsOf c).isEmpty) = true := by simp [unitsOf_ne_nil hkind]
  exact ⟨_, decideCommand_allowed hkind (hsome ▸ hok)⟩

/-- R8: the recovery area is read-only. -/
theorem decideCommand_recovery {m : SlotMap} {tu : TranslationUnit} (staging : StagingState) {c : TakenCommand}
    (hv : m.valid = true) (ht : tu.table = recoveryTable m) (hkind : c.kind ≠ .chipErase)
    (h : c.address.toNat < m.recoveryLength * 65536) :
    ∃ u, decideCommand tu (some m) staging c = .refused u .noRight := by
  have hunit := unitsOf_within (lo := 0) (by omega) h (by have := (SlotMap.fits hv).lengths; omega)
  exact decideCommand_refused hkind fun u hu =>
    checkUnit_noRight staging (ht ▸ translate_recovery tu.selector hv (hunit u hu).2) (by cases c.kind <;> rfl)

/-! ### The manifest table (R3) -/

theorem targetCode_targetOfCode {c : Byte} (h : c.toNat ≤ 3) : targetCode (targetOfCode c) = c := by
  have hc : c = 0 ∨ c = 1 ∨ c = 2 ∨ c = 3 := by
    simp only [← BitVec.toNat_inj]
    show c.toNat = 0 ∨ c.toNat = 1 ∨ c.toNat = 2 ∨ c.toNat = 3
    omega
  obtain rfl | rfl | rfl | rfl := hc <;> rfl

theorem manifestTable_getD (manifest : Bytes) {i : Nat} (h : i < 16) :
    (manifestTable manifest).getD i .held = installedFromManifest (manifestRegion manifest i) := by
  rw [List.getD_eq_getElem _ _ (by simpa [manifestTable, manifestRegions] using h)]
  simp [manifestTable, manifestRegions]

end Sys2Proof.Machine

namespace Sys2Proof.AddressMap

open Sys2Proof Sys2Proof.Machine

/-- Settles O16: by the target of the entry found. -/
theorem physicalAddressOfEntry : Obligations.PhysicalAddressOfEntry := by
  unfold Obligations.PhysicalAddressOfEntry
  intro table selector m a f hf
  dsimp only
  rw [translate_of_lookup selector (some m) hf]
  refine ⟨fun h => ?_, fun h => ?_, fun h => ?_, fun h => ?_⟩
  · rw [physicalOf_none _ _ _ h]
    rfl
  · rw [physicalOf_direct _ _ _ h, map_ite_some]
    rfl
  · rw [physicalOf_active _ _ _ h, map_ite_some]
    cases selector <;> rfl
  · rw [physicalOf_staging _ _ _ h, map_ite_some]
    cases selector <;> rfl

/-- Settles O18: the two lower entries of the recovery table cover the recovery area and the live-inactive slot. -/
theorem recoveryTable : Obligations.RecoveryTable := by
  unfold Obligations.RecoveryTable
  intro m selector a hv
  have hfits : m.Fits := SlotMap.fits hv
  refine ⟨rfl, rfl, rfl, fun i h2 h15 => ?_, fun h => ⟨_, rfl, translate_recovery selector hv h⟩,
    fun hlow hhigh => ⟨inactiveFound m, rfl, ?_⟩, fun h => translate_of_lookup_none _ _ (lookup_aboveRecovery h),
    fun tu staging kind page ht hs hk => ⟨fun hlow hhigh hopen => ?_, fun h => ?_⟩⟩
  · obtain ⟨k, rfl⟩ := Nat.exists_eq_add_of_le' h2
    rw [Machine.recoveryTable, List.getD_cons_succ, List.getD_cons_succ, List.getD_replicate _ (by omega)]
    rfl
  · rw [translate_inactive selector hlow hhigh]
    cases selector <;> rfl
  · exact decideCommand_inactive hfits ht hk hlow hhigh (by obtain rfl | rfl := hopen <;> rfl)
  · exact decideCommand_recovery staging hv ht hk h

/-- Settles O19: each installed entry is read from its manifest entry, less P and E where it is ACTIVE. -/
theorem manifestTableInstalled : Obligations.ManifestTableInstalled := by
  unfold Obligations.ManifestTableInstalled
  intro manifest x s
  refine ⟨rfl, rfl, fun i hi => ?_⟩
  have he : (installTable (manifestTable manifest) x s).tu.table.getD i .held =
      installedFromManifest (manifestRegion manifest i) := manifestTable_getD manifest hi
  dsimp only
  rw [he]
  refine ⟨rfl, rfl, fun h => targetCode_targetOfCode h, rfl, ?_, ?_, ?_⟩
  all_goals
    simp only [installedFromManifest, manifestRegion, rightsOfByte, installedRegion]
    by_cases ha : targetOfCode (byteAt manifest (32 + 8 * i + 2)) = .active <;> simp [ha]

end Sys2Proof.AddressMap
end

section
/-! PROOFS. The Boot Port's own commands on a free bus, and the bytes its clocks carry (chapter 2). -/

namespace Sys2Proof.Machine

/-! ### Bytes and clocks (R25, R43, R45) -/

/-- The clocks of a byte that the part receives. -/
def receiveClocks (mode : LaneMode) : Nat := clocksPerByte (receiveLines mode)

theorem receiveClocks_pos (mode : LaneMode) : 0 < receiveClocks mode := by
  cases mode <;> decide

theorem byteClocks_length (mode : LaneMode) (b : Byte) :
    (byteClocks (receiveLines mode) b).length = receiveClocks mode := by
  cases mode <;> rfl

theorem byteOfClocks_single : ∀ b : Byte, byteOfClocks .io0 (byteClocks .io0 b) = b := by
  decide

theorem byteOfClocks_quad : ∀ b : Byte, byteOfClocks .io0to3 (byteClocks .io0to3 b) = b := by
  decide

theorem byteOfClocks_byteClocks (mode : LaneMode) (b : Byte) :
    byteOfClocks (receiveLines mode) (byteClocks (receiveLines mode) b) = b := by
  cases mode with
  | single => exact byteOfClocks_single b
  | quadAll => exact byteOfClocks_quad b

theorem sendClocks_cons (mode : LaneMode) (b : Byte) (rest : Bytes) :
    sendClocks mode (b :: rest) = byteClocks (receiveLines mode) b ++ sendClocks mode rest := rfl

theorem sendClocks_length (mode : LaneMode) (bytes : Bytes) :
    (sendClocks mode bytes).length = receiveClocks mode * bytes.length := by
  induction bytes with
  | nil => rfl
  | cons b rest ih =>
    rw [sendClocks_cons, List.length_append, ih, byteClocks_length, List.length_cons, Nat.mul_succ, Nat.add_comm]

theorem drop_sendClocks (mode : LaneMode) (bytes : Bytes) (k : Nat) :
    (sendClocks mode bytes).drop (receiveClocks mode * k) = sendClocks mode (bytes.drop k) := by
  induction bytes generalizing k with
  | nil => simp [sendClocks]
  | cons b rest ih =>
    cases k with
    | zero => rfl
    | succ k =>
      rw [sendClocks_cons, List.drop_succ_cons, ← ih k, Nat.mul_succ, Nat.add_comm, ← byteClocks_length mode b,
        List.drop_length_add_append]

theorem take_sendClocks (mode : LaneMode) (b : Byte) (rest : Bytes) :
    (sendClocks mode (b :: rest)).take (receiveClocks mode) = byteClocks (receiveLines mode) b := by
  rw [sendClocks_cons, ← byteClocks_length mode b, List.take_left]

theorem receivedBytes_sendClocks (mode : LaneMode) (bytes : Bytes) : receivedBytes mode (sendClocks mode bytes) = bytes := by
  unfold receivedBytes
  dsimp only
  rw [sendClocks_length, show clocksPerByte (receiveLines mode) = receiveClocks mode from rfl,
    Nat.mul_div_cancel_left _ (receiveClocks_pos mode)]
  refine List.ext_getElem (by simp) fun k hk hk' => ?_
  rw [List.getElem_map, List.getElem_range, drop_sendClocks, List.drop_eq_getElem_cons hk', take_sendClocks,
    byteOfClocks_byteClocks]

theorem onBoundary_sendClocks (mode : LaneMode) (bytes : Bytes) : onBoundary mode (sendClocks mode bytes) = true := by
  unfold onBoundary
  rw [sendClocks_length, show clocksPerByte (receiveLines mode) = receiveClocks mode from rfl, Nat.mul_mod_right]
  rfl

theorem commandByte_sendClocks (mode : LaneMode) (b : Byte) (rest : Bytes) :
    commandByte mode (sendClocks mode (b :: rest)) = some (b, sendClocks mode rest) := by
  have hl : ¬ (sendClocks mode (b :: rest)).length < receiveClocks mode := by
    rw [sendClocks_length, List.length_cons, Nat.mul_succ]
    omega
  have hd := drop_sendClocks mode (b :: rest) 1
  rw [Nat.mul_one] at hd
  unfold commandByte
  dsimp only
  rw [show clocksPerByte (receiveLines mode) = receiveClocks mode from rfl, if_neg hl, take_sendClocks,
    byteOfClocks_byteClocks, hd]
  rfl

theorem sendClocks_single_bits (b : Byte) :
    (sendClocks .single [b]).map (fun c => c.getLsbD 0) = (List.range 8).map fun i => b.getLsbD (7 - i) := by
  simp only [sendClocks, byteClocks, receiveLines, List.flatMap_cons, List.flatMap_nil, List.append_nil, List.map_map]
  refine List.map_congr_left fun i _ => ?_
  simp only [Function.comp_apply]
  cases b.getLsbD (7 - i) <;> rfl

theorem sendClocks_quad_groups : ∀ b : Byte,
    (sendClocks .quadAll [b]).map BitVec.toNat = [b.toNat / 16, b.toNat % 16] := by
  decide

/-- R45: the first two of the eight clocks of a byte sent on one line, read in QUAD_ALL. -/
theorem commandByte_quad_single : ∀ b : Byte,
    commandByte .quadAll (sendClocks .single [b]) =
      some ((if b.getLsbD 7 then 0x10 else 0) + (if b.getLsbD 6 then 0x01 else 0), (sendClocks .single [b]).drop 2) := by
  decide

/-! ### The command bytes (R203) -/

theorem busCommandOfByte_some : ∀ b : Byte, (busCommandOfByte b).isSome = true →
    b ∈ ([0x03, 0x0B, 0x6B, 0x06, 0x04, 0x05, 0x9F, 0x02, 0x20, 0xD8, 0xC7, 0x60, 0x66, 0x99, 0x38, 0xFF, 0xD1, 0xD2] :
      Bytes) := by
  decide

/-- The row of a bus command is its transaction. -/
theorem exec_busInstr (c : BusCommand) (clocks : List Clock) (reply : SuspendReply) (s : State) :
    exec (busInstr c clocks reply) s = .next (busCommand c clocks reply s) := by
  cases c with
  | read | fastRead | quadOutputRead | readStatus | readId | managementFetch => rfl
  | writeEnable | writeDisable | pageProgram | managementPost | sectorErase | blockErase | chipErase | resetEnable |
    reset | enterQuadAll | exitQuadAll =>
    conv_rhs => rw [← List.append_nil clocks]
    rfl

/-- Log 30: clocks that spell a command act as its row. -/
theorem exec_ignoredTransaction {s : State} {clocks rest : List Clock} {b : Byte} {c : BusCommand} (reply : SuspendReply)
    (hb : commandByte s.bp.laneMode clocks = some (b, rest)) (hc : busCommandOfByte b = some c) :
    exec (.ignoredTransaction ⟨clocks, reply⟩) s = exec (busInstr c rest reply) s := by
  rw [exec_busInstr]
  show execIgnoredTransaction ⟨clocks, reply⟩ s = _
  simp [execIgnoredTransaction, hb, hc]

/-! ### Taken commands on a free bus (R37, R44, R46, R47) -/

theorem writeEnable_free {s : State} {clocks : List Clock} (h : busFree s = true) :
    writeEnable clocks s =
      if onBoundary s.bp.laneMode clocks && !busyShown s then { afterTransaction s with bp.wel := true }
      else afterTransaction s := by
  rw [writeEnable, takenCommand_free _ _ _ h]
  have hb : busyShown (afterTransaction s) = busyShown s := rfl
  cases onBoundary s.bp.laneMode clocks <;> cases hs : busyShown s <;> simp [hb, hs]

theorem writeDisable_free {s : State} {clocks : List Clock} (h : busFree s = true) :
    writeDisable clocks s =
      if onBoundary s.bp.laneMode clocks then { afterTransaction s with bp.wel := false } else afterTransaction s := by
  rw [writeDisable, takenCommand_free _ _ _ h]
  simp

theorem setLaneMode_free {s : State} {clocks : List Clock} (mode : LaneMode) (h : busFree s = true) :
    setLaneMode mode clocks s =
      if onBoundary s.bp.laneMode clocks then { afterTransaction s with bp.laneMode := mode }
      else afterTransaction s := by
  rw [setLaneMode, takenCommand_free _ _ _ h]
  simp

theorem resetEnable_free {s : State} {clocks : List Clock} (h : busFree s = true) :
    resetEnable clocks s = { afterTransaction s with bp.resetEnable := onBoundary s.bp.laneMode clocks } := by
  rw [resetEnable, transaction_free _ h]
  rfl

theorem resetCommand_free {s : State} {clocks : List Clock} (h : busFree s = true) :
    resetCommand clocks s =
      if onBoundary s.bp.laneMode clocks && s.bp.resetEnable then portReset (afterTransaction s)
      else afterTransaction s := by
  rw [resetCommand, transaction_free _ h]
  rfl

theorem readStatus_free {s : State} (n : Nat) (h : busFree s = true) :
    readStatus n s =
      { afterTransaction s with
        bp.out := List.replicate (bytesBegun (dataOutLines s.bp.laneMode false) n) (statusByte s)
        bp.outLines := dataOutLines s.bp.laneMode false } := by
  rw [readStatus, wholeTransaction_free _ h, driveBytes_afterTransaction, bytesOut_afterTransaction]
  rfl

theorem managementPost_off {s : State} {clocks : List Clock} (h : busFree s = true)
    (hoff : onBoundary s.bp.laneMode clocks = false) : managementPost clocks s = afterTransaction s := by
  rw [managementPost, takenCommand_free _ _ _ h, if_neg (by simp [hoff])]

/-- R39, R40, R203: the bits of the status byte. -/
theorem statusByte_bits (s : State) :
    (statusByte s).getLsbD 0 = decide (s.bp.writeRecord ≠ .none) ∧ (statusByte s).getLsbD 1 = s.bp.wel ∧
    (statusByte s).getLsbD 2 = false ∧ (statusByte s).getLsbD 3 = false ∧ (statusByte s).getLsbD 4 = false ∧
    (statusByte s).getLsbD 5 = (s.mc.flags.scanDone || s.mc.flags.violation || s.mc.flags.bootNotice) ∧
    (statusByte s).getLsbD 6 = s.mc.response.isSome ∧ (statusByte s).getLsbD 7 = decide (s.mc.state ≠ .idle) := by
  show (statusByte s).getLsbD 0 = busyShown s ∧ _ ∧ _ ∧ _ ∧ _ ∧ (statusByte s).getLsbD 5 = eventShown s ∧
    (statusByte s).getLsbD 6 = responseReady s ∧ (statusByte s).getLsbD 7 = managementBusy s
  unfold statusByte
  cases busyShown s <;> cases s.bp.wel <;> cases eventShown s <;> cases responseReady s <;> cases managementBusy s <;>
    decide

/-! ### Programs and erases (R32 to R34) -/

theorem handOver_open {s : State} (c : TakenCommand) (hw : s.bp.wel = true) (hr : s.bp.writeRecord = .none) :
    handOver c s = { s with bp.writeRecord := .deciding c } := by
  simp [handOver, busyShown, hw, hr]

theorem handOver_closed {s : State} (c : TakenCommand) (h : s.bp.wel = false ∨ s.bp.writeRecord ≠ .none) :
    handOver c s = s := by
  obtain h | h := h <;> simp [handOver, busyShown, h]

theorem eraseAt_free {s : State} {clocks : List Clock} (kind : CommandKind) (h : busFree s = true) :
    eraseAt kind clocks s =
      if onBoundary s.bp.laneMode clocks && decide (3 ≤ (receivedBytes s.bp.laneMode clocks).length) then
        handOver ⟨kind, addressOf (receivedBytes s.bp.laneMode clocks), emptyPage⟩ (afterTransaction s)
      else afterTransaction s :=
  takenCommand_free _ _ _ h

theorem chipErase_free {s : State} {clocks : List Clock} (h : busFree s = true) :
    chipErase clocks s =
      if onBoundary s.bp.laneMode clocks then handOver ⟨.chipErase, 0, emptyPage⟩ (afterTransaction s)
      else afterTransaction s := by
  rw [chipErase, takenCommand_free _ _ _ h]
  simp

/-- R32: the page of a program. -/
def pageOf (received : Bytes) : List (Option Byte) :=
  fillPage ((addressOf received).toNat % 256) 0 emptyPage (received.drop 3)

theorem pageProgram_free {s : State} {clocks : List Clock} (h : busFree s = true) :
    pageProgram clocks s =
      if onBoundary s.bp.laneMode clocks && decide (4 ≤ (receivedBytes s.bp.laneMode clocks).length) then
        { handOver ⟨.program, addressOf (receivedBytes s.bp.laneMode clocks), pageOf (receivedBytes s.bp.laneMode clocks)⟩
            (afterTransaction s) with bp.pageBuffer := emptyPage }
      else { afterTransaction s with bp.pageBuffer := emptyPage } := by
  have hl : (afterTransaction s).bp.laneMode = s.bp.laneMode := rfl
  rw [pageProgram, wholeTransaction_free _ h]
  simp only [hl]
  split
  · by_cases hw : s.bp.wel = false ∨ s.bp.writeRecord ≠ .none
    · rw [handOver_closed _ (by exact hw), handOver_closed _ (by exact hw)]
      rfl
    · simp only [not_or, Bool.not_eq_false, not_not] at hw
      rw [handOver_open _ (by exact hw.1) (by exact hw.2), handOver_open _ (by exact hw.1) (by exact hw.2)]
      rfl
  · rfl

theorem eraseAt_notTaken {s : State} {clocks : List Clock} (kind : CommandKind) (hfree : busFree s = true)
    (h : (receivedBytes s.bp.laneMode clocks).length < 3 ∨ onBoundary s.bp.laneMode clocks = false ∨
      s.bp.wel = false ∨ s.bp.writeRecord ≠ .none) : eraseAt kind clocks s = afterTransaction s := by
  rw [eraseAt_free kind hfree]
  obtain h | h | h := h
  · rw [if_neg (by simp; omega)]
  · rw [if_neg (by simp [h])]
  · rw [handOver_closed _ (by exact h), ite_self]

theorem chipErase_notTaken {s : State} {clocks : List Clock} (hfree : busFree s = true)
    (h : onBoundary s.bp.laneMode clocks = false ∨ s.bp.wel = false ∨ s.bp.writeRecord ≠ .none) :
    chipErase clocks s = afterTransaction s := by
  rw [chipErase_free hfree]
  obtain h | h := h
  · rw [if_neg (by simp [h])]
  · rw [handOver_closed _ (by exact h), ite_self]

theorem pageProgram_notTaken {s : State} {clocks : List Clock} (hfree : busFree s = true)
    (h : (receivedBytes s.bp.laneMode clocks).length < 4 ∨ onBoundary s.bp.laneMode clocks = false ∨
      s.bp.wel = false ∨ s.bp.writeRecord ≠ .none) :
    pageProgram clocks s = { afterTransaction s with bp.pageBuffer := emptyPage } := by
  rw [pageProgram_free hfree]
  obtain h | h | h := h
  · rw [if_neg (by simp; omega)]
  · rw [if_neg (by simp [h])]
  · rw [handOver_closed _ (by exact h), ite_self]

theorem fillPage_append (start k : Nat) (page : List (Option Byte)) (data : Bytes) (b : Byte) :
    fillPage start k page (data ++ [b]) =
      (fillPage start k page data).set ((start + (k + data.length)) % 256) (some b) := by
  induction data generalizing k page with
  | nil => rfl
  | cons x rest ih =>
    show fillPage start (k + 1) _ (rest ++ [b]) = _
    rw [ih, Nat.add_right_comm, Nat.add_assoc]
    rfl

theorem fillPage_length (start k : Nat) (page : List (Option Byte)) (data : Bytes) :
    (fillPage start k page data).length = page.length := by
  induction data generalizing k page with
  | nil => rfl
  | cons x rest ih => rw [fillPage, ih, List.length_set]

theorem fillPage_emptyPage_length (start : Nat) (data : Bytes) : (fillPage start 0 emptyPage data).length = 256 := by
  rw [fillPage_length]
  exact List.length_replicate

/-- R32: at each position the last data byte given for it, or empty. -/
theorem fillPage_getD (start : Nat) (data : Bytes) {i : Nat} (hi : i < 256) :
    (fillPage start 0 emptyPage data).getD i none =
      ((List.range data.length).reverse.find? fun k => (start + k) % 256 = i).map fun k => data.getD k 0 := by
  induction data using List.reverseRecOn with
  | nil => exact List.getD_replicate _ hi
  | append_singleton data b ih =>
    have hlen : (fillPage start 0 emptyPage data).length = 256 := fillPage_emptyPage_length ..
    rw [fillPage_append, Nat.zero_add, List.length_append, List.length_singleton, List.range_succ, List.reverse_append,
      List.reverse_singleton, List.singleton_append]
    by_cases hk : (start + data.length) % 256 = i
    · rw [List.find?_cons_of_pos (by simpa using hk), hk, List.getD_eq_getElem?_getD,
        List.getElem?_set_self (by rw [hlen]; exact hi)]
      simp
    · rw [List.find?_cons_of_neg (by simpa using hk), List.getD_eq_getElem?_getD, List.getElem?_set_ne hk,
        ← List.getD_eq_getElem?_getD, ih]
      refine Option.map_congr fun k hmem => ?_
      have hlt : k < data.length := List.mem_range.1 (List.mem_reverse.1 (List.mem_of_find?_eq_some hmem))
      simp [List.getD_eq_getElem?_getD, List.getElem?_append_left hlt]

/-- R22: what a refusal makes of the violation record. -/
theorem enterRefusal_eq (tu : TranslationUnit) (a : LogicalAddress) (kind : CommandKind) (reason : RefusalReason) :
    enterRefusal tu a kind reason =
      { tu with
        violations := if tu.violations < 65535 then tu.violations + 1 else tu.violations
        firstRefusal := if tu.violations = 0 then some ⟨a, kind, reason⟩ else tu.firstRefusal } := by
  unfold enterRefusal
  split
  · next h => simp [h]
  · split <;> rfl

/-! ### While RST_N is low (R106, log 9) -/

theorem transaction_held {s : State} {act : State → State} (h : s.rstLow = true) : transaction act s = freshPort s :=
  if_pos h

theorem busCommand_held {c : BusCommand} {clocks : List Clock} {reply : SuspendReply} {s : State}
    (h : s.rstLow = true) : busCommand c clocks reply s = freshPort s := by
  cases c <;>
    simp [busCommand, readCommand, writeEnable, writeDisable, readStatus, pageProgram, managementPost, managementFetch,
      eraseAt, chipErase, readId, resetEnable, resetCommand, setLaneMode, takenCommand, wholeTransaction,
      transaction_held h]

theorem effect_held {c : Instr} {s t : State} (h : s.rstLow = true) (hb : beginsTransaction c = true)
    (he : Effect s c t) : t = freshPort s := by
  cases he with
  | request r proof body =>
    have ho : openForTaking s = false := by simp [openForTaking, h]
    simp only [requestCommand, ho, Bool.false_eq_true, if_false]
    exact transaction_held h
  | read => exact transaction_held h
  | bus => exact busCommand_held h
  | status => simp [readStatus, wholeTransaction, transaction_held h]
  | id => simp [readId, wholeTransaction, transaction_held h]
  | fetch => exact transaction_held h
  | ignored => exact transaction_held h
  | _ => cases hb

/-! ### The reset-enable state (R46, R47) -/

/-- R46: the reset-enable state is clear, or will be when the transaction in progress ends. -/
def ResetUndone (s : State) : Prop :=
  s.bp.resetEnable = false ∨ s.bp.readTxn.isSome = true ∨ s.bp.fetchTxn.isSome = true

theorem endFetch_resetEnable {s : State} (h : s.bp.fetchTxn.isSome = true) : (endFetch s).bp.resetEnable = false := by
  obtain ⟨t, ht⟩ := Option.isSome_iff_exists.1 h
  simp [endFetch, ht]

theorem endRead_resetEnable {s : State} (h : s.bp.resetEnable = false ∨ s.bp.readTxn.isSome = true) :
    (endRead s).bp.resetEnable = false := by
  unfold endRead
  split
  · next hn => exact h.resolve_right (by simp [hn])
  · dsimp only
    split <;> simp

theorem resetUndone_begun {s : State} (h : ResetUndone s) : (transactionBegun s).bp.resetEnable = false := by
  refine endRead_resetEnable ?_
  obtain h | h | h := h
  · cases hf : s.bp.fetchTxn with
    | none => exact .inl (by simpa [endFetch, hf] using h)
    | some t => exact .inl (endFetch_resetEnable (by simp [hf]))
  · exact .inr (by simpa using h)
  · exact .inl (endFetch_resetEnable h)

theorem resetCommand_undone {s : State} (clocks : List Clock) (hl : s.rstLow = false) (h : ResetUndone s) :
    resetCommand clocks s = transactionBegun s := by
  have hr := resetUndone_begun h
  rw [resetCommand, transaction_eq, hl, if_neg (by simp), hr, Bool.and_false, if_neg (by simp)]
  unfold clearResetEnable
  rw [← hr]

/-- The end of a read and of a FETCH leaves the page buffer and the intake. -/
theorem endRead_bp (s : State) :
    (endRead s).bp = s.bp ∨ (endRead s).bp = { s.bp with readTxn := none, resetEnable := false } := by
  unfold endRead
  split
  · exact .inl rfl
  · dsimp only
    split
    · exact .inr (by simp)
    · exact .inr rfl

theorem reportFetch_bp (t : FetchTxn) (s : State) :
    (reportFetch t s).bp = { s.bp with fetchTxn := (reportFetch t s).bp.fetchTxn } := by
  unfold reportFetch scrub
  (repeat' split) <;> rfl

theorem endFetch_bp (s : State) :
    (endFetch s).bp = s.bp ∨ (endFetch s).bp = { s.bp with fetchTxn := none, resetEnable := false } := by
  unfold endFetch
  split
  · exact .inl rfl
  · next t _ =>
    refine .inr ?_
    dsimp only
    rw [reportFetch_bp]

theorem transactionBegun_buffers (s : State) :
    (transactionBegun s).bp.pageBuffer = s.bp.pageBuffer ∧ (transactionBegun s).bp.intakeCount = s.bp.intakeCount ∧
      (transactionBegun s).bp.intake = s.bp.intake := by
  have hread := endRead_bp (endFetch (freshPort s))
  have hfetch := endFetch_bp (freshPort s)
  unfold transactionBegun endOpenTransaction
  obtain hr | hr := hread <;> obtain hf | hf := hfetch <;> simp [hr, hf]

/-- R46: what a transaction other than RESET_ENABLE and RESET leaves. -/
def PairUndone (t : State) : Prop := ResetUndone t ∧ t.rstLow = false

/-- An act that leaves the reset-enable state and RST_N alone. -/
def KeepsPair (s t : State) : Prop := t.bp.resetEnable = s.bp.resetEnable ∧ t.rstLow = s.rstLow

theorem wholeTransaction_undone {s : State} {act : State → State} (hfree : busFree s = true)
    (h : ∀ u, KeepsPair u (act u)) : PairUndone (wholeTransaction act s) := by
  obtain ⟨hr, hl⟩ := h (afterTransaction s)
  rw [wholeTransaction_free _ hfree]
  exact ⟨.inl hr, hl.trans (busFree_iff.1 hfree).1⟩

theorem takenCommand_undone {s : State} {leading : Nat} {clocks : List Clock} {act : Bytes → State → State}
    (hfree : busFree s = true) (h : ∀ received u, KeepsPair u (act received u)) :
    PairUndone (takenCommand leading clocks act s) := by
  refine wholeTransaction_undone hfree fun u => ?_
  dsimp only
  split
  · exact h _ u
  · exact ⟨rfl, rfl⟩

theorem post_keepsPair {sent : Bytes} {dispatch : State → State} (hd : ∀ u, KeepsPair u (dispatch u)) (s : State) :
    KeepsPair s (post sent dispatch s) := by
  unfold post receivePost
  dsimp only
  split
  · exact ⟨rfl, rfl⟩
  · split
    · exact ⟨rfl, rfl⟩
    · exact hd _

theorem dispatchByCode_keepsPair (s : State) : KeepsPair s (dispatchByCode s) := by
  unfold dispatchByCode
  split
  · exact ⟨rfl, rfl⟩
  · exact ⟨by simp, by simp⟩

theorem handOver_keepsPair (c : TakenCommand) (s : State) : KeepsPair s (handOver c s) := by
  unfold handOver
  split <;> exact ⟨rfl, rfl⟩

theorem pageProgram_undone {s : State} (clocks : List Clock) (hfree : busFree s = true) :
    PairUndone (pageProgram clocks s) := by
  rw [pageProgram_free hfree]
  split
  · obtain ⟨hr, hl⟩ := handOver_keepsPair
      ⟨.program, addressOf (receivedBytes s.bp.laneMode clocks), pageOf (receivedBytes s.bp.laneMode clocks)⟩
      (afterTransaction s)
    exact ⟨.inl hr, hl.trans (busFree_iff.1 hfree).1⟩
  · exact ⟨.inl rfl, (busFree_iff.1 hfree).1⟩

theorem beginRun_readTxn (p : Nat) (reply : SuspendReply) (s : State) :
    (beginRun p reply s).bp.readTxn.isSome = s.bp.readTxn.isSome := by
  unfold beginRun
  dsimp only
  split <;> simp

theorem supplyByte_readTxn (reply : SuspendReply) (s : State) :
    (supplyByte reply s).bp.readTxn.isSome = s.bp.readTxn.isSome := by
  unfold supplyByte
  split
  · rfl
  · split
    · rfl
    · split
      · simp [driveByte]
      · next i p _ =>
        have hrun : (if s.fp.run = some p then s else beginRun p reply s).bp.readTxn.isSome = s.bp.readTxn.isSome := by
          split
          · rfl
          · exact beginRun_readTxn ..
        rw [← hrun]
        generalize (if s.fp.run = some p then s else beginRun p reply s) = u
        dsimp only
        split
        · rfl
        · simp [driveByte]

theorem supplyBytes_readTxn (reply : SuspendReply) (n : Nat) (s : State) :
    (supplyBytes reply n s).bp.readTxn.isSome = s.bp.readTxn.isSome := by
  induction n generalizing s with
  | zero => rfl
  | succ n ih => exact (ih _).trans (supplyByte_readTxn reply s)

theorem clockData_readTxn (reply : SuspendReply) (n : Nat) (s : State) :
    (clockData reply n s).bp.readTxn.isSome = s.bp.readTxn.isSome := by
  unfold clockData
  split
  · rfl
  · next t ht =>
    split
    · simp [supplyBytes_readTxn, ht]
    · rfl

theorem startStream_readTxn (reply : SuspendReply) (s : State) :
    (startStream reply s).bp.readTxn.isSome = s.bp.readTxn.isSome := by
  unfold startStream
  split
  · rfl
  · exact beginRun_readTxn ..

theorem readCommand_undone {s : State} (leading : Nat) (quad : Bool) (clocks : List Clock) (n : Nat)
    (reply : SuspendReply) (hfree : busFree s = true) : PairUndone (readCommand leading quad clocks n reply s) := by
  refine ⟨.inr (.inl ?_), (quiet_readCommand ..).rstLow.trans (busFree_iff.1 hfree).1⟩
  rw [readCommand, transaction_free _ hfree]
  dsimp only
  rw [clockData_readTxn]
  split
  · rw [startStream_readTxn]
    rfl
  · rfl

theorem managementFetch_undone {s : State} (n : Nat) (hfree : busFree s = true) : PairUndone (managementFetch n s) := by
  refine ⟨.inr (.inr ?_), (quiet_managementFetch ..).rstLow.trans (busFree_iff.1 hfree).1⟩
  rw [managementFetch, transaction_free _ hfree]
  rfl

theorem readStatus_undone {s : State} (n : Nat) (hfree : busFree s = true) : PairUndone (readStatus n s) := by
  refine wholeTransaction_undone hfree fun u => ?_
  exact ⟨rfl, rfl⟩

theorem readId_undone {s : State} (n : Nat) (hfree : busFree s = true) : PairUndone (readId n s) := by
  refine wholeTransaction_undone hfree fun u => ?_
  exact ⟨rfl, rfl⟩

theorem busCommand_undone {c : BusCommand} {s : State} (clocks : List Clock) (reply : SuspendReply)
    (hfree : busFree s = true) (hc : c ≠ .resetEnable ∧ c ≠ .reset) : PairUndone (busCommand c clocks reply s) := by
  cases c with
  | read => exact readCommand_undone _ _ _ _ _ hfree
  | fastRead => exact readCommand_undone _ _ _ _ _ hfree
  | quadOutputRead => exact readCommand_undone _ _ _ _ _ hfree
  | writeEnable =>
    show PairUndone (writeEnable clocks s)
    refine takenCommand_undone hfree fun _ u => ?_
    split <;> exact ⟨rfl, rfl⟩
  | writeDisable =>
    show PairUndone (writeDisable clocks s)
    refine takenCommand_undone hfree fun _ u => ?_
    exact ⟨rfl, rfl⟩
  | readStatus => exact readStatus_undone _ hfree
  | pageProgram => exact pageProgram_undone clocks hfree
  | managementPost =>
    show PairUndone (managementPost clocks s)
    exact takenCommand_undone hfree fun _ u => post_keepsPair dispatchByCode_keepsPair u
  | managementFetch => exact managementFetch_undone _ hfree
  | sectorErase =>
    show PairUndone (eraseAt .sectorErase clocks s)
    exact takenCommand_undone hfree fun _ u => handOver_keepsPair _ u
  | blockErase =>
    show PairUndone (eraseAt .blockErase clocks s)
    exact takenCommand_undone hfree fun _ u => handOver_keepsPair _ u
  | chipErase =>
    show PairUndone (chipErase clocks s)
    exact takenCommand_undone hfree fun _ u => handOver_keepsPair _ u
  | readId => exact readId_undone _ hfree
  | resetEnable => exact absurd rfl hc.1
  | reset => exact absurd rfl hc.2
  | enterQuadAll =>
    show PairUndone (setLaneMode .quadAll clocks s)
    refine takenCommand_undone hfree fun _ u => ?_
    exact ⟨rfl, rfl⟩
  | exitQuadAll =>
    show PairUndone (setLaneMode .single clocks s)
    refine takenCommand_undone hfree fun _ u => ?_
    exact ⟨rfl, rfl⟩

/-- R46: any transaction but RESET_ENABLE and RESET undoes the pair. -/
theorem effect_undone {c : Instr} {s t : State} (h : Effect s c t) (hfree : busFree s = true)
    (hb : beginsTransaction c = true)
    (hc : ∀ x, spells s.bp.laneMode c ≠ some (.resetEnable, x) ∧ spells s.bp.laneMode c ≠ some (.reset, x)) :
    PairUndone t := by
  cases h with
  | request r proof body =>
    simp only [requestCommand, openForTaking_free hfree, Bool.false_eq_true, if_false]
    refine wholeTransaction_undone hfree fun u => post_keepsPair (fun v => ?_) u
    exact ⟨by simp, by simp⟩
  | read => exact readCommand_undone _ _ _ _ _ hfree
  | @bus _ b clocks reply hs _ =>
    refine busCommand_undone clocks reply hfree ⟨?_, ?_⟩
    · rintro rfl
      exact (hc clocks).1 hs
    · rintro rfl
      exact (hc clocks).2 hs
  | status n => exact readStatus_undone n hfree
  | id n => exact readId_undone n hfree
  | fetch n => exact managementFetch_undone n hfree
  | ignored => exact wholeTransaction_undone hfree fun u => ⟨rfl, rfl⟩
  | _ => cases hb

theorem runCommands_two {c d : Instr} {s t u : State} (h : exec c s = .next t) (h' : exec d t = .next u) :
    runCommands [c, d] s = some u := by
  simp [runCommands, h, h']

end Sys2Proof.Machine

namespace Sys2Proof.BootTraffic

open Sys2Proof Sys2Proof.Machine

/-- Settles O29: on a free bus READ_STATUS drives the status byte, read bit by bit. -/
theorem statusByteShowsFiveIndications : Obligations.StatusByteShowsFiveIndications := by
  unfold Obligations.StatusByteShowsFiveIndications
  exact fun s n hfree => ⟨congrArg Host.Outcome.next (readStatus_free n hfree), statusByte_bits s⟩

/-- Settles O31: from the commands on a free bus, the clocks of a byte in each mode, and the command bytes. -/
theorem latchAndLaneModeCommands : Obligations.LatchAndLaneModeCommands := by
  unfold Obligations.LatchAndLaneModeCommands
  refine ⟨fun s phases extra hfree hon => ⟨fun hr => ?_, fun hr => ?_, ?_, ?_, ?_⟩, fun mode bytes => ⟨?_, ?_, ?_⟩,
    fun b => ⟨sendClocks_single_bits b, sendClocks_quad_groups b, rfl, commandByte_quad_single b⟩, fun mode => ?_, rfl,
    busCommandOfByte_some, fun s clocks rest reply b c hb hc => exec_ignoredTransaction reply hb hc⟩
  · exact congrArg Host.Outcome.next ((writeEnable_free hfree).trans (if_pos (by simp [hon, busyShown, hr])))
  · exact congrArg Host.Outcome.next ((writeEnable_free hfree).trans (if_neg (by simp [busyShown, hr])))
  · exact congrArg Host.Outcome.next ((writeDisable_free hfree).trans (if_pos hon))
  · exact congrArg Host.Outcome.next ((setLaneMode_free _ hfree).trans (if_pos hon))
  · exact congrArg Host.Outcome.next ((setLaneMode_free _ hfree).trans (if_pos hon))
  · exact receivedBytes_sendClocks mode bytes
  · exact onBoundary_sendClocks mode bytes
  · rintro b rest rfl
    exact commandByte_sendClocks mode b rest
  · cases mode <;> rfl

/-- Settles O33: held by RST_N no transaction begins; off a boundary, short or closed, a command's act is skipped. -/
theorem notTakenChangesNothing : Obligations.NotTakenChangesNothing := by
  unfold Obligations.NotTakenChangesNothing
  refine ⟨fun c s h hb => ?_, fun s phases extra reply op hfree => ?_⟩
  · obtain ⟨t, ht, he⟩ := exec_effect c s
    rw [ht, effect_held h hb he]
    rfl
  · dsimp only
    refine ⟨fun hc => ?_, fun hoff => ?_, fun h => ?_, fun h => ?_, fun h => ?_⟩
    · obtain hn | ⟨b, rest, hb, hn⟩ := hc
      · show execIgnoredTransaction _ s = _
        simp [execIgnoredTransaction, hn, Machine.ignored, wholeTransaction_free _ hfree]
      · show execIgnoredTransaction _ s = _
        simp [execIgnoredTransaction, hb, hn, Machine.ignored, wholeTransaction_free _ hfree]
    · have hreset : { afterTransaction s with bp.resetEnable := onBoundary s.bp.laneMode (phases ++ extra) } =
          afterTransaction s := by rw [hoff]; rfl
      exact ⟨congrArg _ ((writeEnable_free hfree).trans (if_neg (by simp [hoff]))),
        congrArg _ ((writeDisable_free hfree).trans (if_neg (by simp [hoff]))),
        congrArg _ ((setLaneMode_free _ hfree).trans (if_neg (by simp [hoff]))),
        congrArg _ ((setLaneMode_free _ hfree).trans (if_neg (by simp [hoff]))),
        congrArg _ ((resetEnable_free hfree).trans hreset),
        congrArg _ ((resetCommand_free hfree).trans (if_neg (by simp [hoff]))),
        congrArg _ (managementPost_off hfree hoff)⟩
    · exact ⟨congrArg _ (eraseAt_notTaken _ hfree h), congrArg _ (eraseAt_notTaken _ hfree h)⟩
    · exact congrArg _ (chipErase_notTaken hfree h)
    · exact congrArg _ (pageProgram_notTaken hfree h)

/-- Settles O34: the page by its last byte at each position. -/
theorem programsAndErasesAreHandedOver : Obligations.ProgramsAndErasesAreHandedOver := by
  unfold Obligations.ProgramsAndErasesAreHandedOver
  intro s phases extra hfree hw hr hon
  refine ⟨fun h4 => ⟨pageOf (receivedBytes s.bp.laneMode (phases ++ extra)), fillPage_emptyPage_length .., fun i hi => fillPage_getD _ _ hi, ?_⟩, fun h3 => ?_⟩
  · refine congrArg Host.Outcome.next ((pageProgram_free hfree).trans ((if_pos (by simp [hon, h4])).trans ?_))
    rw [handOver_open _ (by exact hw) (by exact hr)]
    rfl
  · have herase : ∀ kind, eraseAt kind (phases ++ extra) s =
        { afterTransaction s with
          bp.writeRecord := .deciding ⟨kind, addressOf (receivedBytes s.bp.laneMode (phases ++ extra)), emptyPage⟩ } :=
      fun kind => ((eraseAt_free kind hfree).trans (if_pos (by simp [hon, h3]))).trans (handOver_open _ hw hr)
    exact ⟨congrArg Host.Outcome.next (herase .sectorErase), congrArg Host.Outcome.next (herase .blockErase)⟩

/-- Settles O35: every chip erase is handed over, and its verdict refuses it whatever the table says. -/
theorem chipEraseIsAlwaysRefused : Obligations.ChipEraseIsAlwaysRefused := by
  unfold Obligations.ChipEraseIsAlwaysRefused
  intro s op phases extra hfree hw hr hon hdue
  dsimp only
  refine ⟨?_, ?_, ?_, ?_⟩
  · exact congrArg _ ((chipErase_free hfree).trans ((if_pos hon).trans (handOver_open _ hw hr)))
  · rw [(statusByte_bits _).1]
    rfl
  · rw [(statusByte_bits _).2.1]
    exact hw
  · show Host.Outcome.next (unlessRestartDue writeVerdict (freshPort _)) = _
    rw [unlessRestartDue_notDue _ (by exact hdue)]
    show Host.Outcome.next (applyVerdict ⟨.chipErase, 0, _⟩ _) = _
    rw [applyVerdict, decideCommand_chipErase _ _ _ rfl]
    dsimp only
    rw [refuseCommand, enterRefusal_eq, ← hr]
    rfl

/-- Settles O32: a RESET right after the pair's first half, and after any other transaction. -/
theorem portResetNeedsConsecutivePair : Obligations.PortResetNeedsConsecutivePair := by
  unfold Obligations.PortResetNeedsConsecutivePair
  intro s phases extra hfree hon
  have henable : exec (.resetEnable phases extra) s = .next { afterTransaction s with bp.resetEnable := true } :=
    congrArg _ ((resetEnable_free hfree).trans (by rw [hon]))
  refine ⟨henable, fun hr => ?_, fun hr => ?_, fun c phases' extra' hb he hreset => ?_⟩
  · exact congrArg _ ((resetCommand_free hfree).trans (if_pos (by simp [hon, hr])))
  · exact congrArg _ ((resetCommand_free hfree).trans (if_neg (by simp [hr])))
  · obtain ⟨u, hu, heff⟩ := exec_effect c { afterTransaction s with bp.resetEnable := true }
    obtain ⟨hundone, hlow⟩ := effect_undone heff (by exact hfree) hb fun x => ⟨he x, hreset x⟩
    refine ⟨u, transactionBegun u, runCommands_two henable hu, congrArg _ (resetCommand_undone _ hlow hundone), resetUndone_begun hundone, ?_⟩
    obtain ⟨hpage, hcount, hintake⟩ := transactionBegun_buffers u
    exact ⟨by simp, by simp, hpage, hcount, hintake, by simp⟩

end Sys2Proof.BootTraffic
end

section
/-! PROOFS. The verdicts, the ends of the in-flight operation, and the narrowing of a region (chapters 1 to 3). -/

namespace Sys2Proof.Machine

/-! ### An operation that starts or waits (R56) -/

theorem startAbsorption_sent (s : State) : (startAbsorption s).fp.sent = s.fp.sent := by
  unfold startAbsorption chunkTaken requestSegmentChunk placeChunkRequest
  (repeat' split) <;> rfl

/-- R72: without a chunk in its slot the scan's item asks for no further chunk. -/
theorem startAbsorption_noSlot {s : State} (h : ∀ i, s.de.scan = some i → i.chunkSlot = none) :
    (startAbsorption s).fp = s.fp ∧ (startAbsorption s).isc = s.isc := by
  unfold startAbsorption
  split
  · exact ⟨rfl, rfl⟩
  · split
    · exact ⟨rfl, rfl⟩
    · next i hw hi =>
      split
      · exact ⟨rfl, rfl⟩
      · next hk =>
        have hslot : i.chunkSlot = none := h i hi
        simp only [chooseWork, hi, Option.any_some, hk, hslot] at hw
        cases hc : s.de.channel <;> simp [hc] at hw
    · exact ⟨rfl, rfl⟩

/-- R62: while an operation is in flight, no chunk read starts. -/
theorem settle_inFlight {s : State} {o : FlightOp} (ho : s.fp.op = some o) :
    settle s = startSignature (startAbsorption (startOperation s)) := by
  have hsome : (startOperation s).fp.op.isSome = true := by
    unfold startOperation
    rw [ho]
    dsimp only
    split
    · rfl
    · simp [ho]
  rw [settle_notDue (restartDue_op (by simp [ho])), startChunkRead_op (by simpa using hsome)]

theorem startOperation_held {s : State} (h : flashHeld s = true) : startOperation s = s := by
  unfold startOperation
  split
  · rfl
  · simp [h]

theorem startOperation_started {s : State} {o : FlightOp} (ho : s.fp.op = some o) (hq : o.phase = .queued)
    (hf : flashHeld s = false) :
    startOperation s =
      send (operationCommands o) { preemptChunk s with fp.op := some { o with phase := .running, runningTime := 0 } } := by
  simp [startOperation, ho, hq, hf]

/-- R56: a queued operation starts unless an upstream read transaction holds the flash. -/
theorem settle_queuedOp {s : State} {o : FlightOp} (ho : s.fp.op = some o) (hq : o.phase = .queued) :
    (settle s).fp.op =
      some { o with
        phase := if flashHeld s then .queued else .running
        runningTime := if flashHeld s then o.runningTime else 0 } := by
  have hset : (settle s).fp.op = (startOperation s).fp.op := by simp [settle_inFlight ho]
  rw [hset]
  cases hf : flashHeld s with
  | true =>
    rw [startOperation_held hf, ho, ← hq]
    rfl
  | false =>
    rw [startOperation_started ho hq hf]
    rfl

theorem preemptChunk_sent (s : State) : (preemptChunk s).fp.sent = s.fp.sent := by
  unfold preemptChunk
  (repeat' split) <;> rfl

/-- R56: the commands of an operation that starts. -/
theorem settle_startedSent {s : State} {o : FlightOp} (ho : s.fp.op = some o) (hq : o.phase = .queued)
    (hf : flashHeld s = false) : (settle s).fp.sent = s.fp.sent ++ operationCommands o := by
  have hsig : ∀ u, (startSignature u).fp = u.fp := fun u => by simp
  rw [settle_inFlight ho, hsig, startAbsorption_sent, startOperation_started ho hq hf]
  show (preemptChunk s).fp.sent ++ _ = _
  rw [preemptChunk_sent]

theorem preemptChunk_preempts {s : State} {c : ChunkRequest} (hc : s.fp.chunk = some c) (hr : c.reading = true) :
    (preemptChunk s).fp.chunk = some { c with reading := false } ∧ (preemptChunk s).fp.chunkBuffer = [] ∧
      (preemptChunk s).isc.staging = if c.owner = .stagedScan then countPreemption s.isc.staging else s.isc.staging := by
  simp [preemptChunk, hc, hr]

/-- R63: an operation that starts preempts a chunk read. -/
theorem settle_startedPreempts {s : State} {o : FlightOp} (ho : s.fp.op = some o) (hq : o.phase = .queued)
    (hf : flashHeld s = false) (hslot : ∀ i, s.de.scan = some i → i.chunkSlot = none) : chunkPreempted s (settle s) := by
  intro c hc hr
  obtain ⟨hchunk, hbuffer, hstaging⟩ := preemptChunk_preempts hc hr
  have hsig : ∀ u, (startSignature u).fp = u.fp ∧ (startSignature u).isc = u.isc := fun u => by simp
  have hde : ∀ i, (startOperation s).de.scan = some i → i.chunkSlot = none := by simpa using hslot
  obtain ⟨hfp, hisc⟩ := startAbsorption_noSlot hde
  rw [settle_inFlight ho, (hsig _).1, (hsig _).2, hfp, hisc, startOperation_started ho hq hf]
  exact ⟨hchunk, hbuffer, hstaging⟩

/-! ### The decision on a list of units (R17) -/

theorem decideUnits_ok {α : Type} {check : LogicalAddress → Except RefusalReason (Nat × Bool)} {unit : α → LogicalAddress}
    {target : α → Nat} {staged : α → Bool} {l : List α} (targets : List Nat) (inStaging : Bool)
    (hok : ∀ k ∈ l, check (unit k) = .ok (target k, staged k)) :
    decideUnits check targets inStaging (l.map unit) = .allowed (targets ++ l.map target) (inStaging || l.any staged) := by
  induction l generalizing targets inStaging with
  | nil => simp [decideUnits]
  | cons u rest ih =>
    obtain ⟨hu, hrest⟩ := List.forall_mem_cons.mp hok
    simp [decideUnits, hu, ih _ _ hrest, Bool.or_assoc]

theorem decideUnits_lowest {check : LogicalAddress → Except RefusalReason (Nat × Bool)} {before after : List LogicalAddress}
    {u : LogicalAddress} {reason : RefusalReason} (targets : List Nat) (inStaging : Bool)
    (hok : ∀ v ∈ before, ∃ r, check v = .ok r) (hu : check u = .error reason) :
    decideUnits check targets inStaging (before ++ u :: after) = .refused u reason := by
  induction before generalizing targets inStaging with
  | nil => simp [decideUnits, hu]
  | cons v rest ih =>
    obtain ⟨⟨r, hv⟩, hrest⟩ := List.forall_mem_cons.mp hok
    simp [decideUnits, hv, ih _ _ hrest]

theorem decideCommand_error {tu : TranslationUnit} {m : Option SlotMap} {staging : StagingState} {c : TakenCommand}
    {u : LogicalAddress} {reason : RefusalReason} (hkind : c.kind ≠ .chipErase)
    (hunits : decideUnits (checkUnit tu m staging c.kind) [] false (unitsOf c) = .refused u reason) :
    decideCommand tu m staging c = .refused (recordedAddress c u) reason := by
  unfold decideCommand
  split
  · next hchip => exact absurd hchip hkind
  · rw [hunits]

theorem checkUnit_unmapped {tu : TranslationUnit} {m : Option SlotMap} (staging : StagingState) (kind : CommandKind)
    {a : LogicalAddress} (htr : translate tu.table tu.selector m a = none) :
    checkUnit tu m staging kind a = .error .unmapped := by
  simp [checkUnit, htr]

theorem checkUnit_closed {tu : TranslationUnit} {m : Option SlotMap} {staging : StagingState} {kind : CommandKind}
    {a : LogicalAddress} {f : Found} {p : Nat} (htr : translate tu.table tu.selector m a = some (f, p))
    (hright : hasNeededRight kind f.region.live = true) (htarget : f.region.target = .staging)
    (hclosed : stagingAdmits staging = false) : checkUnit tu m staging kind a = .error .stagingClosed := by
  simp [checkUnit, htr, hright, htarget, hclosed]

theorem checkUnit_passed {tu : TranslationUnit} {m : Option SlotMap} {staging : StagingState} {kind : CommandKind}
    {a : LogicalAddress} {f : Found} {p : Nat} (htr : translate tu.table tu.selector m a = some (f, p))
    (hright : hasNeededRight kind f.region.live = true)
    (hopen : f.region.target = .staging → stagingAdmits staging = true) :
    checkUnit tu m staging kind a = .ok (p, decide (f.region.target = .staging)) := by
  by_cases ht : f.region.target = .staging
  · simp [checkUnit, htr, hright, ht, hopen ht]
  · simp [checkUnit, htr, hright, ht]

theorem stagingAdmits_iff {x : StagingState} : stagingAdmits x = true ↔ x = .opened ∨ x = .verifying := by
  cases x <;> simp [stagingAdmits]

/-! ### The event WRITE_VERDICT (R34) -/

section Verdict

variable {s : State} {c : TakenCommand} (hw : s.bp.writeRecord = .deciding c) (hdue : restartDue s = false)
include hw hdue

theorem exec_writeVerdict : exec .writeVerdict s = .next (applyVerdict c (freshPort s)) := by
  have hdue' : restartDue (freshPort s) = false := hdue
  show Host.Outcome.next (unlessRestartDue writeVerdict (freshPort s)) = _
  rw [unlessRestartDue_notDue _ hdue', writeVerdict, show (freshPort s).bp.writeRecord = .deciding c from hw]

theorem exec_writeVerdict_refused {a : LogicalAddress} {reason : RefusalReason}
    (h : decideCommand s.tu s.store.slotMap s.isc.staging.state c = .refused a reason) :
    exec .writeVerdict s = .next (refuseCommand c a reason (freshPort s)) := by
  have h' : decideCommand (freshPort s).tu (freshPort s).store.slotMap (freshPort s).isc.staging.state c = .refused a reason := h
  rw [exec_writeVerdict hw hdue, applyVerdict, h']

theorem exec_writeVerdict_allowed {targets : List Nat} {inStaging : Bool}
    (h : decideCommand s.tu s.store.slotMap s.isc.staging.state c = .allowed targets inStaging) :
    exec .writeVerdict s = .next (settle (allowCommand c targets inStaging (freshPort s))) := by
  have h' : decideCommand (freshPort s).tu (freshPort s).store.slotMap (freshPort s).isc.staging.state c =
    .allowed targets inStaging := h
  rw [exec_writeVerdict hw hdue, applyVerdict, h']

end Verdict

/-- R22, R34: what a refusal changes. -/
theorem refuseCommand_eq (c : TakenCommand) (a : LogicalAddress) (reason : RefusalReason) (s : State) :
    refuseCommand c a reason (freshPort s) =
      { s with
        bp := { s.bp with writeRecord := .none, wel := false }
        fp := { s.fp with sent := [] }
        mc := { s.mc with flags.violation := true }
        tu :=
          { s.tu with
            violations := if s.tu.violations < 65535 then s.tu.violations + 1 else s.tu.violations
            firstRefusal := if s.tu.violations = 0 then some ⟨a, c.kind, reason⟩ else s.tu.firstRefusal } } := by
  rw [refuseCommand, enterRefusal_eq]
  rfl

/-- R34, R55: what an allowed command leaves, whether or not it is a write into staging. -/
structure AllowedFrame (s t : State) : Prop where
  bp : t.bp = { s.bp with writeRecord := .inFlight, wel := false }
  tu : t.tu = s.tu
  flash : t.flash = s.flash
  store : t.store = s.store
  lanes : t.lanes = s.lanes
  socRun : t.socRun = s.socRun

theorem allowCommand_op (c : TakenCommand) (targets : List Nat) (inStaging : Bool) (s : State) :
    (allowCommand c targets inStaging s).fp.op = some (operationOf c targets) := rfl

theorem allowCommand_allowed (c : TakenCommand) (targets : List Nat) (inStaging : Bool) (s : State) :
    AllowedFrame s (settle (allowCommand c targets inStaging (freshPort s))) := by
  unfold allowCommand
  cases inStaging <;> constructor <;> simp [freshPort]

theorem allowCommand_held (c : TakenCommand) (targets : List Nat) (inStaging : Bool) (s : State) :
    flashHeld (allowCommand c targets inStaging (freshPort s)) = flashHeld s := by
  unfold allowCommand flashHeld
  cases inStaging <;> simp [freshPort]

theorem allowCommand_sent (c : TakenCommand) (targets : List Nat) (inStaging : Bool) (s : State) :
    (allowCommand c targets inStaging (freshPort s)).fp.sent = [] := by
  unfold allowCommand makeStale
  (repeat' split) <;> rfl

theorem operationOf_queued (c : TakenCommand) (targets : List Nat) :
    (operationOf c targets).phase = .queued ∧ (operationOf c targets).runningTime = 0 := by
  unfold operationOf
  (repeat' split) <;> exact ⟨rfl, rfl⟩

/-- R55, R56: the in-flight operation that an allowed command becomes. -/
theorem allowCommand_flight (c : TakenCommand) (targets : List Nat) (inStaging : Bool) (s : State) :
    (settle (allowCommand c targets inStaging (freshPort s))).fp.op =
      some { operationOf c targets with phase := if flashHeld s then .queued else .running } := by
  obtain ⟨hq, ht⟩ := operationOf_queued c targets
  rw [settle_queuedOp (allowCommand_op ..) hq, allowCommand_held, ht, ite_self, ← ht]

end Sys2Proof.Machine
end

section
/-! PROOFS. The verdicts on one unit and on a block, and what they make of a staged scan (R13 to R18, R34, R114). -/

namespace Sys2Proof.Machine

/-! ### One unit (R13, R14) -/

/-- R13, R14: the one unit of a page program or sector erase. -/
def oneUnit (c : TakenCommand) : LogicalAddress :=
  BitVec.ofNat 24 (c.address.toNat / (if c.kind = .program then 256 else 4096) * (if c.kind = .program then 256 else 4096))

theorem unitsOf_one {c : TakenCommand} (h : c.kind = .program ∨ c.kind = .sectorErase) : unitsOf c = [oneUnit c] := by
  obtain h | h := h <;> simp [unitsOf, oneUnit, h]

theorem oneUnit_not_chipErase {c : TakenCommand} (h : c.kind = .program ∨ c.kind = .sectorErase) :
    c.kind ≠ .chipErase := by
  obtain h | h := h <;> simp [h]

theorem recordedAddress_one {c : TakenCommand} (u : LogicalAddress) (h : c.kind = .program ∨ c.kind = .sectorErase) :
    recordedAddress c u = if c.kind = .program then c.address else u := by
  obtain h | h := h <;> simp [recordedAddress, h]

theorem hasNeededRight_one {c : TakenCommand} (x : Rights) (h : c.kind = .program ∨ c.kind = .sectorErase) :
    hasNeededRight c.kind x = if c.kind = .program then x.p else x.e := by
  obtain h | h := h <;> simp [hasNeededRight, h]

theorem operationOf_one {c : TakenCommand} (p : Nat) (h : c.kind = .program ∨ c.kind = .sectorErase) :
    operationOf c [p] =
      ⟨if c.kind = .program then .program else .sectorErase, [p],
        if c.kind = .program then c.page.map fun b => b.getD 0xFF else [], 0, .queued, 0⟩ := by
  obtain h | h := h <;> simp [operationOf, pageImage, h]

theorem operationCommands_one {c : TakenCommand} (p : Nat) (h : c.kind = .program ∨ c.kind = .sectorErase) :
    operationCommands (operationOf c [p]) =
      [.writeEnable, if c.kind = .program then .pageProgram p (c.page.map fun b => b.getD 0xFF) else .sectorErase p] := by
  rw [operationOf_one p h]
  obtain h | h := h <;> simp [operationCommands, FlightOp.target, h]

section OneUnit

variable {tu : TranslationUnit} {m : Option SlotMap} {staging : StagingState} {c : TakenCommand}
  (hone : c.kind = .program ∨ c.kind = .sectorErase)
include hone

theorem decideCommand_one_error {reason : RefusalReason}
    (h : checkUnit tu m staging c.kind (oneUnit c) = .error reason) :
    decideCommand tu m staging c = .refused (if c.kind = .program then c.address else oneUnit c) reason := by
  rw [← recordedAddress_one _ hone]
  refine decideCommand_error (oneUnit_not_chipErase hone) ?_
  rw [unitsOf_one hone]
  exact decideUnits_lowest (before := []) [] false (by simp) h

theorem decideCommand_one_ok {p : Nat} {inStaging : Bool}
    (h : checkUnit tu m staging c.kind (oneUnit c) = .ok (p, inStaging)) :
    decideCommand tu m staging c = .allowed [p] inStaging := by
  refine decideCommand_allowed (oneUnit_not_chipErase hone) ?_
  rw [unitsOf_one hone]
  simp [decideUnits, h]

end OneUnit

/-! ### A block (R15) -/

/-- R15: sector `k` of the block of a command's address. -/
def blockSector (c : TakenCommand) (k : Nat) : LogicalAddress :=
  BitVec.ofNat 24 (c.address.toNat / 65536 * 65536 + 4096 * k)

theorem unitsOf_block {c : TakenCommand} (h : c.kind = .blockErase) : unitsOf c = (List.range 16).map (blockSector c) := by
  simp only [unitsOf, h]
  rfl

theorem oneBlock_iff (targets : Nat → Nat) :
    oneBlock ((List.range 16).map targets) = true ↔
      targets 0 % 65536 = 0 ∧ ∀ k, k < 16 → targets k = targets 0 + 4096 * k := by
  simp [oneBlock]

section Block

variable {tu : TranslationUnit} {m : Option SlotMap} {staging : StagingState} {c : TakenCommand}
  (hblock : c.kind = .blockErase)
include hblock

theorem operationOf_oneBlock {targets : Nat → Nat}
    (h : targets 0 % 65536 = 0 ∧ ∀ k, k < 16 → targets k = targets 0 + 4096 * k) :
    operationOf c ((List.range 16).map targets) = ⟨.blockErase, [targets 0], [], 0, .queued, 0⟩ := by
  simp only [operationOf, hblock, (oneBlock_iff targets).2 h, if_true]
  rfl

theorem operationOf_series {targets : Nat → Nat}
    (h : ¬ (targets 0 % 65536 = 0 ∧ ∀ k, k < 16 → targets k = targets 0 + 4096 * k)) :
    operationOf c ((List.range 16).map targets) =
      ⟨.eraseSeries, (List.range 16).map targets, [], 0, .queued, 0⟩ := by
  simp only [operationOf, hblock, mt (oneBlock_iff targets).1 h]
  rfl

theorem decideCommand_block_ok {targets : Nat → Nat} {staged : Nat → Bool}
    (h : ∀ k, k < 16 → checkUnit tu m staging c.kind (blockSector c k) = .ok (targets k, staged k)) :
    decideCommand tu m staging c =
      .allowed ((List.range 16).map targets) ((List.range 16).any staged) := by
  refine decideCommand_allowed (by simp [hblock]) ?_
  rw [unitsOf_block hblock, decideUnits_ok [] false fun k hk => h k (List.mem_range.1 hk)]
  simp

theorem decideCommand_block_error {k : Nat} {reason : RefusalReason} (hk : k < 16)
    (h : checkUnit tu m staging c.kind (blockSector c k) = .error reason)
    (hlow : ∀ j, j < k → ∃ r, checkUnit tu m staging c.kind (blockSector c j) = .ok r) :
    decideCommand tu m staging c = .refused (blockSector c k) reason := by
  have hrec : recordedAddress c (blockSector c k) = blockSector c k := by simp [recordedAddress, hblock]
  have hsplit : List.range 16 = List.range k ++ k :: (List.range 16).drop (k + 1) := by
    have hdrop := List.drop_eq_getElem_cons (l := List.range 16) (i := k) (by simpa using hk)
    have htake : (List.range 16).take k = List.range k := by rw [List.take_range, Nat.min_eq_left hk.le]
    rw [List.getElem_range] at hdrop
    rw [← htake, ← hdrop, List.take_append_drop]
  refine hrec ▸ decideCommand_error (by simp [hblock]) ?_
  rw [unitsOf_block hblock, hsplit, List.map_append, List.map_cons]
  refine decideUnits_lowest [] false (fun v hv => ?_) h
  obtain ⟨j, hj, rfl⟩ := List.mem_map.1 hv
  exact hlow j (List.mem_range.1 hj)

end Block

/-! ### A running staged scan (R114) -/

/-- R114: the staged scan of `s` is STALE, and its write goes on. -/
structure ScanStale (s t : State) : Prop where
  isc : t.isc = { s.isc with
    scan.phase := .ended
    scan.result := some .stale
    staging.state := .opened
    staging.outcome := .stale }
  mc : t.mc = { s.mc with flags.scanDone := true }
  chunk : t.fp.chunk = none
  chunkBuffer : t.fp.chunkBuffer = []
  scan : t.de.scan = none
  owed : t.de.owed = false
  verify : t.su.scan = none

theorem allowCommand_stale (c : TakenCommand) (targets : List Nat) {s : State}
    (h : s.isc.staging.state = .verifying) : ScanStale s (settle (allowCommand c targets true (freshPort s))) := by
  have heq : allowCommand c targets true (freshPort s) =
      { setScanDone { withdrawScanWork (freshPort s) with
          isc.scan.phase := .ended
          isc.scan.result := some .stale
          isc.staging.state := .opened
          isc.staging.outcome := .stale } with
        bp.writeRecord := .inFlight
        bp.wel := false
        fp.op := some (operationOf c targets) } := by
    simp [allowCommand, makeStale, freshPort, h]
  obtain ⟨hisc, hchunk, hbuffer, hscan, howed, hverify⟩ :=
    settle_noScan (s := allowCommand c targets true (freshPort s)) (by rw [heq]; rfl) (by rw [heq]; rfl) (by rw [heq]; rfl)
  refine ⟨?_, ?_, hchunk, ?_, hscan, ?_, hverify⟩
  · rw [hisc, heq]
    rfl
  · rw [(settle_frame _).2.2.2.2.2.2.2.2.2.2.1, heq]
    rfl
  · rw [hbuffer, heq]
    rfl
  · rw [howed, heq]
    rfl

end Sys2Proof.Machine

namespace Sys2Proof.Writes

open Sys2Proof Sys2Proof.Machine

/-- Settles O36: the decision on the one unit by the checks of R16, then the refusal or the started operation. -/
theorem verdictOnOneUnit : Obligations.VerdictOnOneUnit := by
  intro s c hw hdue hone size unit found refusedFor
  have hunit : unit = oneUnit c := rfl
  have hrefuse : ∀ reason, checkUnit s.tu s.store.slotMap s.isc.staging.state c.kind (oneUnit c) = .error reason →
      refusedFor reason := fun reason h => by
    show exec .writeVerdict s = _
    rw [exec_writeVerdict_refused hw hdue (decideCommand_one_error hone h), refuseCommand_eq]
    rfl
  refine ⟨fun hnone => hrefuse _ (checkUnit_unmapped _ _ hnone), fun f p hsome => ?_⟩
  intro right open'
  have hneeded : hasNeededRight c.kind f.region.live = right := hasNeededRight_one _ hone
  refine ⟨fun hr => hrefuse _ (checkUnit_noRight _ hsome (hneeded.trans hr)), fun hr ht hclosed => ?_, fun hr hopen => ?_⟩
  · refine hrefuse _ (checkUnit_closed hsome (hneeded.trans hr) ht ?_)
    rw [← Bool.not_eq_true, stagingAdmits_iff]
    exact hclosed
  · have hcheck := checkUnit_passed hsome (hneeded.trans hr) fun ht => stagingAdmits_iff.2 (hopen ht)
    have hdec := decideCommand_one_ok hone hcheck
    obtain ⟨hbp, htu, hflash, hstore, hlanes, hsoc⟩ :=
      allowCommand_allowed c [p] (decide (f.region.target = .staging)) s
    have hq := (operationOf_queued c [p]).1
    refine ⟨_, exec_writeVerdict_allowed hw hdue hdec, hbp, htu, hflash, hstore, hlanes, hsoc, ?_, fun hf => ?_,
      fun hf hns hslot => ?_⟩
    · rw [allowCommand_flight, operationOf_one p hone]
    · rw [settle_startedSent (allowCommand_op ..) hq (by rw [allowCommand_held, hf]), allowCommand_sent,
        operationCommands_one p hone, List.nil_append]
    · have hnot : decide (f.region.target = .staging) = false := decide_eq_false hns
      rw [hnot]
      exact settle_startedPreempts (s := allowCommand c [p] false (freshPort s)) (allowCommand_op ..) hq
        (by rw [allowCommand_held, hf]) hslot

/-- Settles O37: the sixteen sectors by the decision on a list of units. -/
theorem verdictOnBlockErase : Obligations.VerdictOnBlockErase := by
  intro s c hw hblock hdue sector check
  refine ⟨fun targets hok => ?_, fun k reason hk herr hlow => ?_⟩
  · choose! staged hstaged using hok
    have hdec := decideCommand_block_ok (targets := targets) (staged := staged) hblock
      fun k hk => by rw [hblock]; exact hstaged k hk
    obtain ⟨hbp, htu, hflash, hstore, hlanes, hsoc⟩ := allowCommand_allowed c _ ((List.range 16).any staged) s
    refine ⟨_, exec_writeVerdict_allowed hw hdue hdec, hbp, htu, hflash, hstore, hlanes, hsoc, fun hrun => ?_,
      fun hrun => ?_⟩
    · rw [allowCommand_flight, operationOf_oneBlock hblock hrun]
    · rw [allowCommand_flight, operationOf_series hblock hrun]
  · have hdec := decideCommand_block_error (tu := s.tu) (m := s.store.slotMap) (staging := s.isc.staging.state)
      (reason := reason) hblock hk (by rw [hblock]; exact herr) fun j hj => by rw [hblock]; exact hlow j hj
    refine ⟨_, exec_writeVerdict_refused hw hdue hdec, ?_⟩
    rw [refuseCommand_eq, hblock]
    exact ⟨rfl, rfl, rfl, rfl, rfl, rfl, rfl, rfl⟩

/-- Settles O38: the decision takes the write as one into staging, which withdraws the scan. -/
theorem stagingWriteMakesScanStale : Obligations.StagingWriteMakesScanStale := by
  intro s c hw hverifying hdue stale
  have hadmits : stagingAdmits s.isc.staging.state = true := stagingAdmits_iff.2 (.inr hverifying)
  have hstale : ∀ targets, decideCommand s.tu s.store.slotMap s.isc.staging.state c = .allowed targets true →
      ∃ t, exec .writeVerdict s = .next t ∧ stale t ∧
        t.fp.op = some { operationOf c targets with phase := if flashHeld s then .queued else .running } :=
    fun targets hdec => by
      obtain ⟨hbp, htu, hflash, hstore, -, -⟩ := allowCommand_allowed c targets true s
      obtain ⟨hisc, hmc, hchunk, hbuffer, hscan, howed, hverify⟩ := allowCommand_stale c targets hverifying
      exact ⟨_, exec_writeVerdict_allowed hw hdue hdec,
        ⟨hisc, hmc, hchunk, hbuffer, hscan, howed, hverify, hbp, htu, hflash, hstore⟩, allowCommand_flight ..⟩
  refine ⟨fun f p hone htr htarget hright => ?_, fun founds targets hblock htr hsome => ?_⟩
  · have hunit : (BitVec.ofNat 24 (if c.kind = .program then c.address.toNat / 256 * 256
        else c.address.toNat / 4096 * 4096)) = oneUnit c := by
      obtain h | h := hone <;> simp [oneUnit, h]
    rw [hunit] at htr
    have hcheck := checkUnit_staging htr ((hasNeededRight_one _ hone).trans hright) htarget hadmits
    obtain ⟨t, ht, hst, hop⟩ := hstale _ (decideCommand_one_ok hone hcheck)
    refine ⟨t, ht, hst, _, hop, ?_⟩
    rw [operationOf_one p hone]
  · have hcheck : ∀ k, k < 16 → checkUnit s.tu s.store.slotMap s.isc.staging.state c.kind (blockSector c k) =
        .ok (targets k, decide ((founds k).region.target = .staging)) := fun k hk => by
      obtain ⟨hk1, hk2⟩ := htr k hk
      exact checkUnit_passed hk1 (by rw [hblock]; exact hk2) fun _ => hadmits
    have hany : ((List.range 16).any fun k => decide ((founds k).region.target = .staging)) = true := by
      simpa using hsome
    obtain ⟨t, ht, hst, hop⟩ := hstale _ (hany ▸ decideCommand_block_ok hblock hcheck)
    refine ⟨t, ht, hst, _, hop, ?_⟩
    by_cases hrun : targets 0 % 65536 = 0 ∧ ∀ k, k < 16 → targets k = targets 0 + 4096 * k
    · exact .inl (by rw [operationOf_oneBlock hblock hrun]; exact ⟨rfl, rfl⟩)
    · exact .inr (by rw [operationOf_series hblock hrun]; exact ⟨rfl, rfl⟩)

end Sys2Proof.Writes
end

section
/-! PROOFS. The ends of the in-flight operation, and the narrowing of a region (chapters 1 and 3). -/

namespace Sys2Proof.Machine

/-! ### What the start of work leaves (R56, R108) -/

theorem preemptChunk_stagingState (s : State) : (preemptChunk s).isc.staging.state = s.isc.staging.state := by
  unfold preemptChunk countPreemption
  split
  · rfl
  · split
    · dsimp only
      split <;> rfl
    · rfl

theorem startOperation_stagingState (s : State) : (startOperation s).isc.staging.state = s.isc.staging.state := by
  unfold startOperation
  split
  · rfl
  · split
    · exact preemptChunk_stagingState s
    · rfl

theorem settle_stagingState (s : State) : (settle s).isc.staging.state = s.isc.staging.state := by
  unfold settle
  split
  · rfl
  · simp [startOperation_stagingState]

theorem settle_idleStaging {s : State} (h : s.fp.op = none) : (settle s).isc.staging = s.isc.staging := by
  unfold settle
  split
  · rfl
  · simp [startOperation_none h]

theorem settle_idleOp {s : State} (h : s.fp.op = none) : (settle s).fp.op = none := by
  obtain he | he := settle_op s
  · rw [he, h]
  · rw [he, startOperation_none h, h]

/-- What follows a step sends its commands after those already sent. -/
theorem settle_sent (s : State) : s.fp.sent <+: (settle s).fp.sent := by
  have hop : s.fp.sent <+: (startOperation s).fp.sent := by
    unfold startOperation
    split
    · exact List.prefix_rfl
    · split
      · show s.fp.sent <+: (preemptChunk s).fp.sent ++ _
        rw [preemptChunk_sent]
        exact List.prefix_append ..
      · exact List.prefix_rfl
  have hchunk : ∀ u, u.fp.sent <+: (startChunkRead u).fp.sent := fun u => by
    unfold startChunkRead
    split
    · exact List.prefix_rfl
    · split
      · exact List.prefix_append ..
      · exact List.prefix_rfl
  have hsig : ∀ u, (startSignature u).fp = u.fp := fun u => by simp
  unfold settle
  split
  · exact List.prefix_rfl
  · refine hop.trans ?_
    rw [← startAbsorption_sent (startOperation s), ← hsig]
    exact hchunk _

/-! ### The end of a command (R50, R57) -/

/-- R50: the byte of a fitted flash after the command in hand has ended. -/
theorem finish_read {f : Flash} (o : FlightOp) (p : Nat) (h : f.present = true) :
    (f.finish o).read p =
      if o.target ≤ p ∧ p < o.target + commandLength o.kind then
        (if o.kind = .program then f.read p &&& byteAt o.image (p - o.target) else 0xFF)
      else f.read p := by
  rw [Flash.finish, Flash.read_write _ _ _ _ h]
  refine if_congr Iff.rfl ?_ rfl
  unfold finalByte
  cases o.kind <;> rfl

theorem endCommand_series {o : FlightOp} (s : State) (hk : o.kind = .eraseSeries) (hi : o.index < 15) :
    endCommand o s =
      { s with flash := s.flash.finish o, fp.op := some { o with index := o.index + 1, phase := .queued } } := by
  simp [endCommand, hk, hi]

theorem endCommand_complete {o : FlightOp} (s : State) (h : o.kind ≠ .eraseSeries ∨ 15 ≤ o.index) :
    endCommand o s = completeOperation { s with flash := s.flash.finish o } := by
  have hn : (o.kind = .eraseSeries && decide (o.index < 15)) = false := by
    obtain h | h := h
    · simp [h]
    · simp
      omega
  simp [endCommand, hn]

section Completion

variable {s : State} {o : FlightOp} (ho : s.fp.op = some o)
include ho

theorem exec_completion_fitted (hp : o.phase = .running) (hf : s.flash.present = true) :
    exec .operationCompletion s = .next (settle (endCommand o { s with fp.sent := [.readBusy] })) := by
  have ho' : (freshPort s).fp.op = some o := ho
  have hf' : (send [.readBusy] (freshPort s)).flash.present = true := hf
  show Host.Outcome.next (operationCompletion (freshPort s)) = _
  simp only [operationCompletion, ho', hp, hf', if_true]
  rfl

theorem exec_completion_absent (hp : o.phase = .running) (hf : s.flash.present = false) :
    exec .operationCompletion s = .next { s with fp.sent := [.readBusy] } := by
  have ho' : (freshPort s).fp.op = some o := ho
  have hf' : (send [.readBusy] (freshPort s)).flash.present = false := hf
  show Host.Outcome.next (operationCompletion (freshPort s)) = _
  simp only [operationCompletion, ho', hp, hf', if_true]
  rfl

theorem exec_timeout_running (hp : o.phase = .running) :
    exec .operationTimeout s = .next (timeOut o (freshPort s)) := by
  have ho' : (freshPort s).fp.op = some o := ho
  show Host.Outcome.next (operationTimeout (freshPort s)) = _
  simp only [operationTimeout, ho', hp, if_true]

end Completion

theorem exec_completion_none {s : State} (h : ∀ o, s.fp.op = some o → o.phase ≠ .running) :
    exec .operationCompletion s = .next { s with fp.sent := [] } := by
  show Host.Outcome.next (operationCompletion (freshPort s)) = .next (freshPort s)
  unfold operationCompletion
  split
  · rfl
  · next o ho => rw [if_neg (h o ho)]

theorem exec_timeout_none {s : State} (h : ∀ o, s.fp.op = some o → o.phase ≠ .running) :
    exec .operationTimeout s = .next { s with fp.sent := [] } := by
  show Host.Outcome.next (operationTimeout (freshPort s)) = .next (freshPort s)
  unfold operationTimeout
  split
  · rfl
  · next o ho => rw [if_neg (h o ho)]

/-- What the end of a command leaves beside the flash and the operation. -/
structure CommandEnded (s t : State) : Prop where
  tu : t.tu = s.tu
  mc : t.mc = s.mc
  store : t.store = s.store
  lanes : t.lanes = s.lanes
  socRun : t.socRun = s.socRun
  staging : t.isc.staging.state = s.isc.staging.state

theorem endCommand_ended (o : FlightOp) (s : State) :
    CommandEnded s (settle (endCommand o { s with fp.sent := [.readBusy] })) := by
  refine ⟨by simp, by simp, by simp, by simp, by simp, ?_⟩
  rw [settle_stagingState]
  unfold endCommand completeOperation
  dsimp only
  split <;> rfl

/-! ### A request under an open transaction (R21, log 11) -/

/-- R186: what the acceptance of a frame POSTed before the open transaction leaves. -/
def acceptedOpen (frame : Bytes) (s : State) : State :=
  { emptyResponse (freshPort s) with mc.request := frame, mc.state := .working .taken }

theorem receivePost_requestFrame (r : Request) (proof : Option Bytes) (body : Bytes) (dispatch : State → State)
    {s : State} (hi : s.mc.state = .idle) (h : requestWellFormed proof body = true) (hb : body.length ≤ 259) :
    receivePost (requestFrame r proof body).length ((requestFrame r proof body).take 292) dispatch s =
      dispatch { emptyResponse s with mc.request := requestFrame r proof body, mc.state := .working .taken } := by
  have hl := requestLength_le h
  have hf : (requestFrame r proof body).take 292 = requestFrame r proof body :=
    List.take_of_length_le (by rw [requestFrame_length]; omega)
  have hlen := requestFrame_length_field r proof body hl
  have hd : dropsPost s (requestFrame r proof body).length (requestFrame r proof body) = false := by
    have : 2 ≤ requestLength proof body := by simp [requestLength]; omega
    simp [dropsPost, managementBusy, hi, hlen]
    omega
  have htake : (requestFrame r proof body).take (2 + requestLength proof body) = requestFrame r proof body :=
    List.take_of_length_le (by simp)
  simp only [receivePost, hf, hd, acceptPost, hlen, htake, requestFrame_good r proof body h hb]
  rfl

theorem requestCommand_open {r : Request} {dispatch : State → State} {proof : Option Bytes} {body : Bytes} {s : State}
    (hopen : openForTaking s = true) (hi : s.mc.state = .idle) (h : requestWellFormed proof body = true)
    (hb : body.length ≤ 259) :
    requestCommand r dispatch proof body s = dispatch (acceptedOpen (requestFrame r proof body) s) := by
  rw [requestCommand, hopen, if_pos rfl]
  exact receivePost_requestFrame r proof body dispatch (s := freshPort s) hi h hb

/-! ### RESTRICT_REGION (R20) -/

/-- R20: entry `i` with the rights of a mask byte removed from its live rights. -/
def narrowed (table : List Region) (i : Nat) (mask : Byte) : Region :=
  { table.getD i .held with live := (table.getD i .held).live.minus (rightsOfByte mask) }

theorem narrowTable_eq (table : List Region) (i : Nat) (mask : Byte) :
    narrowTable table i (rightsOfByte mask) = table.set i (narrowed table i mask) := by
  unfold narrowTable narrowed
  by_cases hi : i < table.length
  · rw [List.getD_eq_getElem _ _ hi, List.modify_eq_set_get _ hi]
    rfl
  · rw [List.modify_eq_self (by omega), List.set_eq_of_length_le (by omega)]

theorem narrowTable_getD (table : List Region) (i : Nat) (mask : Byte) :
    (narrowTable table i (rightsOfByte mask)).getD i .held = narrowed table i mask := by
  rw [narrowTable_eq]
  by_cases hi : i < table.length
  · rw [List.getD_eq_getElem?_getD, List.getElem?_set_self hi]
    rfl
  · rw [narrowed, List.getD_eq_default _ _ (by simpa using hi), List.getD_eq_default _ _ (by simpa using hi)]
    rfl

theorem takeRestrictRegion_ok {s : State} {i mask : Byte} (hbody : requestBody s = [i, mask]) (hi : i.toNat ≤ 15)
    (hm : mask.toNat ≤ 7) :
    takeRestrictRegion s =
      respond .ok
        [i, rightsByte (s.tu.table.getD i.toNat .held).granted, rightsByte (narrowed s.tu.table i.toNat mask).live]
        { s with tu.table := s.tu.table.set i.toNat (narrowed s.tu.table i.toNat mask) } := by
  have h0 : byteAt [i, mask] 0 = i := rfl
  have h1 : byteAt [i, mask] 1 = mask := rfl
  have hn : (decide (15 < i.toNat) || decide (8 ≤ mask.toNat)) = false := by
    simp
    omega
  simp only [takeRestrictRegion, withLength, hbody, List.length_cons, List.length_nil, if_true, h0, h1, hn,
    Bool.false_eq_true, if_false, narrowTable_getD]
  rw [narrowTable_eq]
  rfl

theorem takeRestrictRegion_refused {s : State} {body : Bytes} (hbody : requestBody s = body)
    (h : body.length ≠ 2 ∨ 15 < (byteAt body 0).toNat ∨ 7 < (byteAt body 1).toNat) :
    takeRestrictRegion s = respond .badArgument [] s := by
  unfold takeRestrictRegion withLength
  dsimp only
  rw [hbody]
  split
  · next hl =>
    rw [if_pos]
    simp
    omega
  · rfl

theorem bytes_two {body : Bytes} (h : body.length = 2) : body = [byteAt body 0, byteAt body 1] := by
  match body, h with
  | [_, _], _ => rfl

end Sys2Proof.Machine

namespace Sys2Proof.Writes

open Sys2Proof Sys2Proof.Machine

/-- Settles O39: the end of a command by its kind, and the timeout that resets the flash. -/
theorem runningCommandCompletesOrTimesOut : Obligations.RunningCommandCompletesOrTimesOut := by
  refine ⟨fun s => ⟨fun o ho hp hf => ?_, fun o ho hp hf => exec_completion_absent ho hp hf, exec_completion_none⟩,
    fun s => ⟨fun o ho hp => ?_, exec_timeout_none, rfl, rfl, rfl, rfl⟩⟩
  · obtain ⟨htu, hmc, hstore, hlanes, hsoc, hstaging⟩ := endCommand_ended o s
    refine ⟨_, exec_completion_fitted ho hp hf, fun p => ?_, htu, hmc, hstore, hlanes, hsoc, hstaging, fun hlast => ?_,
      fun hk hi => ?_⟩
    · rw [(settle_frame _).2.2.2.1, endCommand_flash]
      exact finish_read o p hf
    · rw [endCommand_complete _ hlast]
      exact ⟨settle_idleOp rfl, by rw [(settle_frame _).1]; rfl⟩
    · rw [endCommand_series _ hk hi, settle_queuedOp (o := { o with index := o.index + 1, phase := .queued }) rfl rfl]
      exact ⟨by rw [(settle_frame _).1], rfl⟩
  · have hframe := settle_frame (completeOperation (send [.resetEnable, .reset]
      { freshPort s with flash := s.flash.cutShort o s.draws, draws := s.draws + 1 }))
    have hsent : [FpCommand.resetEnable, .reset] <+: (timeOut o (freshPort s)).fp.sent := settle_sent (completeOperation
      (send [.resetEnable, .reset] { freshPort s with flash := s.flash.cutShort o s.draws, draws := s.draws + 1 }))
    refine ⟨_, exec_timeout_running ho hp, settle_idleOp rfl, hframe.1, hsent, fun p hout => ?_, ?_, ?_, ?_, ?_,
      settle_idleStaging rfl⟩
    · rw [timeOut_flash]
      exact Flash.read_write_outside _ _ _ _ _ hout
    all_goals simp [timeOut, completeOperation, send, freshPort]

/-- Settles O20: the taking of RESTRICT_REGION, on a free channel and beside an open read. -/
theorem restrictRegionNarrows : Obligations.RestrictRegionNarrows := by
  constructor
  · intro s proof body hs h hb i mask e live
    refine ⟨fun hl hi hm => ?_, fun hbad => ?_⟩
    · have hbody : requestBody (accepted (requestFrame .restrictRegion proof body) .taken s) = [byteAt body 0, byteAt body 1] :=
      (requestBody_accepted h).trans (bytes_two hl)
      refine requestCommand_next hs h hb ?_
      rw [takeRestrictRegion_ok hbody hi hm]
      exact respond_accepted .restrictRegion proof body .taken .ok _
        { s with tu.table := s.tu.table.set i (narrowed s.tu.table i mask) }
    · refine requestCommand_next hs h hb ?_
      rw [takeRestrictRegion_refused (requestBody_accepted h) hbad, respond_accepted]
  · intro s x proof i mask hrst hx hfetch hidle h hi hm e live
    have hopen : openForTaking s = true := by simp [openForTaking, hrst, hx]
    have hbody : requestBody (acceptedOpen (requestFrame .restrictRegion proof [i, mask]) s) = [i, mask] :=
      requestFrame_body .restrictRegion proof [i, mask] h
    have hbp : (emptyResponse (freshPort s)).bp = s.bp := by
      simp only [emptyResponse, freshPort, hfetch, Option.map_none]
      rw [← hfetch]
    refine ⟨_, congrArg Host.Outcome.next (requestCommand_open hopen hidle h (by simp)), ?_⟩
    rw [takeRestrictRegion_ok hbody hi hm]
    refine ⟨hbp, rfl, rfl, ?_, fun a f p htr hf hr => ?_⟩
    · simp [holdsAnswer, respond, acceptedOpen]
      rfl
    · have hlive : ((s.tu.table.set i.toNat (narrowed s.tu.table i.toNat mask)).getD f.index .held).live.r = false := by
        rw [← narrowTable_eq, hf, narrowTable_getD]
        simp [narrowed, Rights.minus, rightsOfByte, hr]
      have htr' : translate x.table x.selector (acceptedOpen (requestFrame .restrictRegion proof [i, mask]) s).store.slotMap a =
          some (f, p) := htr
      unfold txnByte respond
      dsimp only
      rw [htr']
      exact if_neg (by rw [show (acceptedOpen _ s).tu.table = s.tu.table from rfl, hlive]; simp)

end Sys2Proof.Writes
end

section
/-! PROOFS. Responses and their FETCH, unfit POSTs, event flags and the alert mask (chapters 9 and 10). -/

namespace Sys2Proof.Machine

/-! ### The expiry of a secret response (R180 to R182) -/

theorem scrub_secret {s : State} {r : Response} (hr : s.mc.response = some r) (hs : r.secret = true) :
    scrub s = emptyResponse s := by
  simp [scrub, hr, hs]

theorem exec_expiry_running {s : State} {m : Nat} (h : s.mc.scrubTimer = some m) :
    exec .secretResponseExpiry s = .next (scrub { freshPort s with clock := max s.clock m }) := by
  have h' : (freshPort s).mc.scrubTimer = some m := h
  show Host.Outcome.next (secretResponseExpiry (freshPort s)) = _
  rw [secretResponseExpiry, h']
  rfl

theorem exec_expiry_stopped {s : State} (h : s.mc.scrubTimer = none) :
    exec .secretResponseExpiry s = .next { s with fp.sent := [] } := by
  have h' : (freshPort s).mc.scrubTimer = none := h
  show Host.Outcome.next (secretResponseExpiry (freshPort s)) = .next (freshPort s)
  rw [secretResponseExpiry, h']

/-! ### FETCH (R49, R192, R193) -/

theorem bytesBegun_zero (lines : Lines) : bytesBegun lines 0 = 0 := by
  cases lines <;> rfl

theorem bytesBegun_le (lines : Lines) (n k : Nat) : bytesBegun lines n ≤ bytesBegun lines (n + k) :=
  Nat.div_le_div_right (by omega)

/-- R25: the bytes of two runs of clocks follow one another. -/
theorem range_map_append {α : Type} {a b : Nat} (f : Nat → α) (h : a ≤ b) :
    (List.range a).map f ++ (List.range (b - a)).map (fun i => f (a + i)) = (List.range b).map f := by
  obtain ⟨c, rfl⟩ := Nat.exists_eq_add_of_le h
  rw [Nat.add_sub_cancel_left, List.range_add, List.map_append, List.map_map]
  rfl

theorem clockFetch_some {s : State} {x : FetchTxn} (n : Nat) (hx : s.bp.fetchTxn = some x) :
    clockFetch n s =
      { s with
        bp.fetchTxn := some { x with dataClocks := x.dataClocks + n }
        bp.out := s.bp.out ++
          (List.range (bytesBegun (dataOutLines s.bp.laneMode false) (x.dataClocks + n) -
            bytesBegun (dataOutLines s.bp.laneMode false) x.dataClocks)).map fun i =>
              fetchByte s x (bytesBegun (dataOutLines s.bp.laneMode false) x.dataClocks + i)
        bp.outLines := dataOutLines s.bp.laneMode false } := by
  rw [clockFetch, hx]
  rfl

/-- R192: the frame that a FETCH shows: the fixed response, or the length 0. -/
def fetchedFrame (s : State) : Bytes := (s.mc.response.map fun r => r.frame).getD [0, 0]

/-- R49, R192: a FETCH after `n` clocks of its data phase. -/
def fetching (n : Nat) (s : State) : State :=
  { s with
    bp.fetchTxn := some ⟨s.mc.response.map fun r => r.frame.length, s.mc.response.isSome, n⟩
    bp.out := (List.range (bytesBegun (dataOutLines s.bp.laneMode false) n)).map fun i => (fetchedFrame s).getD i 0xFF
    bp.outLines := dataOutLines s.bp.laneMode false
    fp.sent := [] }

theorem fetchByte_fixed (s : State) (x : FetchTxn) (k : Nat)
    (hlen : x.fixedLength = s.mc.response.map fun r => r.frame.length) (hp : x.stillPresent = s.mc.response.isSome) :
    fetchByte s x k = (fetchedFrame s).getD k 0xFF := by
  unfold fetchByte fetchedFrame
  rw [hlen, hp]
  cases s.mc.response with
  | none =>
    match k with
    | 0 | 1 => rfl
    | k + 2 => simp
  | some r => simp

theorem exec_fetch {s : State} (n : Nat) (h : busFree s = true) :
    exec (.managementFetch n) s = .next (fetching n s) := by
  show Host.Outcome.next (managementFetch n s) = _
  rw [managementFetch, transaction_free _ h,
    clockFetch_some (x := ⟨s.mc.response.map fun r => r.frame.length, s.mc.response.isSome, 0⟩) n (by rfl)]
  refine congrArg Host.Outcome.next ?_
  unfold fetching
  simp only [Nat.zero_add, bytesBegun_zero, Nat.sub_zero, freshPort, List.nil_append]
  congr 2
  exact List.map_congr_left fun i _ => fetchByte_fixed _ _ i rfl rfl

theorem fetching_clocked (n k : Nat) (s : State) : clockFetch k (freshPort (fetching n s)) = fetching (n + k) s := by
  rw [clockFetch_some k (x := ⟨s.mc.response.map fun r => r.frame.length, s.mc.response.isSome, n⟩) (by rfl)]
  unfold fetching freshPort
  have hbytes := range_map_append (fun i => (fetchedFrame s).getD i 0xFF)
    (bytesBegun_le (dataOutLines s.bp.laneMode false) n k)
  simp only [← hbytes]
  congr 3
  exact List.map_congr_left fun i _ => fetchByte_fixed _ _ _ rfl rfl

theorem exec_fetchReport (n k : Nat) (s : State) :
    exec (.fetchCountReport k) (fetching n s) = .next (endFetch (fetching (n + k) s)) := by
  show Host.Outcome.next (endFetch (clockFetch k (freshPort (fetching n s)))) = _
  rw [fetching_clocked]

/-- R49, R193: a FETCH that has ended, with what it left of the response. -/
def fetched (n : Nat) (response : Option Response) (timer : Option Nat) (s : State) : State :=
  { fetching n s with
    bp.fetchTxn := none
    bp.resetEnable := false
    mc.response := response
    mc.scrubTimer := timer }

theorem reportFetch_short {t : FetchTxn} {s : State} (h : ∀ len, t.fixedLength = some len → fetchDelivered t s < len) :
    reportFetch t s = s := by
  unfold reportFetch
  split
  · rfl
  · next len hlen =>
    have hshort := h len hlen
    rw [if_neg (by simp; omega)]

theorem endFetch_fetching_short {s : State} {n : Nat}
    (h : ∀ r, s.mc.response = some r → wholeBytes (dataOutLines s.bp.laneMode false) n < r.frame.length) :
    endFetch (fetching n s) = fetched n s.mc.response s.mc.scrubTimer s := by
  have hreport : reportFetch ⟨s.mc.response.map fun r => r.frame.length, s.mc.response.isSome, n⟩ (fetching n s) =
      fetching n s := by
    refine reportFetch_short fun len hlen => ?_
    obtain ⟨r, hr, rfl⟩ := Option.map_eq_some_iff.1 hlen
    exact h r hr
  show { reportFetch _ (fetching n s) with bp.fetchTxn := none, bp.resetEnable := false } = _
  rw [hreport]
  rfl

theorem endFetch_fetching_plain {s : State} {n : Nat} {r : Response} (hr : s.mc.response = some r)
    (hlen : r.frame.length ≤ wholeBytes (dataOutLines s.bp.laneMode false) n) (hs : r.secret = false) :
    endFetch (fetching n s) = fetched n (some { r with delivered := true }) s.mc.scrubTimer s := by
  unfold endFetch fetching reportFetch fetchDelivered fetched
  simp [hr, hlen, hs, fetching]

theorem endFetch_fetching_secret {s : State} {n : Nat} {r : Response} (hr : s.mc.response = some r)
    (hlen : r.frame.length ≤ wholeBytes (dataOutLines s.bp.laneMode false) n) (hs : r.secret = true) :
    endFetch (fetching n s) = fetched n none none s := by
  unfold endFetch fetching reportFetch fetchDelivered fetched scrub emptyResponse
  simp [hr, hlen, hs, fetching]

theorem fetched_free {s : State} (n : Nat) (response : Option Response) (timer : Option Nat) (h : busFree s = true) :
    fetched n response timer s =
      { s with
        bp.out := (List.range (bytesBegun (dataOutLines s.bp.laneMode false) n)).map fun i => (fetchedFrame s).getD i 0xFF
        bp.outLines := dataOutLines s.bp.laneMode false
        bp.resetEnable := false
        fp.sent := []
        mc.response := response
        mc.scrubTimer := timer } := by
  have hf := (busFree_iff.1 h).2.2
  unfold fetched fetching
  rw [← hf]

/-! ### Unfit POSTs (R186, R188, R189) -/

theorem exec_managementPost {s : State} {phases extra : List Clock} (h : busFree s = true)
    (hb : onBoundary s.bp.laneMode (phases ++ extra) = true) :
    exec (.managementPost phases extra) s =
      .next (post (receivedBytes s.bp.laneMode (phases ++ extra)) dispatchByCode (afterTransaction s)) := by
  show Host.Outcome.next (managementPost (phases ++ extra) s) = _
  rw [managementPost, takenCommand_free _ _ _ h, hb]
  rfl

/-- R48: the intake keeps the length field of a POST. -/
theorem frameLength_kept (sent : Bytes) : frameLength (sent.take 292) = frameLength sent := by
  unfold frameLength leAt slice
  rw [List.drop_zero, List.drop_zero, List.take_take]
  rfl

theorem post_dropped {s : State} {sent : Bytes} (dispatch : State → State)
    (h : s.mc.state ≠ .idle ∨ sent.length < 2 ∨ frameLength sent < 2 ∨ 290 < frameLength sent ∨
      sent.length < 2 + frameLength sent) :
    post sent dispatch s = { s with bp.intakeCount := 0, bp.intake := [], mc.dropped := true } := by
  have hd : dropsPost { s with bp.intakeCount := 0, bp.intake := [] } sent.length (sent.take 292) = true := by
    simpa [dropsPost, managementBusy, frameLength_kept, or_assoc] using h
  simp only [post, receivePost, hd, if_true]

/-- R186: a frame that the intake holds whole, on an IDLE channel, is accepted. -/
theorem post_accepted {s : State} {frame beyond : Bytes} (dispatch : State → State) (hi : s.mc.state = .idle)
    (hlow : 4 ≤ frame.length) (hhigh : frame.length ≤ 292) (hlen : frameLength frame + 2 = frame.length) :
    post (frame ++ beyond) dispatch s =
      (if badFrame frame then respond .badFrame [] else dispatch)
        { emptyResponse { s with bp.intakeCount := 0, bp.intake := [] } with
          mc.request := frame
          mc.state := .working .taken } := by
  have hfield : frameLength (frame ++ beyond) = frameLength frame := by
    unfold frameLength leAt slice
    rw [List.drop_zero, List.drop_zero, List.take_append_of_le_length (by omega)]
  have hd : dropsPost { s with bp.intakeCount := 0, bp.intake := [] } (frame ++ beyond).length
      ((frame ++ beyond).take 292) = false := by
    simp [dropsPost, managementBusy, hi, frameLength_kept, hfield]
    omega
  have hkept : ((frame ++ beyond).take 292).take (2 + frameLength frame) = frame := by
    rw [List.take_take, Nat.min_eq_left (by omega), Nat.add_comm, hlen, List.take_left]
  simp only [post, receivePost, hd, Bool.false_eq_true, if_false, acceptPost, frameLength_kept, hfield, hkept]
  split <;> rfl

theorem frameBody_length {frame : Bytes} (hlen : frameLength frame + 2 = frame.length) :
    (frameBody frame).length = if (byteAt frame 3).getLsbD 0 then frame.length - 36 else frame.length - 4 := by
  unfold frameBody slice
  rw [List.length_take, List.length_drop, Nat.add_comm 2, hlen, Nat.min_self]
  show frame.length - (if (byteAt frame 3).getLsbD 0 then 36 else 4) = _
  split <;> rfl

theorem badFrame_iff {frame : Bytes} (hlen : frameLength frame + 2 = frame.length) :
    badFrame frame = true ↔
      1 < (byteAt frame 3).toNat ∨ ((byteAt frame 3).getLsbD 0 = true ∧ frame.length < 36) ∨
        259 < if (byteAt frame 3).getLsbD 0 then frame.length - 36 else frame.length - 4 := by
  have hshort : frameLength frame < 34 ↔ frame.length < 36 := by omega
  simp [badFrame, frameBody_length hlen, frameHasProof, frameFlags, hshort, or_assoc]

theorem requestOfCode_none {c : Byte} (h : ∀ r, requestCode r ≠ c) : requestOfCode c = none := by
  simp [requestOfCode, h]

/-! ### Event flags and the alert mask (R195, R196) -/

theorem withLength_ok {n : Nat} {act : Bytes → State → State} {s : State} {body : Bytes} (hbody : requestBody s = body)
    (hl : body.length = n) : withLength n act s = act body s := by
  simp [withLength, hbody, hl]

theorem withLength_bad {n : Nat} {act : Bytes → State → State} {s : State} {body : Bytes} (hbody : requestBody s = body)
    (hl : body.length ≠ n) : withLength n act s = respond .badArgument [] s := by
  simp [withLength, hbody, hl]

theorem alertAsserted_iff {s : State} :
    alertAsserted s = true ↔
      (s.mc.mask.rsp = true ∧ ∃ r, s.mc.response = some r ∧ r.delivered = false) ∨
      (s.mc.mask.scan = true ∧ s.mc.flags.scanDone = true) ∨ (s.mc.mask.viol = true ∧ s.mc.flags.violation = true) ∨
      (s.mc.mask.boot = true ∧ s.mc.flags.bootNotice = true) := by
  simp [alertAsserted, Option.any_eq_true, or_assoc]

end Sys2Proof.Machine

namespace Sys2Proof.Channel

open Sys2Proof Sys2Proof.Machine

/-- Settles O43: the expiry by the scrub timer, and the bytes of a FETCH whose response is gone. -/
theorem secretResponseExpires : Obligations.SecretResponseExpires := by
  refine fun s => ⟨fun m r hm hr hs => ?_, exec_expiry_stopped, ?_⟩
  · rw [exec_expiry_running hm, scrub_secret (s := { freshPort s with clock := max s.clock m }) hr hs]
    rfl
  · intro n x hx hgone hfixed lines
    have hbyte : ∀ k, fetchByte (freshPort s) x k = 0xFF := fun k => by
      obtain ⟨len, hlen⟩ := Option.isSome_iff_exists.1 hfixed
      simp [fetchByte, hlen, hgone]
    refine ⟨_, rfl, ?_⟩
    rw [clockFetch_some n (s := freshPort s) hx]
    obtain ⟨len, hlen⟩ := Option.isSome_iff_exists.1 hfixed
    simp only [hbyte, endFetch, reportFetch, hlen, hgone, List.map_const', List.length_range]
    exact ⟨rfl, rfl⟩

/-- Settles O42: a FETCH by the response at its start, and its report by the count. -/
theorem fetchDeliversAndCounts : Obligations.FetchDeliversAndCounts := by
  intro s n k hfree lines fetch ended
  have hended : ∀ response timer, fetched (n + k) response timer s = ended (fetchedFrame s) response timer :=
    fun response timer => fetched_free _ _ _ hfree
  have hstart : ∀ frame len present, fetchedFrame s = frame → (s.mc.response.map fun r => r.frame.length) = len →
      s.mc.response.isSome = present → fetching n s = fetch frame len present := by
    rintro _ _ _ rfl rfl rfl
    rfl
  refine ⟨fun hr => ?_, fun r hr => ?_⟩
  · have hframe : fetchedFrame s = [0, 0] := by simp [fetchedFrame, hr]
    have hfetch := hstart [0, 0] none false hframe (by simp [hr]) (by simp [hr])
    refine ⟨hfetch ▸ exec_fetch n hfree, ?_⟩
    rw [← hfetch, exec_fetchReport, endFetch_fetching_short (by simp [hr]), hended, hframe, hr]
  · have hframe : fetchedFrame s = r.frame := by simp [fetchedFrame, hr]
    have hfetch := hstart r.frame (some r.frame.length) true hframe (by simp [hr]) (by simp [hr])
    rw [← hfetch, exec_fetchReport]
    refine ⟨exec_fetch n hfree, fun hlen => ?_, fun hlen hs => ?_, fun hlen hs => ?_⟩
    · rw [endFetch_fetching_short (by rintro _ hr'; cases hr.symm.trans hr'; exact hlen), hended, hframe, hr]
    · rw [endFetch_fetching_plain hr hlen hs, hended, hframe]
    · rw [endFetch_fetching_secret hr hlen hs, hended, hframe]

/-- Settles O41: the drop conditions of R186, then the checks of the accepted frame. -/
theorem unfitPostsAreDroppedOrRefused : Obligations.UnfitPostsAreDroppedOrRefused := by
  constructor
  · intro s phases extra hfree hb sent hdrop
    rw [exec_managementPost hfree hb, post_dropped _ (by exact hdrop)]
  · intro s frame beyond phases extra hs hb hsent hlow hhigh hlen refused bodyLength bad
    obtain ⟨hfree, hidle⟩ := channelFree_iff.1 hs
    have hfetch : (afterTransaction s).bp.fetchTxn = none := (busFree_iff.1 hfree).2.2
    have hpost := post_accepted (s := afterTransaction s) (beyond := beyond) dispatchByCode hidle hlow hhigh hlen
    have hrespond : ∀ status, respond status []
        { emptyResponse { afterTransaction s with bp.intakeCount := 0, bp.intake := [] } with
          mc.request := frame
          mc.state := .working .taken } = refused status := fun status => by
      simp only [respond, emptyResponse, hfetch]
      rw [Option.map_none, ← hfetch]
      rfl
    rw [exec_managementPost hfree hb, hsent, hpost]
    refine ⟨fun hbad => ?_, fun hgood hcode => ?_⟩
    · rw [if_pos ((badFrame_iff hlen).2 hbad), hrespond]
    · rw [if_neg (mt (badFrame_iff hlen).1 hgood), dispatchByCode]
      have hnone : requestOfCode (frameCode frame) = none := requestOfCode_none hcode
      simp only [hnone]
      rw [hrespond]

/-- Settles O45: the flags and the mask by the byte of the body. -/
theorem clearEventsAndSetAlertMask : Obligations.ClearEventsAndSetAlertMask := by
  refine ⟨?_, fun s proof body hs h hb hl => ⟨?_, ?_⟩, fun s => alertAsserted_iff⟩
  · intro s proof mask hs h flags
    have hclear : requestBody (accepted (requestFrame .clearEvents proof [mask]) .taken s) = [mask] := requestBody_accepted h
    have hset : requestBody (accepted (requestFrame .setAlertMask proof [mask]) .taken s) = [mask] := requestBody_accepted h
    have hbyte : byteAt [mask] 0 = mask := rfl
    refine ⟨fun hm hv => ?_, fun hm hv => ?_, fun hm => ?_, fun hm => ?_, fun hm => ?_⟩
    · refine requestCommand_next hs h (by simp) ?_
      rw [takeClearEvents, withLength_ok (n := 1) hclear rfl, hbyte, if_neg (by omega), hv]
      exact respond_accepted .clearEvents proof [mask] .taken .ok _ { s with mc.flags := flags }
    · refine requestCommand_next hs h (by simp) ?_
      rw [takeClearEvents, withLength_ok (n := 1) hclear rfl, hbyte, if_neg (by omega), hv]
      exact respond_accepted .clearEvents proof [mask] .taken .ok _
        { s with mc.flags := flags, tu.violations := 0, tu.firstRefusal := none }
    · refine requestCommand_next hs h (by simp) ?_
      rw [takeClearEvents, withLength_ok (n := 1) hclear rfl, hbyte, if_pos (by omega), respond_accepted]
    · refine requestCommand_next hs h (by simp) ?_
      rw [takeSetAlertMask, withLength_ok (n := 1) hset rfl, hbyte, if_neg (by omega)]
      exact respond_accepted .setAlertMask proof [mask] .taken .ok _ { s with mc.mask := alertMaskOfByte mask }
    · refine requestCommand_next hs h (by simp) ?_
      rw [takeSetAlertMask, withLength_ok (n := 1) hset rfl, hbyte, if_pos (by omega), respond_accepted]
  · refine requestCommand_next hs h hb ?_
    rw [takeClearEvents, withLength_bad (requestBody_accepted h) hl, respond_accepted]
  · refine requestCommand_next hs h hb ?_
    rw [takeSetAlertMask, withLength_bad (requestBody_accepted h) hl, respond_accepted]

end Sys2Proof.Channel
end

section
/-! PROOFS. The reports of chapter 10 and of the other chapters, field by field (R206). -/

namespace Sys2Proof.Machine

/-! ### Bits of a byte (R202) -/

theorem rightsByte_eq (x : Rights) : rightsByte x = flagByte x.r + 2 * flagByte x.p + 4 * flagByte x.e := by
  obtain ⟨r, p, e⟩ := x
  cases r <;> cases p <;> cases e <;> rfl

theorem eventFlagsByte_eq (f : EventFlags) :
    eventFlagsByte f = flagByte f.scanDone + 2 * flagByte f.violation + 4 * flagByte f.bootNotice := by
  obtain ⟨a, b, c⟩ := f
  cases a <;> cases b <;> cases c <;> rfl

theorem alertMaskByte_eq (m : AlertMask) :
    alertMaskByte m = flagByte m.rsp + 2 * flagByte m.scan + 4 * flagByte m.viol + 8 * flagByte m.boot := by
  obtain ⟨a, b, c, d⟩ := m
  cases a <;> cases b <;> cases c <;> cases d <;> rfl

theorem credModeCode_eq (b : Bool) : credModeCode b = flagByte (!b) := by
  cases b <;> rfl

theorem leBytes_one (n : Nat) : leBytes 1 n = [BitVec.ofNat 8 n] := rfl

/-! ### The bodies (R206) -/

theorem slotRecordBytes_length (r : Option SlotRecord) : (slotRecordBytes r).length = 4 := by
  cases r <;> rfl

theorem numberBytes_length (x : Option Word32) : (numberBytes x).length = 4 := leBytes_length ..

theorem infoBody_length (s : State) : (infoBody s).length = 29 := by
  simp [infoBody, slotRecordBytes_length, numberBytes_length, credentialTotals]

theorem firstRefusalBytes_length (x : Option FirstRefusal) : (firstRefusalBytes x).length = 5 := by
  cases x <;> simp [firstRefusalBytes, zeroBytes]

theorem statusBody_length (s : State) : (statusBody s).length = 11 := by
  simp [statusBody, firstRefusalBytes_length]

theorem regionBytes_length (e : Region) : (regionBytes e).length = 8 := by
  simp [regionBytes]

theorem mapBody_length (s : State) : (mapBody s).length = 138 := by
  have hmap : ((s.store.slotMap.map slotMapBytes).getD (zeroBytes 8)).length = 8 := by
    cases s.store.slotMap <;> simp [slotMapBytes, zeroBytes]
  simp [mapBody, regionBytes_length, hmap, List.length_flatMap]

theorem rejectBytes_length (x : StagingOutcome) : (rejectBytes x).length = 2 := by
  cases x <;> rfl

theorem verifiedBytes_length {x : StagingOutcome} (h : ∀ v key label, x = .pass v key label → label.length = 16) :
    (verifiedBytes x).length = 21 := by
  cases x with
  | pass v key label => simp [verifiedBytes, h v key label rfl]
  | none | rejected | stale | abandoned => rfl

theorem slotStatusBody_length {s : State}
    (h : ∀ v key label, s.isc.staging.outcome = .pass v key label → label.length = 16) :
    (slotStatusBody s).length = 43 := by
  simp [slotStatusBody, slotRecordBytes_length, numberBytes_length, rejectBytes_length, verifiedBytes_length h]

theorem laneBody_byte (k : Byte) (l : Lane) (start : Nat) :
    laneBody k.toNat l start =
      [k] ++ l.value ++ [BitVec.ofNat 8 l.log.length, BitVec.ofNat 8 (recordsFrom l start).length] ++
        (recordsFrom l start).flatMap logRecordBytes := by
  simp [laneBody, leBytes_one]

theorem identityBody_incomplete (k : IdentityKey) {e : Endorsement} (h : ∀ declared bytes, e ≠ .complete declared bytes) :
    identityBody k e = k.publicKey ++ [0, 0] := by
  cases e with
  | complete declared bytes => exact absurd rfl (h declared bytes)
  | absent | part => rfl

theorem credentialListing_eq (c : Credential) :
    credentialListing c =
      [BitVec.ofNat 8 c.handle, credClassCode c.cls, flagByte (!c.exportable), flagByte c.gated, bindingCode c.binding,
        BitVec.ofNat 8 c.secret.length] := by
  simp [credentialListing, credModeCode_eq, leBytes_one]

/-! ### Their taking (R189) -/

theorem withState_ok {ok : Bool} {act : State → State} (s : State) (h : ok = true) : withState ok act s = act s := by
  simp [withState, h]

theorem withState_no {ok : Bool} {act : State → State} (s : State) (h : ok = false) :
    withState ok act s = respond .badState [] s := by
  simp [withState, h]

section Taking

variable {s : State} {proof : Option Bytes} {body : Bytes}
  (hs : channelFree s = true) (h : requestWellFormed proof body = true) (hb : body.length ≤ 259)
include hs h hb

/-- R189 step 5: the refusal of a request whose only check is its length. -/
theorem length_refused {r : Request} {n : Nat} {act : Bytes → State → State} (hl : body.length ≠ n) :
    (Host.Outcome.next (requestCommand r (withLength n act) proof body s) : Result) =
      .next (answered r .badArgument [] s) := by
  refine requestCommand_next hs h hb ?_
  rw [withLength_bad (requestBody_accepted h) hl, respond_accepted]

/-- R189 step 3: the refusal of a state check. -/
theorem state_refused {r : Request} {dispatch : State → State} {ok : State → Bool} {act : State → State → State}
    (hd : ∀ u, dispatch u = withState (ok u) (act u) u)
    (hno : ok (accepted (requestFrame r proof body) .taken s) = false) :
    (Host.Outcome.next (requestCommand r dispatch proof body s) : Result) = .next (answered r .badState [] s) := by
  refine requestCommand_next hs h hb ?_
  rw [hd, withState_no _ hno, respond_accepted]

/-- R189: the refusal of the length behind a state check that passes. -/
theorem stateLength_refused {r : Request} {dispatch : State → State} {ok : State → Bool} {n : Nat}
    {act : State → Bytes → State → State} (hd : ∀ u, dispatch u = withState (ok u) (withLength n (act u)) u)
    (hok : ok (accepted (requestFrame r proof body) .taken s) = true) (hl : body.length ≠ n) :
    (Host.Outcome.next (requestCommand r dispatch proof body s) : Result) = .next (answered r .badArgument [] s) := by
  refine requestCommand_next hs h hb ?_
  rw [hd, withState_ok _ hok, withLength_bad (requestBody_accepted h) hl, respond_accepted]

end Taking

section Report

variable {s : State} {proof : Option Bytes} (hs : channelFree s = true) (h : requestWellFormed proof [] = true)
include hs h

theorem exec_getInfo : exec (.getInfo proof []) s = .next (answered .getInfo .ok (infoBody s) s) := by
  refine requestCommand_next hs h (Nat.zero_le _) ?_
  rw [takeGetInfo, withLength_ok (n := 0) (requestBody_accepted h) rfl, respond_accepted]
  rfl

theorem exec_getStatus :
    exec (.getStatus proof []) s = .next (answered .getStatus .ok (statusBody s) { s with mc.dropped := false }) := by
  refine requestCommand_next hs h (Nat.zero_le _) ?_
  rw [takeGetStatus, withLength_ok (n := 0) (requestBody_accepted h) rfl]
  exact respond_accepted .getStatus proof [] .taken .ok (statusBody s) { s with mc.dropped := false }

theorem exec_readMap : exec (.readMap proof []) s = .next (answered .readMap .ok (mapBody s) s) := by
  refine requestCommand_next hs h (Nat.zero_le _) ?_
  rw [takeReadMap, withLength_ok (n := 0) (requestBody_accepted h) rfl, respond_accepted]
  rfl

theorem exec_listCredentials :
    exec (.listCredentials proof []) s =
      .next (answered .listCredentials .ok (credentialListBody s.store.credentials) s) := by
  refine requestCommand_next hs h (Nat.zero_le _) ?_
  rw [takeListCredentials, withLength_ok (n := 0) (requestBody_accepted h) rfl, respond_accepted]
  rfl

theorem exec_getSlotStatus (hl : s.store.lifecycle ≠ .blank) :
    exec (.getSlotStatus proof []) s = .next (answered .getSlotStatus .ok (slotStatusBody s) s) := by
  refine requestCommand_next hs h (Nat.zero_le _) ?_
  rw [takeGetSlotStatus, withState_ok _ (by simp [lifecycleIs, hl]),
    withLength_ok (n := 0) (requestBody_accepted h) rfl, respond_accepted]
  rfl

end Report

theorem takeGetIdentity_key {s : State} {k : IdentityKey} (hk : s.store.identity = some k) :
    takeGetIdentity s = withLength 0 (fun _ s => respond .ok (identityBody k s.store.endorsement) s) s := by
  rw [takeGetIdentity, hk]

theorem takeGetIdentity_noKey {s : State} (hk : s.store.identity = none) :
    takeGetIdentity s = respond .badState [] s := by
  rw [takeGetIdentity, hk]

theorem exec_getIdentity {s : State} {proof : Option Bytes} {k : IdentityKey} (hs : channelFree s = true)
    (h : requestWellFormed proof [] = true) (hk : s.store.identity = some k) :
    exec (.getIdentity proof []) s =
      .next (answered .getIdentity .ok (identityBody k s.store.endorsement) s) := by
  refine requestCommand_next hs h (Nat.zero_le _) ?_
  rw [takeGetIdentity_key (by exact hk), withLength_ok (n := 0) (requestBody_accepted h) rfl, respond_accepted]
  rfl

theorem exec_readLane {s : State} {proof : Option Bytes} {k start : Byte} (hs : channelFree s = true)
    (h : requestWellFormed proof [k, start] = true) :
    exec (.readLane proof [k, start]) s =
      if 7 < k.toNat then .next (answered .readLane .badArgument [] s)
      else .next (answered .readLane .ok (laneBody k.toNat (laneAt s k.toNat) start.toNat) s) := by
  have hbody : requestBody (accepted (requestFrame .readLane proof [k, start]) .taken s) = [k, start] :=
    requestBody_accepted h
  rw [← apply_ite Host.Outcome.next]
  refine requestCommand_next hs h (by simp) ?_
  rw [takeReadLane, withLength_ok (n := 2) hbody rfl]
  show (if 7 < k.toNat then _ else _) = _
  refine if_congr Iff.rfl ?_ ?_
  · rw [respond_accepted]
  · rw [respond_accepted]
    rfl

end Sys2Proof.Machine

namespace Sys2Proof.Channel

open Sys2Proof Sys2Proof.Machine

/-- Settles O44: each report by its body, read from the state at its taking. -/
theorem reportsAnswerAtTheirTaking : Obligations.ReportsAnswerAtTheirTaking := by
  intro s proof hs h yes rights version signer slots totals info refusal status region g rejected verified slotStatus
  have hinfo : infoBody s = info := by
    cases hr : s.store.slotRecord <;> simp only [infoBody, info, slots, hr] <;> rfl
  have hstatus : statusBody s = status := by
    simp only [statusBody, eventFlagsByte_eq, alertMaskByte_eq]
    rfl
  have hregion : mapBody s = region := by
    cases hm : s.store.slotMap <;> simp only [mapBody, regionBytes, rightsByte_eq, hm, region] <;> rfl
  have hslot : slotStatusBody s = slotStatus := rfl
  rw [← hinfo, ← hstatus, ← hregion, ← hslot]
  refine ⟨exec_getInfo hs h, infoBody_length s, exec_getStatus hs h, statusBody_length s, exec_readMap hs h,
    mapBody_length s, ?_, fun hl => ⟨exec_getSlotStatus hs h hl, slotStatusBody_length⟩, fun k hk => ⟨?_, ?_⟩, ?_, ?_, ?_⟩
  · rw [exec_listCredentials hs h, credentialListBody, funext credentialListing_eq]
    rfl
  · intro declared bytes he
    rw [exec_getIdentity hs h hk, he]
    rfl
  · intro he
    rw [exec_getIdentity hs h hk, identityBody_incomplete k he]
  · intro k start hk
    rw [exec_readLane hs (requestWellFormed_short h (by simp)), if_neg (by omega), laneBody_byte]
    rfl
  · intro k start hk
    rw [exec_readLane hs (requestWellFormed_short h (by simp)), if_pos hk]
  · intro body hb hw
    refine ⟨fun hl => ?_, fun hn => ?_, fun hl => length_refused hs hw hb hl, fun hne => ?_⟩
    · exact state_refused hs hw hb (fun _ => rfl) (by simp [lifecycleIs, hl])
    · refine requestCommand_next hs hw hb ?_
      rw [takeGetIdentity_noKey (by exact hn), respond_accepted]
    · have hl : body.length ≠ 0 := by simpa using hne
      refine ⟨length_refused hs hw hb hl, length_refused hs hw hb hl, length_refused hs hw hb hl,
        length_refused hs hw hb hl, fun hbl => ?_, fun hsome => ?_⟩
      · exact stateLength_refused hs hw hb (fun _ => rfl) (by simp [lifecycleIs, hbl]) hl
      · obtain ⟨k, hk⟩ := Option.isSome_iff_exists.1 hsome
        refine requestCommand_next hs hw hb ?_
        rw [takeGetIdentity_key (by exact hk), withLength_bad (requestBody_accepted hw) hl, respond_accepted]

end Sys2Proof.Channel
end

section
/-! PROOFS. A POST of a request's frame runs that request, under an open read too (R21, R186 to R189). -/

namespace Sys2Proof.Machine

/-! ### What a request does is the same on every bus (R21) -/

/-- The state with another Boot Port. -/
def onBus (b : BootPort) (s : State) : State := { s with bp := b }

/-- An act that neither looks at the Boot Port nor touches it, where no FETCH is in progress. -/
def Commutes (f : State → State) : Prop := ∀ s b, b.fetchTxn = none → f (onBus b s) = onBus b (f s)

/-- The blocks that a request acts on are the same in both states. -/
structure SameWork (s t : State) : Prop where
  mc : t.mc = s.mc
  tu : t.tu = s.tu
  store : t.store = s.store
  writes : t.writes = s.writes
  cred : t.cred = s.cred
  lanes : t.lanes = s.lanes
  su : t.su = s.su
  flash : t.flash = s.flash

theorem SameWork.symm {s t : State} (h : SameWork s t) : SameWork t s :=
  ⟨h.mc.symm, h.tu.symm, h.store.symm, h.writes.symm, h.cred.symm, h.lanes.symm, h.su.symm, h.flash.symm⟩

theorem SameWork.trans {s t u : State} (h : SameWork s t) (h' : SameWork t u) : SameWork s u :=
  ⟨h'.mc.trans h.mc, h'.tu.trans h.tu, h'.store.trans h.store, h'.writes.trans h.writes, h'.cred.trans h.cred,
    h'.lanes.trans h.lanes, h'.su.trans h.su, h'.flash.trans h.flash⟩

/-- An act that leaves the Boot Port, and whose effect on the other blocks does not depend on it. -/
def BusBlind (f : State → State) : Prop :=
  ∀ s b, b.fetchTxn = none → (f (onBus b s)).bp = b ∧ SameWork (f s) (f (onBus b s))

theorem sameWork_onBus (b : BootPort) (s : State) : SameWork s (onBus b s) := ⟨rfl, rfl, rfl, rfl, rfl, rfl, rfl, rfl⟩

theorem Commutes.blind {f : State → State} (h : Commutes f) : BusBlind f := fun s b hb => by
  rw [h s b hb]
  exact ⟨rfl, sameWork_onBus b (f s)⟩

theorem startSignature_congr {s t : State} (h : s.su = t.su) : (startSignature s).su = (startSignature t).su := by
  unfold startSignature
  rw [h]
  (repeat' split) <;> simp [h]

/-- What starts on the Signature Unit after a step does not depend on the rest. -/
theorem settle_su (s : State) : (settle s).su = if restartDue s then s.su else (startSignature s).su := by
  unfold settle
  split
  · rfl
  · rw [(startChunkRead_frame _).2.2.2.2.2.2.1]
    exact startSignature_congr (by simp)

theorem sameWork_settle (b : BootPort) (s : State) : SameWork (settle s) (settle (onBus b s)) := by
  refine ⟨by simp [onBus], by simp [onBus], by simp [onBus], by simp [onBus], by simp [onBus], by simp [onBus], ?_,
    by simp [onBus]⟩
  rw [settle_su, settle_su, show restartDue (onBus b s) = restartDue s from rfl]
  split
  · rfl
  · exact startSignature_congr rfl

theorem Commutes.settled {f : State → State} (h : Commutes f) : BusBlind fun s => settle (f s) := fun s b hb => by
  dsimp only
  rw [h s b hb]
  exact ⟨(settle_frame _).1, sameWork_settle b (f s)⟩

theorem blind_ite {c : State → Prop} {d : ∀ s, Decidable (c s)} {f g : State → State}
    (hc : ∀ s b, c (onBus b s) ↔ c s) (hf : BusBlind f) (hg : BusBlind g) :
    BusBlind fun s => @ite _ (c s) (d s) (f s) (g s) := fun s b hb => by
  dsimp only
  by_cases h : c s
  · rw [if_pos h, if_pos ((hc s b).2 h)]
    exact hf s b hb
  · rw [if_neg h, if_neg (mt (hc s b).1 h)]
    exact hg s b hb

theorem blind_respond {status : Status} {body : Bytes} : BusBlind (respond status body) :=
  Commutes.blind fun _ _ _ => rfl

theorem blind_withState {ok : State → Bool} {act : State → State} (hok : ∀ s b, ok (onBus b s) = ok s)
    (h : BusBlind act) : BusBlind fun s => withState (ok s) act s :=
  blind_ite (fun s b => by rw [hok]) h blind_respond

theorem blind_withLength {n : Nat} {act : Bytes → State → State} (h : ∀ body, BusBlind (act body)) :
    BusBlind (withLength n act) := fun s b hb => by
  unfold withLength
  rw [show requestBody (onBus b s) = requestBody s from rfl]
  dsimp only
  split
  · exact h _ s b hb
  · exact blind_respond s b hb

theorem commutes_write (r : Request) (w : StoreWrite) : Commutes (writeAndWait r w) := fun s b _ => by
  unfold writeAndWait askWrite onBus
  dsimp only
  cases s.writes.current <;> rfl

theorem blind_digest (job : Job) (item : DigestItem) : BusBlind (digestAndWait job item) :=
  Commutes.settled fun _ _ _ => rfl

theorem commutes_emptyResponse : Commutes emptyResponse := fun s b hb => by
  have hsame : ∀ f, { b with fetchTxn := b.fetchTxn.map f } = b := fun f => by
    rw [hb, Option.map_none, ← hb]
  exact congrArg (fun x => onBus x (emptyResponse s)) (hsame _)

theorem commutes_notifyExtend (k : Nat) : Commutes (notifyExtend k) := fun s b hb => by
  have hempty := commutes_emptyResponse { s with cred := s.cred.map (noteExtend k) } b hb
  unfold notifyExtend onBus at *
  dsimp only at *
  split
  · exact hempty
  · rfl

/-! ### The takings -/

theorem beginExtend_onBus (k : Nat) (r : LogRecord) (s : State) {b : BootPort} (hb : b.fetchTxn = none) :
    beginExtend k r (onBus b s) = (beginExtend k r s).map (onBus b) := by
  unfold beginExtend
  rw [show laneAt (onBus b s) k = laneAt s k from rfl]
  split
  · rfl
  · exact congrArg some (commutes_notifyExtend k
      { s with lanes := s.lanes.modify k fun l => { l with extending := some ⟨l.value, r⟩ } } b hb)

theorem blind_extendLane : BusBlind takeExtendLane := by
  refine blind_withLength fun body => ?_
  dsimp only
  refine blind_ite (fun _ _ => Iff.rfl) blind_respond fun s b hb => ?_
  have hfold : BusBlind fun u =>
      digestAndWait (.laneFold (byteAt body 0).toNat) (bufferItem .laneExtend (foldInput u (byteAt body 0).toNat)) u :=
    Commutes.settled (f := fun u => waitFor (.laneFold (byteAt body 0).toNat)
      (placeChannelItem (bufferItem .laneExtend (foldInput u (byteAt body 0).toNat)) u)) fun _ _ _ => rfl
  rw [beginExtend_onBus _ _ _ hb]
  cases beginExtend (byteAt body 0).toNat ⟨slice body 1 32, .request, BitVec.ofNat 32 (leAt body 33 4)⟩ s with
  | none => exact blind_respond s b hb
  | some u => exact hfold u b hb

theorem blind_ownerGate (r : Request) : BusBlind (ownerGate r) := fun s b hb => by
  unfold ownerGate
  rw [show (onBus b s).mc.request = s.mc.request from rfl]
  split
  · exact blind_respond s b hb
  · rw [show (onBus b s).store = s.store from rfl]
    split
    · exact blind_respond s b hb
    · exact blind_digest _ _ s b hb

theorem blind_gated (r : Request) : BusBlind (takeGated r) :=
  blind_withState (ok := fun s => lifecycleIs s .owned) (fun _ _ => rfl) (blind_ownerGate r)

theorem blind_readLane : BusBlind takeReadLane := by
  refine blind_withLength fun body => ?_
  dsimp only
  exact blind_ite (fun _ _ => Iff.rfl) blind_respond (Commutes.blind fun _ _ _ => rfl)

theorem blind_clearEvents : BusBlind takeClearEvents := by
  refine blind_withLength fun body => ?_
  dsimp only
  refine blind_ite (fun _ _ => Iff.rfl) blind_respond (Commutes.blind fun s b _ => ?_)
  cases (byteAt body 0).getLsbD 1 <;> rfl

theorem blind_setAlertMask : BusBlind takeSetAlertMask := by
  refine blind_withLength fun body => ?_
  dsimp only
  exact blind_ite (fun _ _ => Iff.rfl) blind_respond (Commutes.blind fun _ _ _ => rfl)

theorem blind_restrictRegion : BusBlind takeRestrictRegion := by
  refine blind_withLength fun body => ?_
  dsimp only
  exact blind_ite (fun _ _ => Iff.rfl) blind_respond (Commutes.blind fun _ _ _ => rfl)

theorem blind_write (r : Request) (w : StoreWrite) : BusBlind (writeAndWait r w) := (commutes_write r w).blind

theorem blind_loadSlotMap : BusBlind takeLoadSlotMap := by
  refine blind_withState (ok := fun s => lifecycleIs s .blank) (fun _ _ => rfl) (blind_withLength fun body => ?_)
  dsimp only
  exact blind_ite (fun _ _ => Iff.rfl) (blind_write _ _) blind_respond

theorem blind_generateIdentity : BusBlind takeGenerateIdentity :=
  blind_withState (ok := fun s => lifecycleIs s .blank) (fun _ _ => rfl)
    (blind_withLength fun _ => Commutes.settled (f := fun s => waitFor .generate (placeChannelOp .generate s))
      fun _ _ _ => rfl)

theorem blind_loadEndorsement : BusBlind takeLoadEndorsement := by
  refine blind_withState (ok := fun s => lifecycleIs s .blank && s.store.identity.isSome) (fun _ _ => rfl) ?_
  dsimp only
  refine blind_ite (fun _ _ => Iff.rfl) blind_respond (blind_ite (fun _ _ => Iff.rfl) blind_respond ?_)
  exact fun s b hb => blind_write _ _ s b hb

theorem blind_loadUpdateKey : BusBlind takeLoadUpdateKey := by
  refine blind_withState (ok := fun s => lifecycleIs s .blank) (fun _ _ => rfl) (blind_withLength fun body => ?_)
  dsimp only
  exact blind_ite (fun _ _ => Iff.rfl) blind_respond (blind_write _ _)

theorem blind_finishProvisioning : BusBlind takeFinishProvisioning :=
  blind_withState (ok := fun s => lifecycleIs s .blank && s.store.slotMap.isSome && s.store.identity.isSome &&
      !endorsementPartial s.store.endorsement && s.store.keys.any keyActive) (fun _ _ => rfl)
    (blind_withLength fun _ => Commutes.blind fun _ _ _ => rfl)

theorem blind_getIdentity : BusBlind takeGetIdentity := fun s b hb => by
  cases hk : s.store.identity with
  | none =>
    rw [takeGetIdentity_noKey hk, takeGetIdentity_noKey (s := onBus b s) hk]
    exact blind_respond s b hb
  | some k =>
    rw [takeGetIdentity_key hk, takeGetIdentity_key (s := onBus b s) hk]
    exact blind_withLength (fun _ => Commutes.blind fun _ _ _ => rfl) s b hb

theorem blind_quote : BusBlind takeQuote := by
  refine blind_withState (ok := fun s => s.store.identity.isSome) (fun _ _ => rfl) (blind_withLength fun body => ?_)
  dsimp only
  exact blind_ite (fun _ _ => Iff.rfl) blind_respond fun s b hb => blind_digest _ _ s b hb

theorem blind_openStaging : BusBlind takeOpenStaging :=
  blind_withState (ok := fun s => bootScanDone s && s.isc.staging.state = .closed &&
      ((slotRecordOf s).stateOf (liveInactive s) = .empty || (slotRecordOf s).stateOf (liveInactive s) = .rejected))
    (fun _ _ => rfl) (blind_withLength fun _ => Commutes.blind fun _ _ _ => rfl)

theorem blind_verifyStaged : BusBlind takeVerifyStaged :=
  blind_withState (ok := fun s => bootScanDone s && s.isc.staging.state = .opened) (fun _ _ => rfl)
    (blind_withLength fun _ => Commutes.settled (f := fun s => respond .accepted [] (startScan .stagedScan (liveInactive s)
      { s with isc.staging := ⟨.verifying, .none, 0, 0, 0⟩ })) fun _ _ _ => rfl)

theorem blind_commitStaged : BusBlind takeCommitStaged := fun s b hb => by
  refine blind_withState (ok := fun s => !lifecycleIs s .blank && s.isc.staging.state = .verified &&
      ((slotRecordOf s).stateOf (slotRecordOf s).active = .valid || (slotRecordOf s).stateOf (slotRecordOf s).active = .failed))
    (fun _ _ => rfl) (blind_withLength fun body s b hb => ?_) s b hb
  exact blind_write _ _ { s with isc.staging.state := .closed } b hb

theorem blind_confirmActive : BusBlind takeConfirmActive := by
  refine blind_withState (ok := fun s => !lifecycleIs s .blank && s.isc.boot.outcome = .pass &&
      s.isc.boot.slot = (slotRecordOf s).active && isTrial ((slotRecordOf s).stateOf (slotRecordOf s).active))
    (fun _ _ => rfl) (blind_withLength fun _ => ?_)
  dsimp only
  refine blind_ite (fun _ _ => Iff.rfl) (Commutes.blind fun s b hb => ?_) fun s b hb => blind_write _ _ s b hb
  unfold askWrite waitFor onBus
  dsimp only
  cases s.writes.current <;> rfl

theorem blind_abandonStaging : BusBlind takeAbandonStaging := by
  refine blind_withState (ok := fun s => !lifecycleIs s .blank && s.isc.staging.state ≠ .closed) (fun _ _ => rfl)
    (blind_withLength fun _ => ?_)
  refine blind_ite (fun _ _ => Iff.rfl) (Commutes.settled fun _ _ _ => rfl) (Commutes.blind fun _ _ _ => rfl)

theorem blind_getSlotStatus : BusBlind takeGetSlotStatus :=
  blind_withState (ok := fun s => !lifecycleIs s .blank) (fun _ _ => rfl)
    (blind_withLength fun _ => Commutes.blind fun _ _ _ => rfl)

theorem blind_takeOwnership : BusBlind takeTakeOwnership :=
  blind_withState (ok := fun s => lifecycleIs s .provisioned) (fun _ _ => rfl)
    (blind_withLength fun _ => blind_digest _ _)

theorem blind_grantUse (r : Request) (c : Credential) : BusBlind (grantUse r c) := fun s b hb => by
  unfold grantUse
  split
  · exact blind_digest _ _ s b hb
  · exact ⟨rfl, rfl, rfl, rfl, rfl, rfl, rfl, rfl, rfl⟩

theorem blind_checkPolicy (r : Request) (c : Credential) : BusBlind (checkPolicy r c) := fun s b hb => by
  unfold checkPolicy
  dsimp only
  split
  · exact blind_grantUse r c { s with cred := some ⟨c, some s.isc.boot, none, false⟩ } b hb
  · next keySlot minVersion _ =>
    exact blind_ite
      (c := fun u => (outcomeBooted u.isc.boot.outcome && signerSatisfied u.isc.boot keySlot minVersion) = true)
      (fun _ _ => Iff.rfl) (blind_grantUse r c) blind_respond { s with cred := some ⟨c, some s.isc.boot, none, false⟩ } b hb
  · next mask _ hm =>
    refine blind_ite (c := fun u => outcomeBooted u.isc.boot.outcome = true) (f := fun u => digestAndWait (.laneBinding r) (bufferItem .laneBinding (maskedLaneValues u mask))
        { u with cred := some ⟨c, some u.isc.boot, some (maskedLaneValues u mask), false⟩ })
      (fun _ _ => Iff.rfl) (fun u b hb => ?_) blind_respond
      { s with cred := some ⟨c, some s.isc.boot, none, false⟩ } b hb
    exact blind_digest _ _ { u with cred := some ⟨c, some u.isc.boot, some (maskedLaneValues u mask), false⟩ } b hb

theorem blind_useCredential (r : Request) (c : Credential) : BusBlind (useCredential r c) := fun s b hb => by
  unfold useCredential
  split
  · exact blind_ownerGate r (holdCredential c s) b hb
  · exact blind_checkPolicy r c (holdCredential c s) b hb

theorem blind_releaseCredential : BusBlind takeReleaseCredential := by
  refine blind_withState (ok := fun s => lifecycleIs s .owned) (fun _ _ => rfl) (blind_withLength fun body => ?_)
  dsimp only
  refine blind_ite (fun _ _ => Iff.rfl) blind_respond fun s b hb => ?_
  rw [show (onBus b s).store = s.store from rfl]
  split
  · exact blind_respond s b hb
  · split
    · exact blind_useCredential _ _ s b hb
    · exact blind_respond s b hb

theorem blind_derive : BusBlind takeDerive := by
  refine blind_withState (ok := fun s => lifecycleIs s .owned) (fun _ _ => rfl) ?_
  dsimp only
  refine blind_ite (fun _ _ => Iff.rfl) blind_respond fun s b hb => ?_
  rw [show (onBus b s).store = s.store from rfl, show requestBody (onBus b s) = requestBody s from rfl]
  split
  · exact blind_respond s b hb
  · exact blind_useCredential _ _ s b hb

/-- R21: a request acts on the blocks the same whatever transaction is open. -/
theorem blind_takeRequest (r : Request) : BusBlind (takeRequest r) := by
  cases r with
  | clearEvents => exact blind_clearEvents
  | setAlertMask => exact blind_setAlertMask
  | restrictRegion => exact blind_restrictRegion
  | loadSlotMap => exact blind_loadSlotMap
  | generateIdentity => exact blind_generateIdentity
  | loadEndorsement => exact blind_loadEndorsement
  | loadUpdateKey => exact blind_loadUpdateKey
  | finishProvisioning => exact blind_finishProvisioning
  | getIdentity => exact blind_getIdentity
  | quote => exact blind_quote
  | readLane => exact blind_readLane
  | extendLane => exact blind_extendLane
  | openStaging => exact blind_openStaging
  | verifyStaged => exact blind_verifyStaged
  | commitStaged => exact blind_commitStaged
  | confirmActive => exact blind_confirmActive
  | abandonStaging => exact blind_abandonStaging
  | getSlotStatus => exact blind_getSlotStatus
  | takeOwnership => exact blind_takeOwnership
  | releaseCredential => exact blind_releaseCredential
  | derive => exact blind_derive
  | changeOwnerToken | releaseOwnership | addUpdateKey | revokeUpdateKey | storeCredential | eraseCredential =>
    exact blind_gated _
  | getInfo | getStatus | readMap | listCredentials | restart =>
    exact blind_withLength fun _ => Commutes.blind fun _ _ _ => rfl

theorem blind_receivePost (count : Nat) (kept : Bytes) {dispatch : State → State} (h : BusBlind dispatch) :
    BusBlind (receivePost count kept dispatch) := fun s b hb => by
  have hbad : BusBlind fun u => if badFrame u.mc.request then respond .badFrame [] u else dispatch u :=
    blind_ite (fun _ _ => Iff.rfl) blind_respond h
  unfold receivePost
  rw [show dropsPost (onBus b s) count kept = dropsPost s count kept from rfl]
  split
  · exact ⟨rfl, rfl, rfl, rfl, rfl, rfl, rfl, rfl, rfl⟩
  · have haccept : acceptPost kept (onBus b s) = onBus b (acceptPost kept s) := by
      unfold acceptPost
      rw [commutes_emptyResponse s b hb]
      rfl
    rw [haccept]
    exact hbad (acceptPost kept s) b hb

/-! ### The frame of a request (R204, R205) -/

theorem exec_requestInstr (r : Request) (proof : Option Bytes) (body : Bytes) (s : State) :
    exec (requestInstr r proof body) s = .next (requestCommand r (takeRequest r) proof body s) := by
  cases r <;> rfl

theorem requestOfCode_requestCode (r : Request) : requestOfCode (requestCode r) = some r := by
  cases r <;> decide

/-- R186, R189: a POST of a request's frame is that request, with or without bytes after it. -/
theorem post_frame_beyond (r : Request) (proof : Option Bytes) (body beyond : Bytes) (s : State)
    (h : requestWellFormed proof body = true) :
    post (requestFrame r proof body ++ beyond) dispatchByCode s = post (requestFrame r proof body) (takeRequest r) s := by
  have hl := requestLength_le h
  have hkept := kept_frame r proof body beyond h
  have hfield := kept_length_field r proof body beyond h
  have hkept' := kept_frame r proof body [] h
  have hfield' := kept_length_field r proof body [] h
  rw [List.append_nil] at hkept' hfield'
  have hdrops : ∀ u : State, dropsPost u (requestFrame r proof body ++ beyond).length
        ((requestFrame r proof body ++ beyond).take 292) =
      dropsPost u (requestFrame r proof body).length ((requestFrame r proof body).take 292) := fun u => by
    have hlong : ¬ 2 + requestLength proof body + beyond.length < 2 + requestLength proof body := by omega
    simp only [dropsPost, hfield, hfield', List.length_append, requestFrame_length, decide_eq_false hlong,
      Nat.lt_irrefl, decide_false]
    simp only [decide_eq_false (show ¬ 2 + requestLength proof body + beyond.length < 2 by omega),
      decide_eq_false (show ¬ 2 + requestLength proof body < 2 by omega)]
  have hdispatch : ∀ u : State, u.mc.request = requestFrame r proof body → dispatchByCode u = takeRequest r u := fun u hu => by
    rw [dispatchByCode, hu, requestFrame_code, requestOfCode_requestCode]
  simp only [post, receivePost, acceptPost, hkept, hfield, hkept', hfield', hdrops]
  rw [hdispatch _ rfl]

end Sys2Proof.Machine

namespace Sys2Proof.Channel

open Sys2Proof Sys2Proof.Machine

/-- Settles O40: the POST of a frame by its code; under an open read the request acts on the blocks as without one. -/
theorem postOfFrameRunsItsRequest : Obligations.PostOfFrameRunsItsRequest := by
  intro r proof body s h
  refine ⟨fun hbus beyond phases extra hb hsent => ?_, fun hrst hread hfetch => ?_⟩
  · rw [exec_requestInstr]
    show Host.Outcome.next (managementPost (phases ++ extra) s) = _
    refine congrArg Host.Outcome.next ?_
    cases hrst : s.rstLow with
    | true =>
      have hopen : openForTaking s = false := by simp [openForTaking, hrst]
      simp only [requestCommand, hopen, managementPost, takenCommand, wholeTransaction, transaction_held hrst]
      rfl
    | false =>
      obtain ⟨hr, hf⟩ := hbus.resolve_left (by simp [hrst])
      have hfree : busFree s = true := busFree_iff.2 ⟨hrst, hr, hf⟩
      simp only [requestCommand, openForTaking_free hfree]
      rw [managementPost, takenCommand_free _ _ _ hfree, wholeTransaction_free (s := s) _ hfree, hb, hsent,
        post_frame_beyond r proof body beyond _ h]
      rfl
  · have hopen : openForTaking s = true := by simp [openForTaking, hrst, hread]
    have hfree : busFree { s with bp.readTxn := none } = true := busFree_iff.2 ⟨hrst, rfl, hfetch⟩
    have hblind := blind_receivePost (requestFrame r proof body).length ((requestFrame r proof body).take 292)
      (blind_takeRequest r)
    have ht := hblind (freshPort s) s.bp hfetch
    have hu := hblind (freshPort s) { s.bp with readTxn := none, out := [], resetEnable := false, intakeCount := 0, intake := [] } hfetch
    refine ⟨_, _, exec_requestInstr r proof body s, exec_requestInstr r proof body _, ?_⟩
    rw [show requestCommand r (takeRequest r) proof body { s with bp.readTxn := none } =
        receivePost (requestFrame r proof body).length ((requestFrame r proof body).take 292) (takeRequest r)
          (onBus { s.bp with readTxn := none, out := [], resetEnable := false, intakeCount := 0, intake := [] } (freshPort s)) by
      simp only [requestCommand, openForTaking_free hfree]
      rw [wholeTransaction_free _ hfree]
      rfl]
    rw [show requestCommand r (takeRequest r) proof body s =
        receivePost (requestFrame r proof body).length ((requestFrame r proof body).take 292) (takeRequest r)
          (onBus s.bp (freshPort s)) by
      simp only [requestCommand, hopen, if_true]
      rfl]
    obtain ⟨hmc, htu, hstore, hwrites, hcred, hlanes, hsu, hflash⟩ := hu.2.symm.trans ht.2
    exact ⟨ht.1, hmc, htu, hstore, hwrites, hcred, hlanes, hsu, hflash⟩

end Sys2Proof.Channel
end

section
/-! PROOFS. The bytes of a read: the stream over its table, the run of the downstream read, and the suspend (R11, R12,
R29 to R31, R53, R54, R59, R60). -/

namespace Sys2Proof.Machine

/-! ### A byte of the stream (R10 to R12, R31) -/

/-- R10, R12: the entry and physical address of a readable byte of the transaction `x`. -/
def readAt (s : State) (x : ReadTxn) (a : LogicalAddress) : Option (Nat × Nat) :=
  readable { x with nextAddress := a } s.tu.table s.store.slotMap

/-- R11, R12, R31: what a byte of the transaction `x` reads as, with the draw of a suspended range. -/
def streamByte (s : State) (x : ReadTxn) (a : LogicalAddress) (draw : Nat) : Byte :=
  ((readAt s x a).map fun ip => observedByte s.flash s.fp.op ip.2 draw).getD 0xFF

theorem readAt_some {s : State} {x : ReadTxn} {a : LogicalAddress} {f : Found} {p : Nat}
    (htr : translate x.table x.selector s.store.slotMap a = some (f, p))
    (hr : (s.tu.table.getD f.index .held).live.r = true) : readAt s x a = some (f.index, p) := by
  unfold readAt readable liveRights
  dsimp only
  rw [htr, Option.bind_some, if_pos hr]

theorem readAt_unreadable {s : State} {x : ReadTxn} {a : LogicalAddress} {f : Found} {p : Nat}
    (htr : translate x.table x.selector s.store.slotMap a = some (f, p))
    (hr : (s.tu.table.getD f.index .held).live.r = false) : readAt s x a = none := by
  unfold readAt readable liveRights
  dsimp only
  rw [htr, Option.bind_some, if_neg (by rw [hr]; simp)]

theorem readAt_unmapped {s : State} {x : ReadTxn} {a : LogicalAddress}
    (htr : translate x.table x.selector s.store.slotMap a = none) : readAt s x a = none := by
  unfold readAt readable
  dsimp only
  rw [htr, Option.bind_none]

/-- R10, R12: a byte is readable where it is mapped and its entry's live rights include R. -/
theorem readAt_isSome_iff {s : State} {x : ReadTxn} {a : LogicalAddress} {p : Nat} :
    (∃ i, readAt s x a = some (i, p)) ↔
      ∃ f, translate x.table x.selector s.store.slotMap a = some (f, p) ∧
        (s.tu.table.getD f.index .held).live.r = true := by
  refine ⟨fun ⟨i, h⟩ => ?_, fun ⟨f, htr, hr⟩ => ⟨_, readAt_some htr hr⟩⟩
  cases htr : translate x.table x.selector s.store.slotMap a with
  | none => cases (readAt_unmapped htr).symm.trans h
  | some fp =>
    obtain ⟨f, q⟩ := fp
    cases hr : (s.tu.table.getD f.index .held).live.r with
    | false => cases (readAt_unreadable htr hr).symm.trans h
    | true =>
      have heq := (readAt_some htr hr).symm.trans h
      cases heq
      exact ⟨f, rfl, hr⟩

theorem observedByte_awake {f : Flash} {o : FlightOp} (p draw : Nat) (h : o.phase ≠ .suspended) :
    observedByte f (some o) p draw = f.read p := by
  simp [observedByte, h]

/-- R10, R12: a byte of the stream with no suspended range is the transaction's byte. -/
theorem streamByte_awake {s : State} {x : ReadTxn} {a : LogicalAddress} (draw : Nat)
    (h : ∀ o, s.fp.op = some o → o.phase ≠ .suspended) : streamByte s x a draw = txnByte s x a := by
  have hobs : ∀ p, observedByte s.flash s.fp.op p draw = s.flash.read p := fun p => by
    cases ho : s.fp.op with
    | none => rfl
    | some o => exact observedByte_awake p draw (h o ho)
  unfold streamByte txnByte
  split
  · next htr => rw [readAt_unmapped htr]; rfl
  · next f p htr =>
    cases hr : (s.tu.table.getD f.index .held).live.r with
    | false => rw [readAt_unreadable htr hr]; rfl
    | true =>
      rw [readAt_some htr hr, if_pos rfl]
      exact hobs p

/-- R31, R51: a byte of the stream while `o` is in flight is one that the spec allows. -/
theorem streamByte_shown {s : State} {x : ReadTxn} {o : FlightOp} (a : LogicalAddress) (draw : Nat)
    (ho : s.fp.op = some o) : shownByte s x.table x.selector o a (streamByte s x a draw) := by
  unfold shownByte
  split
  · next htr => simp [streamByte, readAt_unmapped htr]
  · next f p htr =>
    dsimp only
    cases hr : (s.tu.table.getD f.index .held).live.r with
    | false => simp [streamByte, readAt_unreadable htr hr]
    | true =>
      have hbyte : streamByte s x a draw = observedByte s.flash (some o) p draw := by
        simp [streamByte, readAt_some htr hr, ho]
      rw [if_neg (by simp), hbyte]
      by_cases hin : o.phase = .suspended ∧ o.target ≤ p ∧ p < o.target + commandLength o.kind ∧ s.flash.present = true
      · obtain ⟨hsus, hlow, hhigh, hp⟩ := hin
        have hobs : observedByte s.flash (some o) p draw = suspendedByte s.flash o p draw := by
          simp [observedByte, hsus, inHand, hlow, hhigh, hp]
        rw [if_pos ⟨hsus, hlow, hhigh, hp⟩, hobs]
        split
        · next hk =>
          simp only [suspendedByte, finalByte, hk, BitVec.getLsbD_or, BitVec.getLsbD_and]
          exact ⟨fun i _ hi => by simp [hi], fun i _ hi => by simp [hi]⟩
        · next hk =>
          have hbits : suspendedByte s.flash o p draw = s.flash.read p ||| Config.suspendedBits draw := by
            unfold suspendedByte
            cases hkind : o.kind with
            | program => exact absurd hkind hk
            | sectorErase | blockErase | eraseSeries => rfl
          intro i _ hi
          rw [hbits, BitVec.getLsbD_or, hi, Bool.true_or]
      · rw [if_neg hin]
        unfold observedByte
        dsimp only
        split
        · next hc =>
          simp only [inHand, Bool.and_eq_true, decide_eq_true_eq] at hc
          exact absurd ⟨hc.1.1, hc.1.2.1, hc.1.2.2, hc.2⟩ hin
        · rfl

/-! ### What the bytes of a read move (R29, R30, R63) -/

/-- The items that the bytes of a read move: the data phase, the run, a chunk read and its preemptions, the draws. -/
def ServedOnly (s t : State) : Prop :=
  t = { s with
    bp := { s.bp with out := t.bp.out, readTxn := t.bp.readTxn }
    fp := { s.fp with run := t.fp.run, chunk := t.fp.chunk, chunkBuffer := t.fp.chunkBuffer, sent := t.fp.sent }
    isc := { s.isc with staging := { s.isc.staging with preemptions := t.isc.staging.preemptions } }
    draws := t.draws }

theorem ServedOnly.refl (s : State) : ServedOnly s s := rfl

theorem ServedOnly.trans {s t u : State} (h : ServedOnly s t) (h' : ServedOnly t u) : ServedOnly s u := by
  unfold ServedOnly at h h'
  rw [h] at h'
  exact h'

theorem ServedOnly.op {s t : State} (h : ServedOnly s t) : t.fp.op = s.fp.op := by
  unfold ServedOnly at h
  rw [h]

theorem ServedOnly.due {s t : State} (h : ServedOnly s t) : restartDue t = restartDue s := by
  unfold ServedOnly at h
  rw [h]
  rfl

theorem ServedOnly.readAt {s t : State} (h : ServedOnly s t) (x : ReadTxn) (a : LogicalAddress) :
    readAt t x a = readAt s x a := by
  unfold ServedOnly at h
  rw [h]
  rfl

theorem ServedOnly.streamByte {s t : State} (h : ServedOnly s t) (x : ReadTxn) (a : LogicalAddress) (draw : Nat) :
    streamByte t x a draw = streamByte s x a draw := by
  unfold ServedOnly at h
  rw [h]
  rfl

/-- R63: a chunk request that is not READING stays as it is. -/
def ChunkWaits (s : State) : Prop := ∀ c, s.fp.chunk = some c → c.reading = false

/-- R30: from `s`, with the transaction `x`, the bytes `bytes` have been supplied. -/
structure Serves (s : State) (x : ReadTxn) (t : State) (bytes : Bytes) : Prop where
  only : ServedOnly s t
  out : t.bp.out = s.bp.out ++ bytes
  txn : ∃ holds, t.bp.readTxn =
      some { x with nextAddress := x.nextAddress + BitVec.ofNat 24 bytes.length, holdsFlash := holds } ∧
    (x.holdsFlash = true → holds = true)
  shown : ∀ k, k < bytes.length → ∃ draw, bytes.getD k 0 = streamByte s x (x.nextAddress + BitVec.ofNat 24 k) draw
  sent : ∃ reads : List Nat, t.fp.sent = s.fp.sent ++ reads.map .read
  chunk : ChunkWaits s →
    t.fp.chunk = s.fp.chunk ∧ t.fp.chunkBuffer = s.fp.chunkBuffer ∧ t.isc.staging = s.isc.staging

theorem Serves.refl {s : State} {x : ReadTxn} (hx : s.bp.readTxn = some x) : Serves s x s [] :=
  ⟨.refl s, (List.append_nil _).symm, ⟨x.holdsFlash, by simpa using hx, id⟩,
    fun _ hk => absurd hk (Nat.not_lt_zero _), ⟨[], (List.append_nil _).symm⟩, fun _ => ⟨rfl, rfl, rfl⟩⟩

theorem ofNat24_add (a : LogicalAddress) (m k : Nat) :
    a + BitVec.ofNat 24 m + BitVec.ofNat 24 k = a + BitVec.ofNat 24 (m + k) := by
  rw [BitVec.add_assoc, BitVec.ofNat_add]

theorem Serves.trans {s t u : State} {x y : ReadTxn} {bs cs : Bytes} (h : Serves s x t bs) (hy : t.bp.readTxn = some y)
    (h' : Serves t y u cs) : Serves s x u (bs ++ cs) := by
  obtain ⟨holds, ht, hkeep⟩ := h.txn
  obtain rfl : y = { x with nextAddress := x.nextAddress + BitVec.ofNat 24 bs.length, holdsFlash := holds } :=
    Option.some.inj (hy.symm.trans ht)
  obtain ⟨holds', hu, hkeep'⟩ := h'.txn
  obtain ⟨reads, hs⟩ := h.sent
  obtain ⟨reads', hs'⟩ := h'.sent
  refine ⟨h.only.trans h'.only, by rw [h'.out, h.out, List.append_assoc],
    ⟨holds', ?_, fun hx => hkeep' (hkeep hx)⟩, fun k hk => ?_,
    ⟨reads ++ reads', by rw [hs', hs, List.map_append, List.append_assoc]⟩, fun hw => ?_⟩
  · rw [hu, List.length_append, ← ofNat24_add]
  · by_cases hlt : k < bs.length
    · obtain ⟨draw, hd⟩ := h.shown k hlt
      exact ⟨draw, by rw [← hd]; simp [List.getD_eq_getElem?_getD, List.getElem?_append_left hlt]⟩
    · obtain ⟨m, rfl⟩ := Nat.exists_eq_add_of_le (Nat.le_of_not_lt hlt)
      rw [List.length_append] at hk
      obtain ⟨draw, hd⟩ := h'.shown m (by omega)
      refine ⟨draw, ?_⟩
      rw [h.only.streamByte, ofNat24_add] at hd
      rw [show streamByte s x _ draw = _ from hd.symm]
      simp [List.getD_eq_getElem?_getD, List.getElem?_append_right]
  · obtain ⟨h1, h2, h3⟩ := h.chunk hw
    obtain ⟨h1', h2', h3'⟩ := h'.chunk (fun c hc => hw c (h1 ▸ hc))
    exact ⟨h1'.trans h1, h2'.trans h2, h3'.trans h3⟩

theorem preemptChunk_waits {s : State} (h : ChunkWaits s) : preemptChunk s = s := by
  unfold preemptChunk
  split
  · rfl
  · next c hc => simp [h c hc]

theorem preemptChunk_only (s : State) : ServedOnly s (preemptChunk s) := by
  unfold preemptChunk countPreemption
  split
  · rfl
  · split
    · dsimp only
      split <;> rfl
    · rfl

theorem preemptChunk_after (s : State) : ChunkWaits (preemptChunk s) := by
  intro c hc
  unfold preemptChunk at hc
  split at hc
  · next hn => cases hn.symm.trans hc
  · next d hd =>
    split at hc
    · cases hc
      rfl
    · next hr =>
      cases hd.symm.trans hc
      exact Bool.eq_false_iff.2 hr

/-- R53, R63: the state after the begin of a run at `p`. -/
def runBegun (p : Nat) (s : State) : State :=
  send [.read p]
    { preemptChunk s with
      fp.run := some p
      bp.readTxn := s.bp.readTxn.map fun t => { t with holdsFlash := true } }

theorem beginRun_eq {p : Nat} {reply : SuspendReply} {s : State} (h : restartDue (suspendOperation reply s) = false) :
    beginRun p reply s = runBegun p (suspendOperation reply s) := by
  unfold beginRun runBegun
  dsimp only
  rw [h, if_neg (by simp), (preemptChunk_frame _).1]

theorem suspendOperation_asleep {reply : SuspendReply} {s : State} (h : NotRunning s) : suspendOperation reply s = s := by
  unfold suspendOperation
  split
  · rfl
  · next o ho => rw [if_neg (h o ho)]

theorem beginRun_asleep (p : Nat) (reply : SuspendReply) {s : State} (h : NotRunning s) (hd : restartDue s = false) :
    beginRun p reply s = runBegun p s := by
  have hs := suspendOperation_asleep (reply := reply) h
  rw [beginRun_eq (by rw [hs, hd]), hs]

theorem runBegun_only (p : Nat) (s : State) : ServedOnly s (runBegun p s) := by
  have h := preemptChunk_only s
  refine h.trans ?_
  unfold runBegun send ServedOnly
  rfl

theorem runBegun_serves {p : Nat} {s : State} {x : ReadTxn} (hx : s.bp.readTxn = some x) : Serves s x (runBegun p s) [] := by
  refine ⟨runBegun_only p s, ?_, ⟨true, ?_, fun _ => rfl⟩, fun _ hk => absurd hk (Nat.not_lt_zero _), ⟨[p], ?_⟩,
    fun hw => ?_⟩
  · simp [runBegun, send]
  · simp [runBegun, send, hx]
  · simp [runBegun, send, preemptChunk_sent]
  · simp [runBegun, send, preemptChunk_waits hw]

theorem endRunIfDone_cases (i : Nat) (s : State) : endRunIfDone i s = s ∨ endRunIfDone i s = { s with fp.run := none } := by
  unfold endRunIfDone
  split
  · exact .inl rfl
  · dsimp only
    split
    · exact .inl rfl
    · exact .inr rfl

/-- R30: a driven byte of the stream, whatever it leaves of the run and the draws. -/
theorem driveByte_serves {s : State} {x : ReadTxn} {b : Byte} (run : Option Nat) (draws draw : Nat)
    (hx : s.bp.readTxn = some x) (hb : b = streamByte s x x.nextAddress draw) :
    Serves s x (driveByte b { s with fp.run := run, draws := draws }) [b] := by
  refine ⟨rfl, rfl, ⟨x.holdsFlash, ?_, id⟩, fun k hk => ⟨draw, ?_⟩, ⟨[], (List.append_nil _).symm⟩,
    fun _ => ⟨rfl, rfl, rfl⟩⟩
  · show s.bp.readTxn.map _ = _
    rw [hx]
    rfl
  · obtain rfl : k = 0 := by simpa using hk
    rw [BitVec.ofNat_eq_ofNat, BitVec.add_zero, ← hb]
    rfl

theorem Serves.run {s t : State} {x : ReadTxn} {bytes : Bytes} (run : Option Nat) (h : Serves s x t bytes) :
    Serves s x { t with fp.run := run } bytes := by
  obtain ⟨honly, hout, htxn, hshown, hsent, hchunk⟩ := h
  refine ⟨?_, hout, htxn, hshown, hsent, hchunk⟩
  unfold ServedOnly at honly ⊢
  rw [honly]

theorem readable_eq_readAt {s : State} {x : ReadTxn} : readable x s.tu.table s.store.slotMap = readAt s x x.nextAddress := rfl

/-- R11: the next byte of a stream while no command runs. -/
theorem supplyByte_serves (reply : SuspendReply) {s : State} {x : ReadTxn} (hx : s.bp.readTxn = some x)
    (hn : NotRunning s) (hd : restartDue s = false) : ∃ b, Serves s x (supplyByte reply s) [b] := by
  unfold supplyByte
  rw [hd, if_neg (by simp), hx]
  dsimp only
  rw [readable_eq_readAt]
  split
  · next hr => exact ⟨0xFF, driveByte_serves none s.draws 0 hx (by simp [streamByte, hr])⟩
  · next i p hr =>
    have hrun : ∃ u, (if s.fp.run = some p then s else beginRun p reply s) = u ∧ Serves s x u [] := by
      refine ⟨_, rfl, ?_⟩
      split
      · exact .refl hx
      · rw [beginRun_asleep p reply hn hd]
        exact runBegun_serves hx
    obtain ⟨u, hu, hserves⟩ := hrun
    rw [hu, hserves.only.due, hd, if_neg (by simp)]
    obtain ⟨holds, hy, -⟩ := hserves.txn
    have hbyte : observedByte u.flash u.fp.op p u.draws =
        streamByte u { x with nextAddress := x.nextAddress + BitVec.ofNat 24 0, holdsFlash := holds }
          (x.nextAddress + BitVec.ofNat 24 0) u.draws := by
      have hat : readAt u { x with nextAddress := x.nextAddress + BitVec.ofNat 24 0, holdsFlash := holds }
          (x.nextAddress + BitVec.ofNat 24 0) = some (i, p) := by
        rw [hserves.only.readAt, BitVec.add_zero]
        exact hr
      simp only [streamByte, hat, Option.map_some, Option.getD_some]
    have hdrive := driveByte_serves (some (p + 1)) (u.draws + 1) u.draws hy hbyte
    refine ⟨observedByte u.flash u.fp.op p u.draws, hserves.trans hy ?_⟩
    obtain he | he := endRunIfDone_cases i
      (driveByte (observedByte u.flash u.fp.op p u.draws) { u with fp.run := some (p + 1), draws := u.draws + 1 })
    · rw [he]
      exact hdrive
    · rw [he]
      exact hdrive.run none

/-- R30: the next `n` bytes of a stream while no command runs. -/
theorem supplyBytes_serves (reply : SuspendReply) (n : Nat) {s : State} {x : ReadTxn} (hx : s.bp.readTxn = some x)
    (hn : NotRunning s) (hd : restartDue s = false) :
    ∃ bytes : Bytes, bytes.length = n ∧ Serves s x (supplyBytes reply n s) bytes := by
  induction n generalizing s x with
  | zero => exact ⟨[], rfl, .refl hx⟩
  | succ n ih =>
    obtain ⟨b, hb⟩ := supplyByte_serves reply hx hn hd
    obtain ⟨holds, hy, -⟩ := hb.txn
    obtain ⟨bytes, hlen, hbytes⟩ := ih hy (hn.of_eq hb.only.op) (hb.only.due.trans hd)
    exact ⟨b :: bytes, by simp [hlen], hb.trans hy hbytes⟩

theorem startStream_serves (reply : SuspendReply) {s : State} {x : ReadTxn} (hx : s.bp.readTxn = some x)
    (hn : NotRunning s) (hd : restartDue s = false) :
    Serves s x (startStream reply s) [] ∧ (∀ i p, readAt s x x.nextAddress = some (i, p) → startStream reply s = runBegun p s) := by
  unfold startStream
  rw [hx, Option.bind_some, readable_eq_readAt]
  split
  · next hr => exact ⟨.refl hx, fun i p h => by cases hr.symm.trans h⟩
  · next i p hr =>
    rw [beginRun_asleep p reply hn hd]
    exact ⟨runBegun_serves hx, fun j q h => by cases hr.symm.trans h; rfl⟩

end Sys2Proof.Machine
end

section
/-! PROOFS. The three reads while no command runs (R29, R30, R63). -/

namespace Sys2Proof.Machine

/-! ### The clocks of a read (R25, R29) -/

theorem receivedBytes_length (mode : LaneMode) (clocks : List Clock) :
    (receivedBytes mode clocks).length = clocks.length / receiveClocks mode := by
  simp [receivedBytes, receiveClocks]

/-- R25: the bytes of the first clocks of a receive phase. -/
theorem receivedBytes_take (mode : LaneMode) (clocks : List Clock) (k : Nat) :
    receivedBytes mode (clocks.take (k * receiveClocks mode)) = (receivedBytes mode clocks).take k := by
  have hpos := receiveClocks_pos mode
  have hlen : (receivedBytes mode (clocks.take (k * receiveClocks mode))).length =
      ((receivedBytes mode clocks).take k).length := by
    rw [receivedBytes_length, List.length_take, List.length_take, receivedBytes_length, Nat.min_def, Nat.min_def]
    split
    · next h => rw [Nat.mul_div_cancel _ hpos, if_pos ((Nat.le_div_iff_mul_le hpos).2 h)]
    · next h =>
      have hlt : ¬ k ≤ clocks.length / receiveClocks mode := fun hk => h ((Nat.le_div_iff_mul_le hpos).1 hk)
      rw [if_neg hlt]
  refine List.ext_getElem hlen fun j hj hj' => ?_
  have hjk : j < k := by
    rw [List.length_take] at hj'
    omega
  have hwhole : receiveClocks mode ≤ k * receiveClocks mode - receiveClocks mode * j := by
    have hmul : receiveClocks mode * (j + 1) ≤ receiveClocks mode * k := Nat.mul_le_mul_left _ hjk
    rw [Nat.mul_succ] at hmul
    rw [Nat.mul_comm k]
    omega
  rw [List.getElem_take]
  simp only [receivedBytes, List.getElem_map, List.getElem_range]
  rw [show clocksPerByte (receiveLines mode) = receiveClocks mode from rfl, List.drop_take, List.take_take,
    Nat.min_eq_left hwhole]

theorem addressOf_take (sent : Bytes) {k : Nat} (h : 3 ≤ k) : addressOf (sent.take k) = addressOf sent := by
  unfold addressOf
  rw [List.take_take, Nat.min_eq_left h]

/-- R29: the transaction that a read opens. -/
def openedTxn (leading : Nat) (lines : Lines) (clocks : List Clock) (s : State) : ReadTxn :=
  ⟨s.tu.table, s.tu.selector, addressOf (receivedBytes s.bp.laneMode clocks),
    decide (3 ≤ (receivedBytes s.bp.laneMode clocks).length),
    decide (leading ≤ (receivedBytes s.bp.laneMode clocks).length), false, lines, 0⟩

/-- R29: the state in which a read's data phase begins. -/
def readOpened (leading : Nat) (lines : Lines) (clocks : List Clock) (s : State) : State :=
  { s with
    bp.out := []
    bp.outLines := lines
    bp.readTxn := some (openedTxn leading lines clocks s)
    fp.sent := [] }

theorem readCommand_free {s : State} {leading : Nat} (quad : Bool) (clocks : List Clock) (n : Nat) (reply : SuspendReply)
    (hl : 3 ≤ leading) (h : busFree s = true) :
    readCommand leading quad clocks n reply s =
      clockData reply (clocks.length - leading * clocksPerByte (receiveLines s.bp.laneMode) + n)
        (if 3 ≤ (receivedBytes s.bp.laneMode clocks).length then
          startStream reply (readOpened leading (dataOutLines s.bp.laneMode quad) clocks s)
        else readOpened leading (dataOutLines s.bp.laneMode quad) clocks s) := by
  have hreceived := receivedBytes_take s.bp.laneMode clocks leading
  have haddress := addressOf_take (receivedBytes s.bp.laneMode clocks) hl
  have hwhole : 3 ≤ ((receivedBytes s.bp.laneMode clocks).take leading).length ↔
      3 ≤ (receivedBytes s.bp.laneMode clocks).length := by rw [List.length_take]; omega
  have hdata : leading ≤ ((receivedBytes s.bp.laneMode clocks).take leading).length ↔
      leading ≤ (receivedBytes s.bp.laneMode clocks).length := by rw [List.length_take]; omega
  rw [show receiveClocks s.bp.laneMode = clocksPerByte (receiveLines s.bp.laneMode) from rfl] at hreceived
  rw [readCommand, transaction_free _ h]
  simp only [show (freshPort s).bp = s.bp from rfl, hreceived, haddress, hwhole, hdata, decide_eq_true_eq]
  rfl

/-! ### More clocks of a stream (R25, R30) -/

theorem Serves.clocked {s t : State} {x y : ReadTxn} {bytes : Bytes} (d : Nat) (h : Serves s x t bytes)
    (hy : t.bp.readTxn = some y) :
    Serves s { x with dataClocks := d } { t with bp.readTxn := some { y with dataClocks := d } } bytes := by
  obtain ⟨honly, hout, ⟨holds, ht, hkeep⟩, hshown, hsent, hchunk⟩ := h
  obtain rfl := Option.some.inj (hy.symm.trans ht)
  refine ⟨?_, hout, ⟨holds, rfl, hkeep⟩, hshown, hsent, hchunk⟩
  unfold ServedOnly at honly ⊢
  rw [honly]

theorem clockData_stream {s : State} {x : ReadTxn} (reply : SuspendReply) (n : Nat) (hx : s.bp.readTxn = some x)
    (hs : x.streaming = true) (hp : x.dataPhase = true) :
    clockData reply n s =
      supplyBytes reply (bytesBegun x.dataLines (x.dataClocks + n) - bytesBegun x.dataLines x.dataClocks)
        { s with bp.readTxn := some { x with dataClocks := x.dataClocks + n } } := by
  simp [clockData, hx, hs, hp]

theorem clockData_still {s : State} {x : ReadTxn} (reply : SuspendReply) (n : Nat) (hx : s.bp.readTxn = some x)
    (h : x.streaming = false ∨ x.dataPhase = false) : clockData reply n s = s := by
  obtain h | h := h <;> simp [clockData, hx, h]

theorem supplyBytes_due (reply : SuspendReply) (n : Nat) {s : State} (h : restartDue s = true) :
    supplyBytes reply n s = s := by
  induction n with
  | zero => rfl
  | succ n ih => rw [supplyBytes, supplyByte, if_pos h, ih]

/-- R30: more clocks of a stream while no command runs. -/
theorem clockData_serves (reply : SuspendReply) (n : Nat) {s t : State} {x y : ReadTxn} {bytes : Bytes}
    (h : Serves s x t bytes) (hy : t.bp.readTxn = some y) (hs : x.streaming = true) (hp : x.dataPhase = true)
    (hn : NotRunning t) (hd : restartDue t = false) :
    ∃ more : Bytes, more.length = bytesBegun x.dataLines (x.dataClocks + n) - bytesBegun x.dataLines x.dataClocks ∧
      Serves s { x with dataClocks := x.dataClocks + n } (clockData reply n t) (bytes ++ more) := by
  obtain ⟨holds, ht, -⟩ := h.txn
  obtain rfl := Option.some.inj (hy.symm.trans ht)
  rw [clockData_stream reply n hy hs hp]
  obtain ⟨more, hlen, hmore⟩ := supplyBytes_serves reply
    (bytesBegun x.dataLines (x.dataClocks + n) - bytesBegun x.dataLines x.dataClocks)
    (s := { t with bp.readTxn := some { x with
      nextAddress := x.nextAddress + BitVec.ofNat 24 bytes.length, holdsFlash := holds, dataClocks := x.dataClocks + n } })
    rfl hn hd
  exact ⟨more, hlen, (h.clocked (x.dataClocks + n) hy).trans rfl hmore⟩

/-- R25, R30: more clocks of a transaction while no command runs, in its data phase or before it. -/
theorem clockData_moves (reply : SuspendReply) (n : Nat) {s t : State} {x : ReadTxn} {bytes : Bytes}
    (h : Serves s x t bytes) (hn : NotRunning t) (hd : restartDue t = false) :
    ∃ more d, Serves s { x with dataClocks := d } (clockData reply n t) (bytes ++ more) ∧
      (x.streaming = true ∧ x.dataPhase = true →
        more.length = bytesBegun x.dataLines (x.dataClocks + n) - bytesBegun x.dataLines x.dataClocks) ∧
      (x.streaming = false ∨ x.dataPhase = false → more = []) := by
  obtain ⟨holds, ht, -⟩ := h.txn
  by_cases hs : x.streaming = true ∧ x.dataPhase = true
  · obtain ⟨more, hlen, hmore⟩ := clockData_serves reply n h ht hs.1 hs.2 hn hd
    exact ⟨more, _, hmore, fun _ => hlen, fun h => by simp [hs] at h⟩
  · have hstill : x.streaming = false ∨ x.dataPhase = false := by simpa [imp_iff_not_or] using hs
    rw [clockData_still reply n ht hstill]
    exact ⟨[], x.dataClocks, by rwa [List.append_nil], fun h => absurd h hs, fun _ => rfl⟩

/-- R67, log 6: once a restart is due a read opens its transaction and delivers nothing. -/
theorem clockData_due (reply : SuspendReply) (n : Nat) {s t : State} {x : ReadTxn} (h : Serves s x t [])
    (hd : restartDue t = true) : ∃ d, Serves s { x with dataClocks := d } (clockData reply n t) [] := by
  obtain ⟨holds, ht, -⟩ := h.txn
  by_cases hs : x.streaming = true ∧ x.dataPhase = true
  · rw [clockData_stream reply n ht hs.1 hs.2, supplyBytes_due _ _ (by exact hd)]
    exact ⟨_, h.clocked _ ht⟩
  · refine ⟨x.dataClocks, ?_⟩
    rw [clockData_still reply n ht (by simpa [imp_iff_not_or] using hs)]
    exact h

/-! ### A whole read (R29, R63) -/

theorem runBegun_preempts (p : Nat) (s : State) : chunkPreempted s (runBegun p s) ∧ ChunkWaits (runBegun p s) := by
  refine ⟨fun c hc hr => ?_, preemptChunk_after s⟩
  exact preemptChunk_preempts hc hr

theorem Serves.preempted {s t u : State} {x : ReadTxn} {bytes : Bytes} (h : Serves t x u bytes)
    (hp : chunkPreempted s t ∧ ChunkWaits t) : chunkPreempted s u := by
  obtain ⟨h1, h2, h3⟩ := h.chunk hp.2
  intro c hc hr
  obtain ⟨k1, k2, k3⟩ := hp.1 c hc hr
  exact ⟨h1.trans k1, h2.trans k2, h3 ▸ k3⟩

theorem restartDue_notRunning {s : State} (h : restartDue s = true) : NotRunning s := fun o ho => by
  rw [restartDue_op (by simp [ho])] at h
  cases h

theorem lookupFrom_region {table : List Region} {i start a : Nat} {f : Found}
    (h : lookupFrom i start a table = some f) : ∃ k, f.index = i + k ∧ table.getD k .held = f.region := by
  induction table generalizing i start with
  | nil => cases h
  | cons e rest ih =>
    by_cases ha : a < e.stop * 4096
    · rw [lookupFrom_below i start rest ha] at h
      cases h
      exact ⟨0, rfl, rfl⟩
    · rw [lookupFrom_above i start rest (Nat.le_of_not_lt ha)] at h
      obtain ⟨k, hk, hr⟩ := ih h
      exact ⟨k + 1, by omega, hr⟩

/-- R9: the entry found is that of its index. -/
theorem translate_region {table : List Region} {selector : Slot} {m : Option SlotMap} {a : LogicalAddress} {f : Found}
    {p : Nat} (h : translate table selector m a = some (f, p)) : table.getD f.index .held = f.region := by
  obtain ⟨g, hg, hp⟩ := Option.bind_eq_some_iff.1 h
  obtain ⟨q, -, hq⟩ := Option.map_eq_some_iff.1 hp
  cases hq
  obtain ⟨k, hk, hr⟩ := lookupFrom_region hg
  rw [hk, Nat.zero_add, hr]

/-- R10 to R12: a byte of a transaction that begins now. -/
theorem txnByte_live {s : State} {x : ReadTxn} (a : LogicalAddress) (ht : x.table = s.tu.table)
    (hs : x.selector = s.tu.selector) : txnByte s x a = logicalByte s a := by
  unfold txnByte logicalByte
  rw [ht, hs]
  cases htr : translate s.tu.table s.tu.selector s.store.slotMap a with
  | none => rfl
  | some fp =>
    dsimp only
    rw [translate_region htr]

theorem readCommand_serves {s : State} {leading : Nat} (quad : Bool) (clocks : List Clock) (n : Nat) (reply : SuspendReply)
    (hl : 3 ≤ leading) (hfree : busFree s = true) (hn : NotRunning s) :
    ∃ bytes d, Serves (readOpened leading (dataOutLines s.bp.laneMode quad) clocks s)
        { openedTxn leading (dataOutLines s.bp.laneMode quad) clocks s with dataClocks := d }
        (readCommand leading quad clocks n reply s) bytes ∧
      (leading ≤ (receivedBytes s.bp.laneMode clocks).length → restartDue s = false →
        bytes.length = bytesBegun (dataOutLines s.bp.laneMode quad)
          (clocks.length - leading * clocksPerByte (receiveLines s.bp.laneMode) + n)) ∧
      ((receivedBytes s.bp.laneMode clocks).length < leading ∨ restartDue s = true → bytes = []) ∧
      ∀ i p, 3 ≤ (receivedBytes s.bp.laneMode clocks).length → restartDue s = false →
        readAt s (openedTxn leading (dataOutLines s.bp.laneMode quad) clocks s)
          (addressOf (receivedBytes s.bp.laneMode clocks)) = some (i, p) →
        chunkPreempted s (readCommand leading quad clocks n reply s) := by
  rw [readCommand_free quad clocks n reply hl hfree]
  generalize hlines : dataOutLines s.bp.laneMode quad = lines
  generalize clocks.length - leading * clocksPerByte (receiveLines s.bp.laneMode) + n = clocked
  have hx : (readOpened leading lines clocks s).bp.readTxn = some (openedTxn leading lines clocks s) := rfl
  have hn' : NotRunning (readOpened leading lines clocks s) := hn
  have hdue : restartDue (readOpened leading lines clocks s) = restartDue s := rfl
  cases hd : restartDue s with
  | true =>
    have hstart : Serves (readOpened leading lines clocks s) (openedTxn leading lines clocks s)
        (if 3 ≤ (receivedBytes s.bp.laneMode clocks).length then startStream reply (readOpened leading lines clocks s)
        else readOpened leading lines clocks s) [] := by
      have hsame : startStream reply (readOpened leading lines clocks s) = readOpened leading lines clocks s := by
        unfold startStream
        split
        · rfl
        · unfold beginRun
          rw [suspendOperation_asleep hn']
          exact if_pos (hdue.trans hd)
      rw [hsame, ite_self]
      exact .refl hx
    obtain ⟨d, h⟩ := clockData_due reply clocked hstart (hstart.only.due.trans (hdue.trans hd))
    exact ⟨[], d, h, fun _ h => absurd h (by simp), fun _ => rfl, fun i p _ h => absurd h (by simp)⟩
  | false =>
    obtain ⟨hserves, hrun⟩ := startStream_serves reply hx hn' (hdue.trans hd)
    have hstart : Serves (readOpened leading lines clocks s) (openedTxn leading lines clocks s)
        (if 3 ≤ (receivedBytes s.bp.laneMode clocks).length then startStream reply (readOpened leading lines clocks s)
        else readOpened leading lines clocks s) [] := by
      split
      · exact hserves
      · exact .refl hx
    have hon : NotRunning (if 3 ≤ (receivedBytes s.bp.laneMode clocks).length then
        startStream reply (readOpened leading lines clocks s) else readOpened leading lines clocks s) :=
      hn'.of_eq hstart.only.op
    obtain ⟨more, d, hmore, hlen, hempty⟩ := clockData_moves reply clocked hstart hon
      (hstart.only.due.trans (hdue.trans hd))
    refine ⟨more, d, hmore, fun hwhole _ => ?_, fun hshort => hempty (.inr ?_), fun i p hwhole _ hat => ?_⟩
    · rw [hlen ⟨decide_eq_true (by omega), decide_eq_true hwhole⟩]
      show bytesBegun lines (0 + clocked) - bytesBegun lines 0 = _
      rw [bytesBegun_zero, Nat.zero_add, Nat.sub_zero]
    · exact decide_eq_false (Nat.not_le.2 (hshort.resolve_right (by simp)))
    · rw [if_pos hwhole, hrun i p hat]
      have hbegun : Serves (readOpened leading lines clocks s) (openedTxn leading lines clocks s)
          (runBegun p (readOpened leading lines clocks s)) [] := runBegun_serves hx
      obtain ⟨holds, hy, -⟩ := hbegun.txn
      obtain ⟨_, _, hu, -, -⟩ := clockData_moves reply clocked (.refl hy) (hn'.of_eq hbegun.only.op)
        (hbegun.only.due.trans (hdue.trans hd))
      exact hu.preempted (runBegun_preempts p (readOpened leading lines clocks s))

/-- R29, R30: the bytes of a stream while no operation is in flight. -/
theorem Serves.bytes_eq {s t : State} {x : ReadTxn} {bytes : Bytes} (h : Serves s x t bytes)
    (ho : ∀ o, s.fp.op = some o → o.phase ≠ .suspended) :
    bytes = (List.range bytes.length).map fun k => txnByte s x (x.nextAddress + BitVec.ofNat 24 k) := by
  refine List.ext_getElem (by simp) fun k hk hk' => ?_
  obtain ⟨draw, hb⟩ := h.shown k hk
  rw [List.getD_eq_getElem _ _ hk, streamByte_awake draw ho] at hb
  simp [hb]

end Sys2Proof.Machine

namespace Sys2Proof.Reads

open Sys2Proof Sys2Proof.Machine

/-- Settles O26: the stream of a read, byte by byte, while no operation is in flight. -/
theorem readsDeliverLogicalBytes : Obligations.ReadsDeliverLogicalBytes := by
  intro s clocks n reply hfree hop mode perByte sent data served
  have hn : NotRunning s := fun o ho => by cases hop.symm.trans ho
  have hread : ∀ leading quad, 3 ≤ leading → ∃ bytes,
      served (readCommand leading quad clocks n reply s) bytes (dataOutLines mode quad) ∧
      (leading ≤ sent.length → restartDue s = false → bytes = data leading (dataOutLines mode quad)) ∧
      (sent.length < leading ∨ restartDue s = true → bytes = []) := by
    intro leading quad hl
    obtain ⟨bytes, d, hserves, hlen, hempty, hpre⟩ := readCommand_serves quad clocks n reply hl hfree hn
    refine ⟨bytes, ⟨?_, ?_, fun f p hwhole hdue htr hr => ?_, fun hw => ?_⟩, fun hwhole hdue => ?_, hempty⟩
    · have hout : (readCommand leading quad clocks n reply s).bp.out = bytes := hserves.out
      have honly := hserves.only
      unfold ServedOnly at honly
      rw [hout] at honly
      exact honly
    · obtain ⟨_, ht, -⟩ := hserves.txn
      rw [ht]
      rfl
    · exact hpre _ p hwhole hdue (readAt_some htr (by rw [translate_region htr, hr]))
    · obtain ⟨hchunk, -, hstaging⟩ := hserves.chunk hw
      exact ⟨hchunk, hstaging⟩
    · have hlogical := hserves.bytes_eq (fun o ho => by cases hop.symm.trans ho)
      rw [hlen hwhole hdue] at hlogical
      rw [hlogical]
      refine List.map_congr_left fun k _ => ?_
      exact txnByte_live (s := s) (x := openedTxn leading (dataOutLines mode quad) clocks s) _ rfl rfl
  have hwhole : ∀ leading quad, 3 ≤ leading → leading ≤ sent.length → restartDue s = false →
      served (readCommand leading quad clocks n reply s) (data leading (dataOutLines mode quad)) (dataOutLines mode quad) := by
    intro leading quad hl hlen hdue
    obtain ⟨bytes, hserved, hbytes, -⟩ := hread leading quad hl
    rwa [hbytes hlen hdue] at hserved
  have hnone : ∀ leading quad, 3 ≤ leading → sent.length < leading ∨ restartDue s = true →
      served (readCommand leading quad clocks n reply s) [] (dataOutLines mode quad) := by
    intro leading quad hl h
    obtain ⟨bytes, hserved, -, hbytes⟩ := hread leading quad hl
    rwa [hbytes h] at hserved
  refine ⟨fun hdue => ⟨fun hlen => ⟨_, rfl, hwhole 3 false (Nat.le_refl 3) hlen hdue⟩, fun hlen =>
    ⟨⟨_, rfl, hwhole 4 false (by decide) hlen hdue⟩, ⟨_, rfl, hwhole 4 true (by decide) hlen hdue⟩⟩⟩,
    fun h => ⟨_, rfl, hnone 3 false (Nat.le_refl 3) h⟩, fun h =>
    ⟨⟨_, rfl, hnone 4 false (by decide) h⟩, ⟨_, rfl, hnone 4 true (by decide) h⟩⟩⟩

end Sys2Proof.Reads
end

section
/-! PROOFS. A read that meets a RUNNING operation, and the end of a read (R53, R57, R59, R60, R203). -/

namespace Sys2Proof.Machine

/-! ### The suspend and its status pairs (R59, R203) -/

theorem pairShows_undecided {q : StatusPair} (h : q.suspended.getLsbD 7 = false ∧ q.busy.getLsbD 0 = true) :
    pairShows q = none := by
  rw [pairShows, h.1, h.2]
  rfl

theorem pairShows_decides {q : StatusPair} (h : q.suspended.getLsbD 7 = true ∨ q.busy.getLsbD 0 = false) :
    pairShows q = some (!q.suspended.getLsbD 7) := by
  unfold pairShows
  cases hs : q.suspended.getLsbD 7 with
  | true => rfl
  | false =>
    rw [h.resolve_left (by rw [hs]; exact Bool.false_ne_true)]
    rfl

section Answer

variable {undecided : SuspendReply} {last : StatusPair}
  (hu : ∀ q ∈ undecided, q.suspended.getLsbD 7 = false ∧ q.busy.getLsbD 0 = true)
  (hl : last.suspended.getLsbD 7 = true ∨ last.busy.getLsbD 0 = false)
include hu hl

theorem suspendReads_answer : .suspend :: suspendReads (undecided ++ [last]) = suspendCommands undecided last := by
  unfold suspendCommands
  refine congrArg _ ?_
  induction undecided with
  | nil => simp [suspendReads, pairShows_decides hl]
  | cons q rest ih =>
    obtain ⟨hq, hrest⟩ := List.forall_mem_cons.1 hu
    simp [suspendReads, pairShows_undecided hq, ih hrest]

theorem suspendFindsEnded_answer : suspendFindsEnded (undecided ++ [last]) = !last.suspended.getLsbD 7 := by
  induction undecided with
  | nil => simp [suspendFindsEnded, pairShows_decides hl]
  | cons q rest ih =>
    obtain ⟨hq, hrest⟩ := List.forall_mem_cons.1 hu
    simp [suspendFindsEnded, pairShows_undecided hq, ih hrest]

end Answer

/-- R59: the state in which a run begins over a suspended operation. -/
def suspendedFor (asked : List FpCommand) (o : FlightOp) (s : State) : State :=
  { s with fp.sent := s.fp.sent ++ asked, fp.op := some { o with phase := .suspended } }

/-- R57, R59: the state in which a run begins where the suspend finds a step of a series ended. -/
def steppedFor (asked : List FpCommand) (o : FlightOp) (s : State) : State :=
  { s with
    flash := s.flash.finish o
    fp.sent := s.fp.sent ++ asked
    fp.op := some { o with index := o.index + 1, phase := .queued } }

/-- R57, R59: the state in which a run begins where the suspend finds the operation complete. -/
def completedFor (asked : List FpCommand) (o : FlightOp) (s : State) : State :=
  { s with
    flash := s.flash.finish o
    fp.sent := s.fp.sent ++ asked
    fp.op := none
    bp.writeRecord := .none }

section Suspend

variable {s : State} {o : FlightOp} {reply undecided : SuspendReply} {last : StatusPair} (ho : s.fp.op = some o)
  (hr : o.phase = .running) (ha : suspendAnswer s reply undecided last)
include ho hr ha

theorem suspendOperation_running :
    suspendOperation reply s =
      if last.suspended.getLsbD 7 then
        { s with
          fp.sent := s.fp.sent ++ suspendCommands undecided last
          fp.op := some { o with phase := .suspended } }
      else endCommand o { s with fp.sent := s.fp.sent ++ suspendCommands undecided last } := by
  obtain ⟨hpairs, hu, hl⟩ := ha
  have hanswered : answeredPairs s reply = undecided ++ [last] := hpairs
  unfold suspendOperation
  rw [ho]
  dsimp only
  rw [if_pos hr, hanswered, suspendReads_answer hu hl, suspendFindsEnded_answer hu hl]
  cases last.suspended.getLsbD 7 <;> rfl

theorem suspendOperation_suspends (hs : last.suspended.getLsbD 7 = true) :
    suspendOperation reply s = suspendedFor (suspendCommands undecided last) o s := by
  rw [suspendOperation_running ho hr ha, hs, if_pos rfl]
  rfl

theorem suspendOperation_series (he : last.suspended.getLsbD 7 = false) (hk : o.kind = .eraseSeries) (hi : o.index < 15) :
    suspendOperation reply s = steppedFor (suspendCommands undecided last) o s := by
  rw [suspendOperation_running ho hr ha, he, if_neg (by simp), endCommand_series _ hk hi]
  rfl

theorem suspendOperation_completes (he : last.suspended.getLsbD 7 = false) (hf : o.kind ≠ .eraseSeries ∨ 15 ≤ o.index) :
    suspendOperation reply s = completedFor (suspendCommands undecided last) o s := by
  rw [suspendOperation_running ho hr ha, he, if_neg (by simp), endCommand_complete _ hf]
  rfl

end Suspend

/-- R59: a suspend leaves no command running. -/
theorem suspendOperation_notRunning (reply : SuspendReply) (s : State) : NotRunning (suspendOperation reply s) := by
  unfold suspendOperation
  split
  · next hn => exact fun o ho => by cases hn.symm.trans ho
  · next o ho =>
    split
    · dsimp only
      split
      · exact endCommand_notRunning o _
      · intro q hq
        cases hq
        simp
    · next hp =>
      intro q hq
      cases ho.symm.trans hq
      exact hp

/-! ### Bytes before the first readable one (R11) -/

/-- R11, R30: the state after `j` unreadable bytes of the transaction `x`. -/
def skipped (j : Nat) (x : ReadTxn) (s : State) : State :=
  { s with
    bp.out := s.bp.out ++ List.replicate j 0xFF
    bp.readTxn := some { x with nextAddress := x.nextAddress + BitVec.ofNat 24 j }
    fp.run := if j = 0 then s.fp.run else none }

theorem supplyByte_unreadable (reply : SuspendReply) {s : State} {x : ReadTxn} (hx : s.bp.readTxn = some x)
    (hd : restartDue s = false) (hr : readAt s x x.nextAddress = none) :
    supplyByte reply s = driveByte 0xFF { s with fp.run := none } := by
  unfold supplyByte
  rw [hd, if_neg (by simp), hx]
  dsimp only
  rw [readable_eq_readAt, hr]

theorem supplyBytes_add (reply : SuspendReply) (a b : Nat) (s : State) :
    supplyBytes reply (a + b) s = supplyBytes reply b (supplyBytes reply a s) := by
  induction a generalizing s with
  | zero => rw [Nat.zero_add, supplyBytes]
  | succ a ih => rw [Nat.succ_add, supplyBytes, supplyBytes, ih]

theorem supplyBytes_unreadable (reply : SuspendReply) (j : Nat) {s : State} {x : ReadTxn} (hx : s.bp.readTxn = some x)
    (hd : restartDue s = false) (hr : ∀ k, k < j → readAt s x (x.nextAddress + BitVec.ofNat 24 k) = none) :
    supplyBytes reply j s = skipped j x s := by
  induction j with
  | zero =>
    unfold skipped supplyBytes
    simp only [List.replicate_zero, List.append_nil, BitVec.add_zero, if_true]
    rw [← hx]
  | succ j ih =>
    have hnext : readAt (skipped j x s) { x with nextAddress := x.nextAddress + BitVec.ofNat 24 j }
        (x.nextAddress + BitVec.ofNat 24 j) = none := hr j (Nat.lt_succ_self j)
    rw [supplyBytes_add, ih fun k hk => hr k (Nat.lt_succ_of_lt hk)]
    show supplyByte reply (skipped j x s) = _
    rw [supplyByte_unreadable reply (s := skipped j x s) rfl hd hnext]
    unfold driveByte skipped
    have hrep : List.replicate (j + 1) (0xFF : Byte) = List.replicate j 0xFF ++ [0xFF] := List.replicate_succ'
    have hadd : x.nextAddress + BitVec.ofNat 24 (j + 1) = x.nextAddress + BitVec.ofNat 24 j + 1 := by
      rw [← ofNat24_add]
      rfl
    simp only [hrep, hadd, List.append_assoc, Option.map_some, Nat.succ_ne_zero, if_false]

/-! ### The first readable byte of a RUNNING operation (R53, R59) -/

theorem runBegun_txn {p : Nat} {s : State} {x : ReadTxn} (hx : s.bp.readTxn = some x) :
    (runBegun p s).bp.readTxn = some { x with holdsFlash := true } := by
  simp [runBegun, send, hx]

/-- R53: a readable byte outside the run in progress begins a run, and is then supplied from it. -/
theorem supplyBytes_begins (reply : SuspendReply) (m : Nat) {s : State} {x : ReadTxn} {i p : Nat}
    (hx : s.bp.readTxn = some x) (hd : restartDue s = false) (hat : readAt s x x.nextAddress = some (i, p))
    (hrun : s.fp.run ≠ some p) :
    supplyBytes reply (m + 1) s = supplyBytes reply (m + 1) (beginRun p reply s) := by
  have hbyte : supplyByte reply s = supplyByte reply (beginRun p reply s) := by
    conv_lhs => unfold supplyByte
    rw [hd, if_neg (by simp), hx]
    dsimp only
    rw [readable_eq_readAt, hat]
    dsimp only
    rw [if_neg hrun]
    cases hdue : restartDue (beginRun p reply s) with
    | true =>
      rw [if_pos rfl]
      unfold supplyByte
      rw [if_pos hdue]
    | false =>
      have hdue' : restartDue (suspendOperation reply s) = false := by
        by_contra hc
        rw [Bool.not_eq_false] at hc
        unfold beginRun at hdue
        simp only [hc, if_true] at hdue
        cases hdue
      have hbegun := beginRun_eq (p := p) hdue'
      have hx' : (suspendOperation reply s).bp.readTxn = some x := by simpa using hx
      have hread : readable { x with holdsFlash := true } (beginRun p reply s).tu.table (beginRun p reply s).store.slotMap =
          some (i, p) := by
        rw [(beginRun_frame p reply s).2.2.2.2.1, (beginRun_frame p reply s).2.2.2.2.2.2.2.2.2.2.2.2.1]
        exact hat
      have htxn : (beginRun p reply s).bp.readTxn = some { x with holdsFlash := true } := by
        rw [hbegun]
        exact runBegun_txn hx'
      have hp : (beginRun p reply s).fp.run = some p := by
        rw [hbegun]
        rfl
      conv_rhs => unfold supplyByte
      rw [hdue, if_neg (by simp), if_neg (by simp), htxn]
      dsimp only
      rw [hread]
      dsimp only
      rw [if_pos hp, hdue, if_neg (by simp)]
  rw [supplyBytes, hbyte]
  rfl

/-! ### The end of a read (R60) -/

theorem endRead_loose {s : State} {x : ReadTxn} (hx : s.bp.readTxn = some x) (hh : x.holdsFlash = false) :
    endRead s = { s with bp.readTxn := none, bp.resetEnable := false, fp.run := none } := by
  simp [endRead, hx, hh]

theorem endRead_holding {s : State} {x : ReadTxn} (hx : s.bp.readTxn = some x) (hh : x.holdsFlash = true) :
    endRead s = settle (resumeOperation { s with bp.readTxn := none, bp.resetEnable := false, fp.run := none }) := by
  simp [endRead, hx, hh]

theorem endRead_none {s : State} (hx : s.bp.readTxn = none) : endRead s = s := by
  simp [endRead, hx]

theorem settle_run (s : State) : (settle s).fp.run = s.fp.run := by
  have hop : (startOperation s).fp.run = s.fp.run := by
    unfold startOperation preemptChunk
    (repeat' split) <;> rfl
  have habs : ∀ u, (startAbsorption u).fp.run = u.fp.run := fun u => by
    unfold startAbsorption chunkTaken requestSegmentChunk placeChunkRequest
    (repeat' split) <;> rfl
  have hsig : ∀ u, (startSignature u).fp = u.fp := fun u => by simp
  have hchunk : ∀ u, (startChunkRead u).fp.run = u.fp.run := fun u => by
    unfold startChunkRead
    (repeat' split) <;> rfl
  unfold settle
  split
  · rfl
  · rw [hchunk, hsig, habs, hop]

theorem resumeOperation_run (s : State) : (resumeOperation s).fp.run = s.fp.run := by
  unfold resumeOperation
  (repeat' split) <;> rfl

theorem resumeOperation_sent (s : State) : s.fp.sent <+: (resumeOperation s).fp.sent := by
  unfold resumeOperation
  split
  · exact List.prefix_rfl
  · split
    · exact List.prefix_append ..
    · exact List.prefix_rfl

/-- What the end of a read leaves, whatever is in flight. -/
structure ReadEnded (s t : State) : Prop where
  bp : t.bp = { s.bp with readTxn := none, resetEnable := false }
  run : t.fp.run = none
  sent : s.fp.sent <+: t.fp.sent
  flash : t.flash = s.flash
  store : t.store = s.store
  tu : t.tu = s.tu
  mc : t.mc = s.mc
  lanes : t.lanes = s.lanes

theorem endRead_ended {s : State} {x : ReadTxn} (hx : s.bp.readTxn = some x) : ReadEnded s (endRead s) := by
  cases hh : x.holdsFlash with
  | false =>
    rw [endRead_loose hx hh]
    exact ⟨rfl, rfl, List.prefix_rfl, rfl, rfl, rfl, rfl, rfl⟩
  | true =>
    rw [endRead_holding hx hh]
    refine ⟨by simp, ?_, ?_, by simp, by simp, by simp, by simp, by simp⟩
    · rw [settle_run, resumeOperation_run]
    · exact (resumeOperation_sent { s with bp.readTxn := none, bp.resetEnable := false, fp.run := none }).trans
        (settle_sent _)

section EndRead

variable {s : State} {x : ReadTxn} (hx : s.bp.readTxn = some x) (hh : x.holdsFlash = true)
include hx hh

/-- R60: the end of a read resumes a suspended operation. -/
theorem endRead_resumes {o : FlightOp} (ho : s.fp.op = some o) (hp : o.phase = .suspended) :
    (endRead s).fp.op = some { o with phase := .running } ∧ [FpCommand.resume] <:+ (endRead s).fp.sent := by
  have hres : resumeOperation { s with bp.readTxn := none, bp.resetEnable := false, fp.run := none } =
      send [.resume] { s with
        bp.readTxn := none, bp.resetEnable := false, fp.run := none, fp.op := some { o with phase := .running } } := by
    simp [resumeOperation, ho, hp]
  have hsig : ∀ u, (startSignature u).fp = u.fp := fun u => by simp
  rw [endRead_holding hx hh, hres, settle_inFlight (o := { o with phase := .running }) rfl, hsig,
    startOperation_busy (o := { o with phase := .running }) rfl (by simp)]
  refine ⟨by simp [send], ?_⟩
  rw [startAbsorption_sent]
  exact List.suffix_append ..

/-- R56: the end of a read starts a queued operation. -/
theorem endRead_starts {o : FlightOp} (ho : s.fp.op = some o) (hp : o.phase = .queued) :
    (endRead s).fp.op = some { o with phase := .running, runningTime := 0 } ∧
      operationCommands o <:+ (endRead s).fp.sent := by
  have hres : resumeOperation { s with bp.readTxn := none, bp.resetEnable := false, fp.run := none } =
      { s with bp.readTxn := none, bp.resetEnable := false, fp.run := none } := by
    simp [resumeOperation, ho, hp]
  have ho' : ({ s with bp.readTxn := none, bp.resetEnable := false, fp.run := none } : State).fp.op = some o := ho
  have hfree : flashHeld { s with bp.readTxn := none, bp.resetEnable := false, fp.run := none } = false := rfl
  rw [endRead_holding hx hh, hres]
  refine ⟨?_, ?_⟩
  · rw [settle_queuedOp ho' hp, hfree]
    rfl
  · rw [settle_startedSent ho' hp hfree]
    exact List.suffix_append ..

/-- R60: with no operation in flight none is resumed. -/
theorem endRead_idle (ho : s.fp.op = none) :
    (endRead s).fp.op = none ∧ (FpCommand.resume ∉ s.fp.sent → FpCommand.resume ∉ (endRead s).fp.sent) := by
  have hres : resumeOperation { s with bp.readTxn := none, bp.resetEnable := false, fp.run := none } =
      { s with bp.readTxn := none, bp.resetEnable := false, fp.run := none } := by
    simp [resumeOperation, ho]
  have hsig : ∀ u, (startSignature u).fp = u.fp := fun u => by simp
  rw [endRead_holding hx hh, hres]
  refine ⟨settle_idleOp ho, fun hno => ?_⟩
  unfold settle
  split
  · exact hno
  · rw [startOperation_none (by exact ho)]
    unfold startChunkRead
    split
    · rw [hsig, startAbsorption_sent]
      exact hno
    · split
      · show FpCommand.resume ∉ (startSignature _).fp.sent ++ _
        rw [hsig, startAbsorption_sent]
        simpa using hno
      · rw [hsig, startAbsorption_sent]
        exact hno

end EndRead

end Sys2Proof.Machine
end

section
/-! PROOFS. What a read delivers from its first readable byte on, and its end, over an operation in flight (R53, R59,
R60, R67). -/

namespace Sys2Proof.Machine

/-! ### From the first readable byte on (R53, R59) -/

theorem clockData_meets {s : State} {x : ReadTxn} {o : FlightOp} {j i p : Nat} (reply : SuspendReply) (n : Nat)
    (hx : s.bp.readTxn = some x) (hs : x.streaming = true) (hp : x.dataPhase = true) (ho : s.fp.op = some o)
    (hj : j < bytesBegun x.dataLines (x.dataClocks + n) - bytesBegun x.dataLines x.dataClocks)
    (hskip : ∀ k, k < j → readAt s x (x.nextAddress + BitVec.ofNat 24 k) = none)
    (hat : readAt s x (x.nextAddress + BitVec.ofNat 24 j) = some (i, p)) (hrun : j = 0 → s.fp.run ≠ some p) :
    clockData reply n s =
      supplyBytes reply (bytesBegun x.dataLines (x.dataClocks + n) - bytesBegun x.dataLines x.dataClocks - j)
        (beginRun p reply (skipped j { x with dataClocks := x.dataClocks + n } s)) := by
  obtain ⟨m, hm⟩ := Nat.exists_eq_add_of_lt hj
  have hcount : bytesBegun x.dataLines (x.dataClocks + n) - bytesBegun x.dataLines x.dataClocks - j = m + 1 := by omega
  have hdue : ∀ u : State, u.fp.op = some o → restartDue u = false := fun u hu => restartDue_op (by simp [hu])
  have hlast : (skipped j { x with dataClocks := x.dataClocks + n } s).fp.run ≠ some p := by
    show (if j = 0 then s.fp.run else none) ≠ some p
    split
    · next h0 => exact hrun h0
    · exact nofun
  have hskipped : supplyBytes reply j { s with bp.readTxn := some { x with dataClocks := x.dataClocks + n } } =
      skipped j { x with dataClocks := x.dataClocks + n } s :=
    supplyBytes_unreadable reply j
      (s := { s with bp.readTxn := some { x with dataClocks := x.dataClocks + n } }) rfl (hdue _ ho) hskip
  rw [clockData_stream reply n hx hs hp, hcount, hm, Nat.add_assoc, supplyBytes_add, hskipped]
  exact supplyBytes_begins reply m (x := { x with
    dataClocks := x.dataClocks + n, nextAddress := x.nextAddress + BitVec.ofNat 24 j }) rfl (hdue _ ho) hat hlast

/-- The state `t` of a read whose run began at `p` in the state `w`, where no command runs: the bytes `bytes` of the
transaction `x` follow the bytes `before`, and it holds the flash. -/
structure Delivers (w : State) (x : ReadTxn) (p : Nat) (t : State) (before bytes : Bytes) : Prop where
  out : t.bp.out = before ++ bytes
  shown : ∀ k, k < bytes.length → ∃ draw, bytes.getD k 0 = streamByte w x (x.nextAddress + BitVec.ofNat 24 k) draw
  sent : w.fp.sent ++ [.read p] <+: t.fp.sent
  op : t.fp.op = w.fp.op
  flash : t.flash = w.flash
  writeRecord : t.bp.writeRecord = w.bp.writeRecord
  due : restartDue t = false
  txn : ∃ y, t.bp.readTxn = some y ∧ y.holdsFlash = true

theorem ServedOnly.flash {s t : State} (h : ServedOnly s t) : t.flash = s.flash := by
  unfold ServedOnly at h
  rw [h]

theorem ServedOnly.writeRecord {s t : State} (h : ServedOnly s t) : t.bp.writeRecord = s.bp.writeRecord := by
  unfold ServedOnly at h
  rw [h]

theorem ServedOnly.blocks {s t : State} (h : ServedOnly s t) :
    t.store = s.store ∧ t.tu = s.tu ∧ t.mc = s.mc ∧ t.lanes = s.lanes ∧ t.bp.wel = s.bp.wel := by
  unfold ServedOnly at h
  rw [h]
  exact ⟨rfl, rfl, rfl, rfl, rfl⟩

theorem runBegun_sent (p : Nat) (s : State) : (runBegun p s).fp.sent = s.fp.sent ++ [.read p] := by
  simp [runBegun, send, preemptChunk_sent]

/-- R11, R53: unreadable bytes, then the bytes of a run that began after them. -/
theorem delivers_after {w t : State} {x y : ReadTxn} {j p : Nat} {before bytes : Bytes}
    (hout : w.bp.out = before ++ List.replicate j 0xFF)
    (hskip : ∀ k, k < j → readAt w x (x.nextAddress + BitVec.ofNat 24 k) = none)
    (hy : ∀ a draw, streamByte w y a draw = streamByte w x a draw)
    (hnext : y.nextAddress = x.nextAddress + BitVec.ofNat 24 j) (hholds : y.holdsFlash = true)
    (hdue : restartDue w = false) (h : Serves (runBegun p w) y t bytes) :
    Delivers w x p t before (List.replicate j 0xFF ++ bytes) := by
  have hbegun := runBegun_only p w
  have honly := hbegun.trans h.only
  obtain ⟨reads, hreads⟩ := h.sent
  obtain ⟨holds, htxn, hkeep⟩ := h.txn
  refine ⟨?_, fun k hk => ?_, ?_, honly.op, honly.flash, honly.writeRecord, honly.due.trans hdue, _, htxn, hkeep hholds⟩
  · have hbo : (runBegun p w).bp.out = w.bp.out := by simp [runBegun, send]
    rw [h.out, hbo, hout, List.append_assoc]
  · by_cases hlt : k < j
    · refine ⟨0, ?_⟩
      rw [List.getD_append _ _ _ _ (by simpa using hlt), List.getD_replicate _ hlt]
      simp [streamByte, hskip k hlt]
    · obtain ⟨m, rfl⟩ := Nat.exists_eq_add_of_le (Nat.le_of_not_lt hlt)
      rw [List.length_append, List.length_replicate] at hk
      obtain ⟨draw, hb⟩ := h.shown m (by omega)
      refine ⟨draw, ?_⟩
      rw [List.getD_append_right _ _ _ _ (by simp), List.length_replicate, Nat.add_sub_cancel_left, hb, hbegun.streamByte,
        hnext, ofNat24_add, hy]
  · rw [hreads, runBegun_sent]
    exact List.prefix_append ..

/-! ### Bytes of a whole read, one by one -/

theorem Delivers.bytes_txn {w t : State} {x : ReadTxn} {p : Nat} {before bytes : Bytes}
    (h : Delivers w x p t before bytes) (ho : ∀ o, w.fp.op = some o → o.phase ≠ .suspended) {k : Nat}
    (hk : k < bytes.length) : bytes.getD k 0 = txnByte w x (x.nextAddress + BitVec.ofNat 24 k) := by
  obtain ⟨draw, hb⟩ := h.shown k hk
  rw [hb, streamByte_awake draw ho]

theorem Delivers.bytes_shown {w t : State} {x : ReadTxn} {p : Nat} {before bytes : Bytes} {o : FlightOp}
    (h : Delivers w x p t before bytes) (ho : w.fp.op = some o) {k : Nat} (hk : k < bytes.length) :
    shownByte w x.table x.selector o (x.nextAddress + BitVec.ofNat 24 k) (bytes.getD k 0) := by
  obtain ⟨draw, hb⟩ := h.shown k hk
  rw [hb]
  exact streamByte_shown _ draw ho

/-! ### The end of a whole read (R30, R60) -/

theorem exec_readEnd (n : Nat) (reply : SuspendReply) (s : State) :
    exec (.readTransactionEnd n reply) s = .next (endRead (clockData reply n (freshPort s))) := rfl

/-- R67: a restart that waited for the operation's end is due after it. -/
theorem restartDue_completedFor (asked : List FpCommand) (o : FlightOp) (s : State) :
    restartDue (completedFor asked o s) = true ↔
      (∃ v, s.mc.state = .working (.restart v)) ∧ s.writes.current = none := by
  unfold restartDue completedFor
  dsimp only
  split
  · next v hv => simp [hv]
  · next hno =>
    simp only [Bool.false_eq_true, false_iff, not_and]
    exact fun ⟨v, hv⟩ => absurd hv (hno v)

/-- R67: where the suspend finds the end that a restart waited for, no run begins. -/
theorem beginRun_due {p : Nat} {reply : SuspendReply} {s : State} (h : restartDue (suspendOperation reply s) = true) :
    beginRun p reply s = suspendOperation reply s := by
  unfold beginRun
  exact if_pos h

theorem skipped_zero {s : State} {x : ReadTxn} (hx : s.bp.readTxn = some x) : skipped 0 x s = s := by
  unfold skipped
  simp only [List.replicate_zero, List.append_nil, BitVec.add_zero, if_true]
  rw [← hx]

theorem clockData_dueEq (reply : SuspendReply) (n : Nat) {s : State} (h : restartDue s = true) :
    ∃ r, clockData reply n s = { s with bp.readTxn := r } := by
  unfold clockData
  split
  · exact ⟨s.bp.readTxn, rfl⟩
  · split
    · rw [supplyBytes_due _ _ (by exact h)]
      exact ⟨_, rfl⟩
    · exact ⟨s.bp.readTxn, rfl⟩

theorem suspendOperation_out (reply : SuspendReply) (s : State) : (suspendOperation reply s).bp.out = s.bp.out := by
  unfold suspendOperation endCommand completeOperation
  dsimp only
  (repeat' split) <;> rfl

/-- R53, R59: the bytes after the first readable one, where the suspend leaves no restart due. -/
theorem meets_delivers {s : State} {x : ReadTxn} {o : FlightOp} {j i p : Nat} {reply : SuspendReply} {n : Nat}
    (hx : s.bp.readTxn = some x) (hs : x.streaming = true) (hp : x.dataPhase = true) (ho : s.fp.op = some o)
    (hj : j < bytesBegun x.dataLines (x.dataClocks + n) - bytesBegun x.dataLines x.dataClocks)
    (hskip : ∀ k, k < j → readAt s x (x.nextAddress + BitVec.ofNat 24 k) = none)
    (hat : readAt s x (x.nextAddress + BitVec.ofNat 24 j) = some (i, p)) (hrun : j = 0 → s.fp.run ≠ some p) :
    (restartDue (suspendOperation reply (skipped j { x with dataClocks := x.dataClocks + n } s)) = true →
      clockData reply n s = suspendOperation reply (skipped j { x with dataClocks := x.dataClocks + n } s)) ∧
    (restartDue (suspendOperation reply (skipped j { x with dataClocks := x.dataClocks + n } s)) = false →
      ∃ bytes : Bytes,
        bytes.length = bytesBegun x.dataLines (x.dataClocks + n) - bytesBegun x.dataLines x.dataClocks ∧
        Delivers (suspendOperation reply (skipped j { x with dataClocks := x.dataClocks + n } s)) x p
          (clockData reply n s) s.bp.out bytes) := by
  rw [clockData_meets reply n hx hs hp ho hj hskip hat hrun]
  generalize hw : suspendOperation reply (skipped j { x with dataClocks := x.dataClocks + n } s) = w
  have htxn : w.bp.readTxn = some { x with
      dataClocks := x.dataClocks + n, nextAddress := x.nextAddress + BitVec.ofNat 24 j } := by
    rw [← hw]
    simp [skipped]
  have hread : ∀ y a, readAt w y a = readAt s y a := fun y a => by
    have hblocks : w.tu = s.tu ∧ w.store = s.store := by
      rw [← hw]
      exact ⟨by simp [skipped], by simp [skipped]⟩
    rw [readAt, hblocks.1, hblocks.2]
    rfl
  have hout : w.bp.out = s.bp.out ++ List.replicate j 0xFF := by
    rw [← hw, suspendOperation_out]
    rfl
  have hn : NotRunning w := hw ▸ suspendOperation_notRunning _ _
  refine ⟨fun hdue => ?_, fun hdue => ?_⟩
  · rw [beginRun_due (by rw [hw, hdue]), hw, supplyBytes_due _ _ hdue]
  · rw [beginRun_eq (by rw [hw, hdue]), hw]
    have hbegun := runBegun_only p w
    obtain ⟨bytes, hlen, hserves⟩ := supplyBytes_serves reply
      (bytesBegun x.dataLines (x.dataClocks + n) - bytesBegun x.dataLines x.dataClocks - j) (runBegun_txn (p := p) htxn)
      (hn.of_eq hbegun.op) (hbegun.due.trans hdue)
    refine ⟨List.replicate j 0xFF ++ bytes, ?_, delivers_after
      (y := { x with
        dataClocks := x.dataClocks + n, nextAddress := x.nextAddress + BitVec.ofNat 24 j, holdsFlash := true })
      hout (fun k hk => ?_) (fun _ _ => rfl) rfl rfl hdue hserves⟩
    · rw [List.length_append, List.length_replicate, hlen]
      omega
    · rw [hread]
      exact hskip k hk

/-! ### The end of a read that met an operation (R57, R60) -/

theorem readAt_none {s : State} {x : ReadTxn} {a : LogicalAddress}
    (h : ∀ p, ¬ ∃ f, translate x.table x.selector s.store.slotMap a = some (f, p) ∧
      (s.tu.table.getD f.index .held).live.r = true) : readAt s x a = none := by
  cases hat : readAt s x a with
  | none => rfl
  | some ip => exact absurd (readAt_isSome_iff.1 ⟨ip.1, hat⟩) (h ip.2)

section Delivered

variable {w t : State} {x : ReadTxn} {p : Nat} {before bytes : Bytes} (h : Delivers w x p t before bytes)
include h

theorem Delivers.end_resumes {o : FlightOp} (ho : w.fp.op = some o) (hp : o.phase = .suspended) :
    (endRead t).fp.op = some { o with phase := .running } ∧ [FpCommand.resume] <:+ (endRead t).fp.sent := by
  obtain ⟨y, hy, hh⟩ := h.txn
  exact endRead_resumes hy hh (h.op.trans ho) hp

theorem Delivers.end_starts {o : FlightOp} (ho : w.fp.op = some o) (hp : o.phase = .queued) :
    (endRead t).fp.op = some { o with phase := .running, runningTime := 0 } ∧
      operationCommands o <:+ (endRead t).fp.sent := by
  obtain ⟨y, hy, hh⟩ := h.txn
  exact endRead_starts hy hh (h.op.trans ho) hp

theorem Delivers.end_idle (ho : w.fp.op = none) : (endRead t).fp.op = none := by
  obtain ⟨y, hy, hh⟩ := h.txn
  exact (endRead_idle hy hh (h.op.trans ho)).1

end Delivered

/-- What the end of a read that met an operation leaves, with the state `w` in which its run began. -/
structure EndDelivered (s w t : State) (p : Nat) (bytes : Bytes) : Prop where
  out : t.bp.out = s.bp.out ++ bytes
  txn : t.bp.readTxn = none
  run : t.fp.run = none
  store : t.store = s.store
  tu : t.tu = s.tu
  flash : t.flash = w.flash
  writeRecord : t.bp.writeRecord = w.bp.writeRecord
  sent : w.fp.sent ++ [FpCommand.read p] <+: t.fp.sent

theorem Delivers.ended {s w : State} {x : ReadTxn} {p n : Nat} {bytes : Bytes} {reply : SuspendReply}
    (h : Delivers w x p (clockData reply n s) s.bp.out bytes) :
    EndDelivered s w (endRead (clockData reply n s)) p bytes := by
  obtain ⟨y, hy, -⟩ := h.txn
  obtain ⟨hbp, hrun, hsent, hflash, hstore, htu, -, -⟩ := endRead_ended hy
  refine ⟨?_, ?_, hrun, ?_, ?_, hflash.trans h.flash, ?_, h.sent.trans hsent⟩
  · rw [hbp]
    exact h.out
  · rw [hbp]
  · rw [hstore]
    simp
  · rw [htu]
    simp
  · rw [hbp]
    exact h.writeRecord

section Met

variable {s : State} {x : ReadTxn} {o : FlightOp} {j i p : Nat} {reply undecided : SuspendReply} {last : StatusPair} {n : Nat}
  (hx : s.bp.readTxn = some x) (hs : x.streaming = true) (hp : x.dataPhase = true) (ho : s.fp.op = some o)
  (hphase : o.phase = .running) (ha : suspendAnswer s reply undecided last)
  (hj : j < bytesBegun x.dataLines (x.dataClocks + n) - bytesBegun x.dataLines x.dataClocks)
  (hskip : ∀ k, k < j → readAt s x (x.nextAddress + BitVec.ofNat 24 k) = none)
  (hat : readAt s x (x.nextAddress + BitVec.ofNat 24 j) = some (i, p)) (hrun : j = 0 → s.fp.run ≠ some p)
include hx hs hp ho hphase ha hj hskip hat hrun

theorem met_suspends (hb : last.suspended.getLsbD 7 = true) :
    ∃ bytes : Bytes, bytes.length = bytesBegun x.dataLines (x.dataClocks + n) - bytesBegun x.dataLines x.dataClocks ∧
      Delivers (suspendedFor (suspendCommands undecided last) o (skipped j { x with dataClocks := x.dataClocks + n } s))
        x p (clockData reply n s) s.bp.out bytes := by
  have hgoes := (meets_delivers (reply := reply) hx hs hp ho hj hskip hat hrun).2
  rw [suspendOperation_suspends (s := skipped j { x with dataClocks := x.dataClocks + n } s) ho hphase ha hb] at hgoes
  exact hgoes (restartDue_op rfl)

theorem met_steps (hb : last.suspended.getLsbD 7 = false) (hk : o.kind = .eraseSeries) (hi : o.index < 15) :
    ∃ bytes : Bytes, bytes.length = bytesBegun x.dataLines (x.dataClocks + n) - bytesBegun x.dataLines x.dataClocks ∧
      Delivers (steppedFor (suspendCommands undecided last) o (skipped j { x with dataClocks := x.dataClocks + n } s))
        x p (clockData reply n s) s.bp.out bytes := by
  have hgoes := (meets_delivers (reply := reply) hx hs hp ho hj hskip hat hrun).2
  rw [suspendOperation_series (s := skipped j { x with dataClocks := x.dataClocks + n } s) ho hphase ha hb hk hi] at hgoes
  exact hgoes (restartDue_op rfl)

theorem met_completes (hb : last.suspended.getLsbD 7 = false) (hf : o.kind ≠ .eraseSeries ∨ 15 ≤ o.index) :
    ((∃ v, s.mc.state = .working (.restart v)) ∧ s.writes.current = none →
      clockData reply n s =
        completedFor (suspendCommands undecided last) o (skipped j { x with dataClocks := x.dataClocks + n } s)) ∧
    (¬ ((∃ v, s.mc.state = .working (.restart v)) ∧ s.writes.current = none) →
      ∃ bytes : Bytes, bytes.length = bytesBegun x.dataLines (x.dataClocks + n) - bytesBegun x.dataLines x.dataClocks ∧
        Delivers (completedFor (suspendCommands undecided last) o (skipped j { x with dataClocks := x.dataClocks + n } s))
          x p (clockData reply n s) s.bp.out bytes) := by
  obtain ⟨hreset, hgoes⟩ := meets_delivers (reply := reply) (n := n) hx hs hp ho hj hskip hat hrun
  rw [suspendOperation_completes (s := skipped j { x with dataClocks := x.dataClocks + n } s) ho hphase ha hb hf] at hreset hgoes
  have hiff := restartDue_completedFor (suspendCommands undecided last) o
    (skipped j { x with dataClocks := x.dataClocks + n } s)
  exact ⟨fun h => hreset (hiff.2 h), fun h => hgoes (Bool.eq_false_iff.2 (mt hiff.1 h))⟩

end Met

/-! ### The outcomes of a suspend (R57, R59, R67) -/

/-- R203: the status pairs show the command ended. -/
def FoundEnded (last : StatusPair) : Prop := last.suspended.getLsbD 7 = false

/-- R57: with the command the whole operation has ended. -/
def FoundFinal (o : FlightOp) (last : StatusPair) : Prop := FoundEnded last ∧ (o.kind ≠ .eraseSeries ∨ 15 ≤ o.index)

/-- R67: that end is the one a pending restart waited for. -/
def FoundReset (s : State) (o : FlightOp) (last : StatusPair) : Prop :=
  (∃ v, s.mc.state = .working (.restart v)) ∧ s.writes.current = none ∧ FoundFinal o last

/-- What the end of a read leaves whose bytes `bytes` met the operation `o` at byte `j`. -/
structure EndMet (s : State) (x : ReadTxn) (o : FlightOp) (j p count : Nat) (asked : List FpCommand) (last : StatusPair)
    (t : State) (bytes : Bytes) : Prop where
  out : t.bp.out = s.bp.out ++ bytes
  txn : t.bp.readTxn = none
  run : t.fp.run = none
  store : t.store = s.store
  tu : t.tu = s.tu
  suspendedFlash : ¬ FoundEnded last → t.flash = s.flash
  endedFlash : FoundEnded last → t.flash = s.flash.finish o
  complete : FoundFinal o last → t.fp.op = none ∧ t.bp.writeRecord = .none
  reset : FoundReset s o last → t.fp.sent = asked ∧ bytes = List.replicate j 0xFF
  goesOn : ¬ FoundReset s o last → asked ++ [FpCommand.read p] <+: t.fp.sent ∧ bytes.length = count
  resumes : ¬ FoundEnded last →
    t.fp.op = some { o with phase := .running } ∧ t.bp.writeRecord = s.bp.writeRecord ∧
      [FpCommand.resume] <:+ t.fp.sent ∧
      ∀ k, k < count →
        shownByte s x.table x.selector { o with phase := .suspended } (x.nextAddress + BitVec.ofNat 24 k) (bytes.getD k 0)
  finished : FoundEnded last → ¬ FoundReset s o last →
    ∀ k, k < count →
      bytes.getD k 0 = txnByte { s with flash := s.flash.finish o } x (x.nextAddress + BitVec.ofNat 24 k)
  steps : FoundEnded last → ¬ FoundFinal o last →
    t.fp.op = some { o with index := o.index + 1, phase := .running, runningTime := 0 } ∧
      [FpCommand.writeEnable, .sectorErase (o.targets.getD (o.index + 1) 0)] <:+ t.fp.sent

theorem not_foundFinal {o : FlightOp} {last : StatusPair} (hk : o.kind = .eraseSeries) (hi : o.index < 15) :
    ¬ FoundFinal o last := fun hf => by
  obtain h | h := hf.2
  · exact h hk
  · omega

section EndMet

variable {s : State} {x : ReadTxn} {o : FlightOp} {j i p : Nat} {reply undecided : SuspendReply} {last : StatusPair} {n : Nat}
  (hx : s.bp.readTxn = some x) (hs : x.streaming = true) (hp : x.dataPhase = true) (hh : x.holdsFlash = false)
  (ho : s.fp.op = some o) (hphase : o.phase = .running) (ha : suspendAnswer s reply undecided last)
  (hj : j < bytesBegun x.dataLines (x.dataClocks + n) - bytesBegun x.dataLines x.dataClocks)
  (hskip : ∀ k, k < j → readAt s x (x.nextAddress + BitVec.ofNat 24 k) = none)
  (hat : readAt s x (x.nextAddress + BitVec.ofNat 24 j) = some (i, p)) (hrun : j = 0 → s.fp.run ≠ some p)
  (hsent : s.fp.sent = [])

include hx hs hp ho hphase ha hj hskip hat hrun hsent in
theorem endMet_suspends (hb : last.suspended.getLsbD 7 = true) :
    ∃ bytes, EndMet s x o j p (bytesBegun x.dataLines (x.dataClocks + n) - bytesBegun x.dataLines x.dataClocks)
      (suspendCommands undecided last) last (endRead (clockData reply n s)) bytes := by
  obtain ⟨bytes, hlen, hd⟩ := met_suspends hx hs hp ho hphase ha hj hskip hat hrun hb
  obtain ⟨hop, hres⟩ := hd.end_resumes (o := { o with phase := .suspended }) rfl rfl
  obtain ⟨hout, htxn, hrun', hstore, htu, hflash, hrecord, hprefix⟩ := hd.ended
  have hnot : ¬ FoundEnded last := by simp only [FoundEnded, hb]; exact nofun
  refine ⟨bytes, hout, htxn, hrun', hstore, htu, fun _ => hflash, fun he => absurd he hnot, fun hf => absurd hf.1 hnot,
    fun hr => absurd hr.2.2.1 hnot, fun _ => ⟨?_, hlen⟩, fun _ => ⟨hop, hrecord, hres, fun k hk => ?_⟩,
    fun he => absurd he hnot, fun he => absurd he hnot⟩
  · rwa [show (suspendedFor (suspendCommands undecided last) o
      (skipped j { x with dataClocks := x.dataClocks + n } s)).fp.sent = s.fp.sent ++ suspendCommands undecided last from rfl,
      hsent, List.nil_append] at hprefix
  · exact hd.bytes_shown (o := { o with phase := .suspended }) rfl (hlen ▸ hk)

include hx hs hp ho hphase ha hj hskip hat hrun hsent in
theorem endMet_steps (hb : last.suspended.getLsbD 7 = false) (hk : o.kind = .eraseSeries) (hi : o.index < 15) :
    ∃ bytes, EndMet s x o j p (bytesBegun x.dataLines (x.dataClocks + n) - bytesBegun x.dataLines x.dataClocks)
      (suspendCommands undecided last) last (endRead (clockData reply n s)) bytes := by
  obtain ⟨bytes, hlen, hd⟩ := met_steps hx hs hp ho hphase ha hj hskip hat hrun hb hk hi
  obtain ⟨hop, hstart⟩ := hd.end_starts (o := { o with index := o.index + 1, phase := .queued }) rfl rfl
  obtain ⟨hout, htxn, hrun', hstore, htu, hflash, -, hprefix⟩ := hd.ended
  have hnot := not_foundFinal (last := last) hk hi
  simp only [operationCommands, hk] at hstart
  refine ⟨bytes, hout, htxn, hrun', hstore, htu, fun hn => absurd hb hn, fun _ => hflash, fun hf => absurd hf hnot,
    fun hr => absurd hr.2.2 hnot, fun _ => ⟨?_, hlen⟩, fun hn => absurd hb hn, fun _ _ k hk => ?_, fun _ _ => ⟨hop, hstart⟩⟩
  · rwa [show (steppedFor (suspendCommands undecided last) o
      (skipped j { x with dataClocks := x.dataClocks + n } s)).fp.sent = s.fp.sent ++ suspendCommands undecided last from rfl,
      hsent, List.nil_append] at hprefix
  · exact hd.bytes_txn (fun q hq => by cases hq; simp) (hlen ▸ hk)

include hx hs hp ho hphase ha hj hskip hat hrun hsent hh in
theorem endMet_completes (hb : last.suspended.getLsbD 7 = false) (hf : o.kind ≠ .eraseSeries ∨ 15 ≤ o.index) :
    ∃ bytes, EndMet s x o j p (bytesBegun x.dataLines (x.dataClocks + n) - bytesBegun x.dataLines x.dataClocks)
      (suspendCommands undecided last) last (endRead (clockData reply n s)) bytes := by
  obtain ⟨hreset, hgoes⟩ := met_completes hx hs hp ho hphase ha hj hskip hat hrun hb hf
  have hfinal : FoundFinal o last := ⟨hb, hf⟩
  by_cases hr : FoundReset s o last
  · have hloose := endRead_loose (s := completedFor (suspendCommands undecided last) o
      (skipped j { x with dataClocks := x.dataClocks + n } s)) (x := { x with
        dataClocks := x.dataClocks + n, nextAddress := x.nextAddress + BitVec.ofNat 24 j }) rfl hh
    rw [hreset ⟨hr.1, hr.2.1⟩, hloose]
    refine ⟨List.replicate j 0xFF, rfl, rfl, rfl, rfl, rfl, fun hn => absurd hb hn, fun _ => rfl, fun _ => ⟨rfl, rfl⟩,
      fun _ => ⟨?_, rfl⟩, fun hn => absurd hr hn, fun hn => absurd hb hn, fun _ hn => absurd hr hn,
      fun _ hn => absurd hfinal hn⟩
    show s.fp.sent ++ _ = _
    rw [hsent, List.nil_append]
  · obtain ⟨bytes, hlen, hd⟩ := hgoes fun h => hr ⟨h.1, h.2, hfinal⟩
    obtain ⟨hout, htxn, hrun', hstore, htu, hflash, hrecord, hprefix⟩ := hd.ended
    refine ⟨bytes, hout, htxn, hrun', hstore, htu, fun hn => absurd hb hn, fun _ => hflash,
      fun _ => ⟨hd.end_idle rfl, hrecord⟩, fun h => absurd h hr, fun _ => ⟨?_, hlen⟩, fun hn => absurd hb hn,
      fun _ _ k hk => ?_, fun _ hn => absurd hfinal hn⟩
    · rwa [show (completedFor (suspendCommands undecided last) o
        (skipped j { x with dataClocks := x.dataClocks + n } s)).fp.sent = s.fp.sent ++ suspendCommands undecided last
        from rfl, hsent, List.nil_append] at hprefix
    · exact hd.bytes_txn (fun q hq => by cases hq) (hlen ▸ hk)

include hx hs hp ho hphase ha hj hskip hat hrun hsent hh in
/-- R53, R57, R59, R67: the end of a read that met a RUNNING operation. -/
theorem endMet : ∃ bytes, EndMet s x o j p
    (bytesBegun x.dataLines (x.dataClocks + n) - bytesBegun x.dataLines x.dataClocks)
    (suspendCommands undecided last) last (endRead (clockData reply n s)) bytes := by
  cases hb : last.suspended.getLsbD 7 with
  | true => exact endMet_suspends hx hs hp ho hphase ha hj hskip hat hrun hsent hb
  | false =>
    by_cases hf : o.kind ≠ .eraseSeries ∨ 15 ≤ o.index
    · exact endMet_completes hx hs hp hh ho hphase ha hj hskip hat hrun hsent hb hf
    · simp only [not_or, not_not, Nat.not_le] at hf
      exact endMet_steps hx hs hp ho hphase ha hj hskip hat hrun hsent hb hf.1 hf.2

end EndMet

end Sys2Proof.Machine

namespace Sys2Proof.Reads

open Sys2Proof Sys2Proof.Machine

/-- Settles O27: the further bytes by what is in flight, and the end of the transaction. -/
theorem readTransactionEndReleases : Obligations.ReadTransactionEndReleases := by
  intro s n reply
  refine ⟨?_, ?_, ?_, ?_, ?_⟩
  · intro x hx hop hdue hs hp
    have hn : NotRunning (freshPort s) := fun o ho => by cases hop.symm.trans ho
    obtain ⟨bytes, hlen, hserves⟩ := clockData_serves reply n (.refl (s := freshPort s) hx) hx hs hp hn hdue
    obtain ⟨holds, htxn, -⟩ := hserves.txn
    obtain ⟨hbp, hrun, -, hflash, hstore, htu, hmc, hlanes⟩ := endRead_ended htxn
    obtain ⟨hstore', htu', hmc', hlanes', hwel'⟩ := hserves.only.blocks
    have hbytes := hserves.bytes_eq (fun o ho => by cases hop.symm.trans ho)
    rw [List.nil_append, hlen] at hbytes
    refine ⟨_, exec_readEnd n reply s, ?_, by rw [hbp], by rw [hbp], hrun, ?_, hflash.trans hserves.only.flash,
      hstore.trans hstore', htu.trans htu', ?_, ?_, hmc.trans hmc', hlanes.trans hlanes'⟩
    · rw [hbp]
      exact hserves.out.trans (by rw [List.nil_append, hbytes]; rfl)
    · have hnone := hserves.only.op.trans hop
      cases hh : holds with
      | false =>
        subst hh
        rw [endRead_loose htxn rfl]
        exact hnone
      | true =>
        subst hh
        exact (endRead_idle htxn rfl hnone).1
    · rw [hbp]
      exact hwel'
    · rw [hbp]
      exact hserves.only.writeRecord
  · intro x o hx ho hnr hs hp count
    have hn : NotRunning (freshPort s) := fun q hq => by cases ho.symm.trans hq; exact hnr
    have hdue : restartDue (freshPort s) = false := restartDue_op (by show s.fp.op.isSome = true; simp [ho])
    obtain ⟨bytes, hlen, hserves⟩ := clockData_serves reply n (.refl (s := freshPort s) hx) hx hs hp hn hdue
    obtain ⟨holds, htxn, hkeep⟩ := hserves.txn
    obtain ⟨hbp, hrun, -, hflash, hstore, htu, -, -⟩ := endRead_ended htxn
    obtain ⟨hstore', htu', -, -, -⟩ := hserves.only.blocks
    have hop := hserves.only.op.trans ho
    refine ⟨_, bytes, exec_readEnd n reply s, ?_, hlen, fun k hk => ?_, by rw [hbp], hrun,
      hflash.trans hserves.only.flash, hstore.trans hstore', htu.trans htu', ?_, fun hh => ?_⟩
    · rw [hbp]
      exact hserves.out
    · obtain ⟨draw, hb⟩ := hserves.shown k (by rw [List.nil_append, hlen]; exact hk)
      rw [List.nil_append] at hb
      rw [hb]
      exact streamByte_shown (s := freshPort s) _ draw ho
    · rw [hbp]
      exact hserves.only.writeRecord
    · cases hphase : o.phase with
      | running => exact absurd hphase hnr
      | suspended => exact (endRead_resumes htxn (hkeep hh) hop hphase).1
      | queued => exact (endRead_starts htxn (hkeep hh) hop hphase).1
  · intro x o hx ho hphase hh hrun hs hp count address readableAt
    have hdue : restartDue (freshPort s) = false := restartDue_op (by show s.fp.op.isSome = true; simp [ho])
    refine ⟨fun hnone => ?_, fun j p undecided last hj hread hskip ha => ?_⟩
    · have hall := supplyBytes_unreadable reply count
        (s := { freshPort s with bp.readTxn := some { x with dataClocks := x.dataClocks + n } }) rfl hdue
        fun k hk => readAt_none (s := freshPort s) (x := x) fun q => hnone k q hk
      rw [exec_readEnd, clockData_stream reply n (s := freshPort s) hx hs hp, hall,
        endRead_loose (x := { x with
          dataClocks := x.dataClocks + n, nextAddress := x.nextAddress + BitVec.ofNat 24 count }) rfl hh]
      unfold skipped freshPort
      rfl
    · intro ended final asked resets
      obtain ⟨i, hat⟩ := readAt_isSome_iff.2 hread
      have hskip' : ∀ k, k < j → readAt (freshPort s) x (x.nextAddress + BitVec.ofNat 24 k) = none :=
        fun k hk => readAt_none (s := freshPort s) (x := x) fun q => hskip k q hk
      have hrun' : j = 0 → (freshPort s).fp.run ≠ some p := fun _ h => by cases hrun.symm.trans h
      obtain ⟨bytes, hm⟩ := endMet (s := freshPort s) hx hs hp hh ho hphase ha hj hskip' hat hrun' rfl
      refine ⟨_, bytes, exec_readEnd n reply s, hm.out, hm.txn, hm.run, hm.store, hm.tu, ?_, hm.complete, hm.reset,
        hm.goesOn, hm.resumes, hm.finished, hm.steps⟩
      split
      · next he => exact hm.endedFlash he
      · next he => exact hm.suspendedFlash he
  · intro x hx hh hstill
    rw [exec_readEnd, clockData_still reply n (s := freshPort s) hx hstill, endRead_loose (s := freshPort s) hx hh]
    rfl
  · intro hx
    have hclock : clockData reply n (freshPort s) = freshPort s := by simp [clockData, freshPort, hx]
    rw [exec_readEnd, hclock, endRead_none (by exact hx)]
    rfl

end Sys2Proof.Reads
end

section
/-! PROOFS. A read command that meets a RUNNING operation, and the transaction's end (R53, R57, R59, R60, R67). -/

namespace Sys2Proof.Machine

/-! ### The read command from its address on -/

theorem startStream_unreadable (reply : SuspendReply) {s : State} {x : ReadTxn} (hx : s.bp.readTxn = some x)
    (hr : readAt s x x.nextAddress = none) : startStream reply s = s := by
  unfold startStream
  rw [hx, Option.bind_some, readable_eq_readAt, hr]

theorem startStream_readable (reply : SuspendReply) {s : State} {x : ReadTxn} {i p : Nat} (hx : s.bp.readTxn = some x)
    (hr : readAt s x x.nextAddress = some (i, p)) : startStream reply s = beginRun p reply s := by
  unfold startStream
  rw [hx, Option.bind_some, readable_eq_readAt, hr]

/-- R25, R29: the bytes that the clocks of a read begin. -/
def readCount (leading : Nat) (lines : Lines) (clocks : List Clock) (n : Nat) (s : State) : Nat :=
  if leading ≤ (receivedBytes s.bp.laneMode clocks).length then
    bytesBegun lines (clocks.length - leading * clocksPerByte (receiveLines s.bp.laneMode) + n)
  else 0

section Read

variable {s : State} {leading : Nat} {quad : Bool} {clocks : List Clock} {n : Nat} {reply : SuspendReply} {o : FlightOp}
  (hl : 3 ≤ leading) (hfree : busFree s = true) (hwhole : 3 ≤ (receivedBytes s.bp.laneMode clocks).length)
  (ho : s.fp.op = some o)
include hl hfree hwhole ho

/-- R29, R53: a read none of whose bytes is readable. -/
theorem readCommand_unreadable
    (hnone : ∀ j, j = 0 ∨ j < readCount leading (dataOutLines s.bp.laneMode quad) clocks n s →
      readAt s (openedTxn leading (dataOutLines s.bp.laneMode quad) clocks s)
        (addressOf (receivedBytes s.bp.laneMode clocks) + BitVec.ofNat 24 j) = none) :
    ∃ d, readCommand leading quad clocks n reply s =
      skipped (readCount leading (dataOutLines s.bp.laneMode quad) clocks n s)
        { openedTxn leading (dataOutLines s.bp.laneMode quad) clocks s with dataClocks := d }
        (readOpened leading (dataOutLines s.bp.laneMode quad) clocks s) := by
  have hzero := hnone 0 (.inl rfl)
  rw [BitVec.add_zero] at hzero
  rw [readCommand_free quad clocks n reply hl hfree, if_pos hwhole,
    startStream_unreadable reply (s := readOpened leading (dataOutLines s.bp.laneMode quad) clocks s) rfl hzero]
  unfold readCount at hnone ⊢
  by_cases hphase : leading ≤ (receivedBytes s.bp.laneMode clocks).length
  · rw [if_pos hphase] at hnone ⊢
    refine ⟨clocks.length - leading * clocksPerByte (receiveLines s.bp.laneMode) + n, ?_⟩
    rw [clockData_stream reply _ (s := readOpened leading (dataOutLines s.bp.laneMode quad) clocks s) rfl
      (decide_eq_true hwhole) (decide_eq_true hphase)]
    show supplyBytes reply (bytesBegun (dataOutLines s.bp.laneMode quad) (0 + _) -
      bytesBegun (dataOutLines s.bp.laneMode quad) 0) _ = _
    rw [bytesBegun_zero, Nat.sub_zero]
    simp only [openedTxn, Nat.zero_add]
    exact supplyBytes_unreadable reply _ (s := { readOpened leading (dataOutLines s.bp.laneMode quad) clocks s with
        bp.readTxn := some { openedTxn leading (dataOutLines s.bp.laneMode quad) clocks s with
          dataClocks := clocks.length - leading * clocksPerByte (receiveLines s.bp.laneMode) + n } }) rfl
      (restartDue_op (by show s.fp.op.isSome = true; simp [ho])) fun k hk => hnone k (.inr hk)
  · rw [if_neg hphase]
    refine ⟨0, ?_⟩
    rw [clockData_still reply _ (s := readOpened leading (dataOutLines s.bp.laneMode quad) clocks s) rfl
      (.inr (decide_eq_false hphase))]
    exact (skipped_zero (s := readOpened leading (dataOutLines s.bp.laneMode quad) clocks s) rfl).symm

/-- R53, R59: a read whose first readable byte is byte `i` begins its run there. -/
theorem readCommand_meets {i e p : Nat} (hi : i = 0 ∨ i < readCount leading (dataOutLines s.bp.laneMode quad) clocks n s)
    (hskip : ∀ j, j < i → readAt s (openedTxn leading (dataOutLines s.bp.laneMode quad) clocks s)
        (addressOf (receivedBytes s.bp.laneMode clocks) + BitVec.ofNat 24 j) = none)
    (hat : readAt s (openedTxn leading (dataOutLines s.bp.laneMode quad) clocks s)
        (addressOf (receivedBytes s.bp.laneMode clocks) + BitVec.ofNat 24 i) = some (e, p)) :
    ∃ d w, w = suspendOperation reply (skipped i
        { openedTxn leading (dataOutLines s.bp.laneMode quad) clocks s with dataClocks := d }
        (readOpened leading (dataOutLines s.bp.laneMode quad) clocks s)) ∧
      (restartDue w = true → ∃ r, readCommand leading quad clocks n reply s = { w with bp.readTxn := r }) ∧
      (restartDue w = false → ∃ bytes : Bytes,
        bytes.length = readCount leading (dataOutLines s.bp.laneMode quad) clocks n s ∧
        Delivers w (openedTxn leading (dataOutLines s.bp.laneMode quad) clocks s) p
          (readCommand leading quad clocks n reply s) [] bytes) := by
  rw [readCommand_free quad clocks n reply hl hfree, if_pos hwhole]
  unfold readCount at hi ⊢
  generalize hclocked : clocks.length - leading * clocksPerByte (receiveLines s.bp.laneMode) + n = clocked at hi ⊢
  by_cases h0 : i = 0
  · subst h0
    rw [BitVec.add_zero] at hat
    refine ⟨0, _, rfl, ?_⟩
    have hopened : skipped 0 { openedTxn leading (dataOutLines s.bp.laneMode quad) clocks s with dataClocks := 0 }
        (readOpened leading (dataOutLines s.bp.laneMode quad) clocks s) =
        readOpened leading (dataOutLines s.bp.laneMode quad) clocks s :=
      skipped_zero (s := readOpened leading (dataOutLines s.bp.laneMode quad) clocks s) rfl
    rw [hopened, startStream_readable reply (s := readOpened leading (dataOutLines s.bp.laneMode quad) clocks s) rfl hat]
    have htxn : (suspendOperation reply (readOpened leading (dataOutLines s.bp.laneMode quad) clocks s)).bp.readTxn =
        some (openedTxn leading (dataOutLines s.bp.laneMode quad) clocks s) := by
      rw [(suspendOperation_frame reply _).2.1]
      rfl
    have hout := suspendOperation_out reply (readOpened leading (dataOutLines s.bp.laneMode quad) clocks s)
    have hn := suspendOperation_notRunning reply (readOpened leading (dataOutLines s.bp.laneMode quad) clocks s)
    refine ⟨fun hdue => ?_, fun hdue => ?_⟩
    · rw [beginRun_due hdue]
      exact clockData_dueEq reply clocked hdue
    · rw [beginRun_eq hdue]
      generalize suspendOperation reply (readOpened leading (dataOutLines s.bp.laneMode quad) clocks s) = w at htxn hout hn hdue
      have hbegun := runBegun_only p w
      obtain ⟨bytes, d, hserves, hlen, hempty⟩ := clockData_moves reply clocked (.refl (runBegun_txn (p := p) htxn))
        (hn.of_eq hbegun.op) (hbegun.due.trans hdue)
      refine ⟨bytes, ?_, delivers_after (j := 0) (y := { openedTxn leading (dataOutLines s.bp.laneMode quad) clocks s with
        holdsFlash := true, dataClocks := d }) (before := []) hout (fun k hk => absurd hk (Nat.not_lt_zero k))
        (fun _ _ => rfl) (BitVec.add_zero _).symm rfl hdue hserves⟩
      split
      · next hphase =>
        rw [hlen ⟨decide_eq_true hwhole, decide_eq_true hphase⟩]
        show bytesBegun (dataOutLines s.bp.laneMode quad) (0 + clocked) -
          bytesBegun (dataOutLines s.bp.laneMode quad) 0 = _
        rw [bytesBegun_zero, Nat.sub_zero, Nat.zero_add]
      · next hphase =>
        rw [hempty (.inr (decide_eq_false hphase))]
        rfl
  · have hi' := hi.resolve_left h0
    have hzero := hskip 0 (Nat.pos_of_ne_zero h0)
    rw [BitVec.add_zero] at hzero
    have hphase : leading ≤ (receivedBytes s.bp.laneMode clocks).length := by
      by_contra hc
      rw [if_neg hc] at hi'
      exact absurd hi' (Nat.not_lt_zero i)
    rw [if_pos hphase] at hi' ⊢
    have hcount : bytesBegun (dataOutLines s.bp.laneMode quad) (0 + clocked) - bytesBegun (dataOutLines s.bp.laneMode quad) 0 =
        bytesBegun (dataOutLines s.bp.laneMode quad) clocked := by
      rw [bytesBegun_zero, Nat.sub_zero, Nat.zero_add]
    rw [startStream_unreadable reply (s := readOpened leading (dataOutLines s.bp.laneMode quad) clocks s) rfl hzero]
    obtain ⟨hreset, hgoes⟩ := meets_delivers (s := readOpened leading (dataOutLines s.bp.laneMode quad) clocks s)
      (reply := reply) (n := clocked) (j := i) rfl (decide_eq_true hwhole) (decide_eq_true hphase) ho
      (hcount.symm ▸ hi') hskip hat (fun h => absurd h h0)
    refine ⟨0 + clocked, _, rfl, fun hdue => ⟨_, hreset hdue⟩, fun hdue => ?_⟩
    obtain ⟨bytes, hlen, hd⟩ := hgoes hdue
    exact ⟨bytes, hlen.trans hcount, hd⟩

end Read

/-! ### The transaction after its read command (R57, R60) -/

/-- What the end of a read transaction leaves whose run began in the state `w`. -/
structure Closed (w u : State) : Prop where
  txn : u.bp.readTxn = none
  run : u.fp.run = none
  flash : u.flash = w.flash
  resumes : ∀ o, w.fp.op = some o → o.phase = .suspended →
    u.fp.op = some { o with phase := .running } ∧ [FpCommand.resume] <:+ u.fp.sent
  starts : ∀ o, w.fp.op = some o → o.phase = .queued →
    u.fp.op = some { o with phase := .running, runningTime := 0 } ∧ operationCommands o <:+ u.fp.sent
  idle : w.fp.op = none → u.fp.op = none ∧ FpCommand.resume ∉ u.fp.sent

theorem Delivers.closed {w t : State} {x : ReadTxn} {p : Nat} {before bytes : Bytes} (h : Delivers w x p t before bytes)
    (hn : NotRunning w) (k : Nat) (reply : SuspendReply) : Closed w (endRead (clockData reply k (freshPort t))) := by
  obtain ⟨y, hy, hh⟩ := h.txn
  obtain ⟨more, d, hserves, -, -⟩ := clockData_moves reply k (.refl (s := freshPort t) hy) (hn.of_eq h.op) h.due
  obtain ⟨holds, htxn, hkeep⟩ := hserves.txn
  have hop := hserves.only.op.trans h.op
  have hended := endRead_ended htxn
  refine ⟨by rw [hended.bp], hended.run, (hended.flash.trans hserves.only.flash).trans h.flash,
    fun o ho hp => endRead_resumes htxn (hkeep hh) (hop.trans ho) hp,
    fun o ho hp => endRead_starts htxn (hkeep hh) (hop.trans ho) hp, fun ho => ?_⟩
  obtain ⟨hnone, hno⟩ := endRead_idle htxn (hkeep hh) (hop.trans ho)
  refine ⟨hnone, hno ?_⟩
  obtain ⟨reads, hreads⟩ := hserves.sent
  rw [hreads]
  simp [freshPort]

/-- What a read leaves that met the operation `o`, and then the end `u` of its transaction. -/
structure ReadMet (s : State) (x : ReadTxn) (o : FlightOp) (p count : Nat) (asked : List FpCommand) (last : StatusPair)
    (t u : State) : Prop where
  txn : u.bp.readTxn = none
  run : u.fp.run = none
  sent : asked ++ [FpCommand.read p] <+: t.fp.sent
  length : t.bp.out.length = count
  resumes : ¬ FoundEnded last →
    t.fp.op = some { o with phase := .suspended } ∧ t.bp.writeRecord = s.bp.writeRecord ∧ t.flash = s.flash ∧
    (∀ j, j < count → shownByte s x.table x.selector { o with phase := .suspended } (x.nextAddress + BitVec.ofNat 24 j)
      (t.bp.out.getD j 0)) ∧
    u.fp.op = some { o with phase := .running } ∧ u.flash = s.flash ∧ [FpCommand.resume] <:+ u.fp.sent
  finished : FoundEnded last → ∀ j, j < count →
    t.bp.out.getD j 0 = txnByte { s with flash := s.flash.finish o } x (x.nextAddress + BitVec.ofNat 24 j)
  complete : FoundFinal o last →
    t.fp.op = none ∧ t.bp.writeRecord = .none ∧ t.flash = s.flash.finish o ∧ u.fp.op = none ∧
    FpCommand.resume ∉ u.fp.sent
  steps : FoundEnded last → ¬ FoundFinal o last →
    t.fp.op = some { o with index := o.index + 1, phase := .queued } ∧ t.flash = s.flash.finish o ∧
    u.fp.op = some { o with index := o.index + 1, phase := .running, runningTime := 0 } ∧
    [FpCommand.writeEnable, .sectorErase (o.targets.getD (o.index + 1) 0)] <:+ u.fp.sent

/-- R67: what a read leaves that found the end a pending restart waited for. -/
structure ReadReset (s : State) (o : FlightOp) (i : Nat) (asked : List FpCommand) (t : State) : Prop where
  sent : t.fp.sent = asked
  out : t.bp.out = List.replicate i 0xFF
  run : t.fp.run = if i = 0 then s.fp.run else none
  op : t.fp.op = none
  writeRecord : t.bp.writeRecord = .none
  flash : t.flash = s.flash.finish o

section Delivered

variable {s t : State} {x y : ReadTxn} {o : FlightOp} {i p : Nat} {bytes : Bytes} {last : StatusPair}
  {asked : List FpCommand} (hsent : s.fp.sent = [])
include hsent

theorem Delivers.met_suspended (hs : last.suspended.getLsbD 7 = true)
    (h : Delivers (suspendedFor asked o (skipped i y s)) x p t [] bytes) (k : Nat) (reply : SuspendReply) :
    ReadMet s x o p bytes.length asked last t (endRead (clockData reply k (freshPort t))) := by
  have hnot : ¬ FoundEnded last := by simp only [FoundEnded, hs]; exact nofun
  have hc := h.closed (fun q hq => by cases hq; simp) k reply
  obtain ⟨hop, hresume⟩ := hc.resumes { o with phase := .suspended } rfl rfl
  have hout : t.bp.out = bytes := h.out
  have hasked := h.sent
  rw [show (suspendedFor asked o (skipped i y s)).fp.sent = s.fp.sent ++ asked from rfl, hsent, List.nil_append] at hasked
  refine ⟨hc.txn, hc.run, hasked, by rw [hout], fun _ => ⟨h.op, h.writeRecord, h.flash, fun j hj => ?_, hop, hc.flash, hresume⟩,
    fun he => absurd he hnot, fun hf => absurd hf.1 hnot, fun he => absurd he hnot⟩
  rw [hout]
  exact h.bytes_shown (o := { o with phase := .suspended }) rfl hj

theorem Delivers.met_stepped (he : last.suspended.getLsbD 7 = false) (hk : o.kind = .eraseSeries) (hi : o.index < 15)
    (h : Delivers (steppedFor asked o (skipped i y s)) x p t [] bytes) (k : Nat) (reply : SuspendReply) :
    ReadMet s x o p bytes.length asked last t (endRead (clockData reply k (freshPort t))) := by
  have hnot := not_foundFinal (last := last) hk hi
  have hc := h.closed (fun q hq => by cases hq; simp) k reply
  obtain ⟨hop, hstart⟩ := hc.starts { o with index := o.index + 1, phase := .queued } rfl rfl
  simp only [operationCommands, hk] at hstart
  have hout : t.bp.out = bytes := h.out
  have hasked := h.sent
  rw [show (steppedFor asked o (skipped i y s)).fp.sent = s.fp.sent ++ asked from rfl, hsent, List.nil_append] at hasked
  refine ⟨hc.txn, hc.run, hasked, by rw [hout], fun hn => absurd he hn, fun _ j hj => ?_, fun hf => absurd hf hnot,
    fun _ _ => ⟨h.op, h.flash, hop, hstart⟩⟩
  rw [hout]
  exact h.bytes_txn (fun q hq => by cases hq; simp) hj

theorem Delivers.met_completed (he : last.suspended.getLsbD 7 = false) (hf : o.kind ≠ .eraseSeries ∨ 15 ≤ o.index)
    (h : Delivers (completedFor asked o (skipped i y s)) x p t [] bytes) (k : Nat) (reply : SuspendReply) :
    ReadMet s x o p bytes.length asked last t (endRead (clockData reply k (freshPort t))) := by
  have hc := h.closed (fun q hq => by cases hq) k reply
  obtain ⟨hop, hno⟩ := hc.idle rfl
  have hout : t.bp.out = bytes := h.out
  have hasked := h.sent
  rw [show (completedFor asked o (skipped i y s)).fp.sent = s.fp.sent ++ asked from rfl, hsent, List.nil_append] at hasked
  refine ⟨hc.txn, hc.run, hasked, by rw [hout], fun hn => absurd he hn, fun _ j hj => ?_,
    fun _ => ⟨h.op, h.writeRecord, h.flash, hop, hno⟩, fun _ hn => absurd ⟨he, hf⟩ hn⟩
  rw [hout]
  exact h.bytes_txn (fun q hq => by cases hq) hj

end Delivered

theorem ReadMet.of_opened {s t u : State} {x : ReadTxn} {o : FlightOp} {p count leading : Nat} {asked : List FpCommand}
    {last : StatusPair} {lines : Lines} {clocks : List Clock}
    (h : ReadMet (readOpened leading lines clocks s) x o p count asked last t u) : ReadMet s x o p count asked last t u :=
  ⟨h.txn, h.run, h.sent, h.length, h.resumes, h.finished, h.complete, h.steps⟩

/-! ### A read that meets a RUNNING operation (R53, R59, R67) -/

section Met

variable {s : State} {leading : Nat} {quad : Bool} {clocks : List Clock} {n e p i : Nat} {o : FlightOp}
  {reply undecided : SuspendReply} {last : StatusPair}
  (hl : 3 ≤ leading) (hfree : busFree s = true) (hwhole : 3 ≤ (receivedBytes s.bp.laneMode clocks).length)
  (ho : s.fp.op = some o) (hphase : o.phase = .running) (ha : suspendAnswer s reply undecided last)
  (hi : i = 0 ∨ i < readCount leading (dataOutLines s.bp.laneMode quad) clocks n s)
  (hskip : ∀ j, j < i → readAt s (openedTxn leading (dataOutLines s.bp.laneMode quad) clocks s)
      (addressOf (receivedBytes s.bp.laneMode clocks) + BitVec.ofNat 24 j) = none)
  (hat : readAt s (openedTxn leading (dataOutLines s.bp.laneMode quad) clocks s)
      (addressOf (receivedBytes s.bp.laneMode clocks) + BitVec.ofNat 24 i) = some (e, p))
include hl hfree hwhole ho hphase ha hi hskip hat

theorem readCommand_met (k : Nat) (reply' : SuspendReply) :
    (¬ FoundReset s o last →
      ReadMet s (openedTxn leading (dataOutLines s.bp.laneMode quad) clocks s) o p
        (readCount leading (dataOutLines s.bp.laneMode quad) clocks n s) (suspendCommands undecided last) last
        (readCommand leading quad clocks n reply s)
        (endRead (clockData reply' k (freshPort (readCommand leading quad clocks n reply s))))) ∧
    (FoundReset s o last →
      ReadReset s o i (suspendCommands undecided last) (readCommand leading quad clocks n reply s)) := by
  obtain ⟨d, w, hw, hreset, hgoes⟩ := readCommand_meets (reply := reply) hl hfree hwhole ho hi hskip hat
  have ho' : (skipped i { openedTxn leading (dataOutLines s.bp.laneMode quad) clocks s with dataClocks := d }
    (readOpened leading (dataOutLines s.bp.laneMode quad) clocks s)).fp.op = some o := ho
  cases hb : last.suspended.getLsbD 7 with
  | true =>
    rw [suspendOperation_suspends ho' hphase (by exact ha) hb] at hw
    subst hw
    obtain ⟨bytes, hlen, hd⟩ := hgoes (restartDue_op rfl)
    have hnot : ¬ FoundReset s o last := fun hr => Bool.false_ne_true (Eq.trans (Eq.symm hr.2.2.1) hb)
    refine ⟨fun _ => hlen ▸ ?_, fun hr => absurd hr hnot⟩
    exact (hd.met_suspended (s := readOpened leading (dataOutLines s.bp.laneMode quad) clocks s) rfl hb k reply').of_opened
  | false =>
    by_cases hf : o.kind ≠ .eraseSeries ∨ 15 ≤ o.index
    · rw [suspendOperation_completes ho' hphase (by exact ha) hb hf] at hw
      subst hw
      have hiff := restartDue_completedFor (suspendCommands undecided last) o
        (skipped i { openedTxn leading (dataOutLines s.bp.laneMode quad) clocks s with dataClocks := d }
          (readOpened leading (dataOutLines s.bp.laneMode quad) clocks s))
      refine ⟨fun hr => ?_, fun hr => ?_⟩
      · obtain ⟨bytes, hlen, hd⟩ := hgoes (Bool.eq_false_iff.2 fun h => hr ⟨(hiff.1 h).1, (hiff.1 h).2, hb, hf⟩)
        refine hlen ▸ ?_
        exact (hd.met_completed (s := readOpened leading (dataOutLines s.bp.laneMode quad) clocks s) rfl hb hf k reply').of_opened
      · obtain ⟨r, heq⟩ := hreset (hiff.2 ⟨hr.1, hr.2.1⟩)
        rw [heq]
        exact ⟨rfl, rfl, rfl, rfl, rfl, rfl⟩
    · simp only [not_or, not_not, Nat.not_le] at hf
      rw [suspendOperation_series ho' hphase (by exact ha) hb hf.1 hf.2] at hw
      subst hw
      obtain ⟨bytes, hlen, hd⟩ := hgoes (restartDue_op rfl)
      have hnot : ¬ FoundReset s o last := fun hr => not_foundFinal hf.1 hf.2 hr.2.2
      refine ⟨fun _ => hlen ▸ ?_, fun hr => absurd hr hnot⟩
      exact (hd.met_stepped (s := readOpened leading (dataOutLines s.bp.laneMode quad) clocks s) rfl hb hf.1 hf.2 k reply').of_opened

end Met

/-- R12: a byte is readable at a transaction's start where its entry's live rights hold R. -/
theorem readAt_opened {s : State} {leading : Nat} {lines : Lines} {clocks : List Clock} {a : LogicalAddress} {p : Nat} :
    (∃ f, translate s.tu.table s.tu.selector s.store.slotMap a = some (f, p) ∧ f.region.live.r = true) ↔
      ∃ e, readAt s (openedTxn leading lines clocks s) a = some (e, p) := by
  rw [readAt_isSome_iff]
  refine exists_congr fun f => and_congr_right fun htr => ?_
  rw [translate_region htr]

end Sys2Proof.Machine

namespace Sys2Proof.Reads

open Sys2Proof Sys2Proof.Machine

/-- Settles O28: each of the three reads over a RUNNING operation, and the end of its transaction. -/
theorem readSuspendsAndEndResumes : Obligations.ReadSuspendsAndEndResumes := by
  intro s clocks n k reply reply' o mode sent address readableAt hfree hwhole ho hphase c leading lines hc count
  have hcommand : ∃ quad, lines = dataOutLines mode quad ∧ 3 ≤ leading ∧
      exec c s = .next (readCommand leading quad clocks n reply s) := by
    simp only [List.mem_cons, List.not_mem_nil, or_false, Prod.mk.injEq] at hc
    obtain ⟨rfl, rfl, rfl⟩ | ⟨rfl, rfl, rfl⟩ | ⟨rfl, rfl, rfl⟩ := hc
    · exact ⟨false, rfl, by decide, rfl⟩
    · exact ⟨false, rfl, by decide, rfl⟩
    · exact ⟨true, rfl, by decide, rfl⟩
  obtain ⟨quad, rfl, hl, hexec⟩ := hcommand
  have hunreadable : ∀ j, (∀ p, ¬ readableAt j p) →
      readAt s (openedTxn leading (dataOutLines mode quad) clocks s) (address j) = none := fun j hj => by
    cases hat : readAt s (openedTxn leading (dataOutLines mode quad) clocks s) (address j) with
    | none => rfl
    | some ep => exact absurd (readAt_opened.2 ⟨ep.1, hat⟩) (hj ep.2)
  refine ⟨fun hnone => ⟨_, hexec, ?_⟩, ?_⟩
  · obtain ⟨d, heq⟩ := readCommand_unreadable (quad := quad) (n := n) (reply := reply) hl hfree hwhole ho
      fun j hj => hunreadable j fun p => hnone j p hj
    rw [heq]
    exact ⟨rfl, ho, rfl, rfl, rfl, rfl, rfl, rfl, rfl⟩
  · intro i p undecided last hi hread hskip ha ended final asked resets
    obtain ⟨e, hat⟩ := readAt_opened.1 hread
    obtain ⟨hmet, hreset⟩ := readCommand_met (quad := quad) hl hfree hwhole ho hphase ha hi
      (fun j hj => hunreadable j fun q => hskip j q hj) hat k reply'
    refine ⟨fun hr => ?_, fun hr => ?_⟩
    · have hm := hmet hr
      refine ⟨_, _, hexec, rfl, hm.txn, hm.run, hm.sent, hm.length, hm.resumes, fun he j hj => ?_, hm.complete, hm.steps⟩
      rw [hm.finished he j hj]
      exact txnByte_live (s := { s with flash := s.flash.finish o })
        (x := openedTxn leading (dataOutLines mode quad) clocks s) _ rfl rfl
    · have hm := hreset hr
      exact ⟨_, hexec, hm.sent, hm.out, hm.run, hm.op, hm.writeRecord, hm.flash⟩

end Sys2Proof.Reads
end

section
/-! PROOFS. Part resets, the preparation of the flash, and the restart (R65 to R67, R106, R149, R150, R200). -/

namespace Sys2Proof.Machine

/-! ### The resets (R66, R106) -/

theorem exec_powerOn (s : State) :
    exec .powerOn s = .next (if s.rstLow then hardReset s else beginResetWork (hardReset s)) := by
  show Host.Outcome.next (if (hardReset s).rstLow then _ else _) = _
  rw [(hardReset_frame s).1]

theorem exec_pinReset (s : State) : exec .pinReset s = .next { hardReset s with rstLow := true } := rfl

theorem exec_rstNRelease (s : State) :
    exec .rstNRelease s =
      .next (if s.rstLow then beginResetWork { freshPort s with rstLow := false } else freshPort s) := rfl

theorem hardReset_blocks (s : State) : blocksReset (hardReset s) = true := by
  simp [blocksReset, hardReset, partReset]

theorem hardReset_works (s : State) :
    (hardReset s).fp = .afterReset ∧ (hardReset s).writes = ⟨none, none⟩ ∧ (hardReset s).mc = .afterReset :=
  ⟨rfl, rfl, rfl⟩

/-- R66: a hard reset changes only bytes that a command in the flash has in hand. -/
theorem hardReset_flashRead {s : State} {p : Nat}
    (h : ∀ o, s.fp.op = some o → o.phase ≠ .queued → inHand o p = false) :
    (hardReset s).flash.read p = s.flash.read p := by
  have hflash : (hardReset s).flash = (abandonOperation (interruptWrite s)).flash := rfl
  have hop : (interruptWrite s).fp.op = s.fp.op := by simp
  have hsame : (interruptWrite s).flash = s.flash := by simp
  rw [hflash, ← hsame]
  unfold abandonOperation
  split
  · rfl
  · next o ho =>
    split
    · rfl
    · next hq => exact FlashMove.read (.inr (.inr ⟨_, rfl⟩)) (h o (hop ▸ ho) hq)

theorem beginResetWork_plain {s : State} (h : s.store.failures ≠ 8) :
    beginResetWork s = { s with fp.prep := .recovery, fp.sent := s.fp.sent ++ [.resetEnable, .reset] } := if_neg h

theorem beginResetWork_locked {s : State} (h : s.store.failures = 8) :
    beginResetWork s =
      { s with
        writes := ⟨some ⟨.partReset, .lockoutLowering⟩, none⟩
        fp.prep := .afterWrite
        mc.state := .working .resetWrite } := if_pos h

/-! ### The preparation (R65, R98) -/

theorem exec_recoveryEnd {s : State} (hp : s.fp.prep = .recovery) (hd : restartDue s = false) :
    exec .flashResetRecoveryEnd s =
      .next { s with fp.prep := .identifying, fp.sent := [.readIdentification] } := by
  show Host.Outcome.next (unlessRestartDue flashResetRecoveryEnd (freshPort s)) = _
  rw [unlessRestartDue_notDue _ (by exact hd), flashResetRecoveryEnd, if_pos (by exact hp)]
  rfl

theorem unlessRestartDue_same {event : State → State} {s : State} (h : event s = s) : unlessRestartDue event s = s := by
  unfold unlessRestartDue
  rw [h, ite_self]

theorem exec_recoveryEnd_undue {s : State} (hp : s.fp.prep ≠ .recovery) :
    exec .flashResetRecoveryEnd s = .next { s with fp.sent := [] } :=
  congrArg Host.Outcome.next (unlessRestartDue_same (s := freshPort s) (if_neg hp))

theorem exec_capture_undue {s : State} (mf ty : Byte) (hp : s.fp.prep ≠ .identifying) :
    exec (.downstreamIdCapture mf ty) s = .next { s with fp.sent := [] } :=
  congrArg Host.Outcome.next (unlessRestartDue_same (s := freshPort s) (if_neg hp))

/-- R42, R65: the state in which the boot path begins. -/
def identified (mf ty : Byte) (s : State) : State :=
  { s with
    bp.idManufacturer := if s.flash.present then mf else 0xFF
    bp.idType := if s.flash.present then ty else 0xFF
    fp.prep := .ready
    fp.sent := [] }

theorem exec_capture {s : State} (mf ty : Byte) (hp : s.fp.prep = .identifying) (hd : restartDue s = false) :
    exec (.downstreamIdCapture mf ty) s = .next (settle (beginBoot (identified mf ty s))) := by
  show Host.Outcome.next (unlessRestartDue (downstreamIdCapture mf ty) (freshPort s)) = _
  rw [unlessRestartDue_notDue _ (by exact hd), downstreamIdCapture, if_pos (by exact hp)]
  rfl

theorem beginBoot_blank {s : State} (h : s.store.lifecycle = .blank) :
    beginBoot s = release .afterReset (installTable identityTable .a s) := by
  unfold beginBoot
  rw [h]

theorem beginBoot_scans {s : State} (h : s.store.lifecycle ≠ .blank) : beginBoot s = bootFirstStep s := by
  unfold beginBoot
  split
  · next hb => exact absurd hb h
  · rfl

/-! ### The restart (R67, R149, R200) -/

theorem restartDue_iff {s : State} :
    restartDue s = true ↔ (∃ v, s.mc.state = .working (.restart v)) ∧ s.fp.op = none ∧ s.writes.current = none := by
  unfold restartDue
  split
  · next v hv => simp [hv]
  · next hno =>
    simp only [Bool.false_eq_true, false_iff, not_and]
    exact fun ⟨v, hv⟩ => absurd hv (hno v)

theorem exec_restartReset {s : State} {v : Option Word32} (hv : s.mc.state = .working (.restart v))
    (ho : s.fp.op = none) (hw : s.writes.current = none) :
    exec .restartReset s = .next (restartWork v (partReset (freshPort s))) := by
  have hdue : restartDue (freshPort s) = true := restartDue_iff.2 ⟨⟨v, hv⟩, ho, hw⟩
  have hv' : (freshPort s).mc.state = .working (.restart v) := hv
  show Host.Outcome.next (restartReset (freshPort s)) = _
  unfold restartReset
  rw [hv']
  dsimp only
  rw [if_pos hdue]

theorem exec_restartReset_undue {s : State} (h : restartDue s = false) :
    exec .restartReset s = .next { s with fp.sent := [] } := by
  show Host.Outcome.next (restartReset (freshPort s)) = .next (freshPort s)
  unfold restartReset
  split
  · rw [show restartDue (freshPort s) = restartDue s from rfl, h, if_neg Bool.false_ne_true]
  · rfl

/-- R67, log 6: the events of the old state that a due restart comes before. -/
theorem exec_due {s : State} {c : Instr} (h : restartDue s = true)
    (hc : c ∈ [Instr.flashResetRecoveryEnd, .writeVerdict, .operationCompletion, .operationTimeout, .chunkDelivery,
      .chunkEnd, .signatureCompletion, .storeWriteEnd] ∨ ∃ mf ty, c = .downstreamIdCapture mf ty) :
    exec c s = .next { s with fp.sent := [] } := by
  have hevent : ∀ event : State → State,
      (Host.Outcome.next (unlessRestartDue event (freshPort s)) : Result) = .next { s with fp.sent := [] } :=
    fun event => congrArg Host.Outcome.next (unlessRestartDue_due event (s := freshPort s) h)
  obtain ⟨-, ho, hw⟩ := restartDue_iff.1 h
  obtain hc | ⟨mf, ty, rfl⟩ := hc
  · simp only [List.mem_cons, List.not_mem_nil, or_false] at hc
    obtain rfl | rfl | rfl | rfl | rfl | rfl | rfl | rfl := hc
    · exact hevent _
    · exact hevent _
    · exact exec_completion_none (restartDue_notRunning h)
    · exact exec_timeout_none (restartDue_notRunning h)
    · exact hevent _
    · exact hevent _
    · exact hevent _
    · show Host.Outcome.next (storeWriteEnd (freshPort s)) = _
      unfold storeWriteEnd
      rw [show (freshPort s).writes.current = none from hw]
      rfl
  · exact hevent _

end Sys2Proof.Machine

namespace Sys2Proof.Boot

open Sys2Proof Sys2Proof.Machine

/-- Settles O21: what the reset of every block leaves, and then the work of each of the two resets. -/
theorem powerOnAndPinReset : Obligations.PowerOnAndPinReset := by
  intro s
  obtain ⟨hrst, hclock, hpending⟩ := hardReset_frame s
  refine ⟨⟨_, exec_powerOn s, ?_⟩, _, exec_pinReset s, hardReset_blocks s, rfl, hclock, hpending, hardReset_store s,
    fun p hp => hardReset_flashRead hp, hardReset_works s⟩
  cases hlow : s.rstLow with
  | true =>
    rw [if_pos rfl]
    exact ⟨hardReset_blocks s, hrst.trans hlow, hclock, hpending, hardReset_store s, fun p hp => hardReset_flashRead hp,
      fun _ => hardReset_works s, nofun, nofun⟩
  | false =>
    rw [if_neg Bool.false_ne_true]
    by_cases hf : (hardReset s).store.failures = 8
    · rw [beginResetWork_locked hf]
      exact ⟨hardReset_blocks s, hrst.trans hlow, hclock, hpending, hardReset_store s, fun p hp => hardReset_flashRead hp,
        nofun, fun _ hne => absurd hf hne, fun _ _ => ⟨rfl, rfl, rfl⟩⟩
    · rw [beginResetWork_plain hf]
      exact ⟨hardReset_blocks s, hrst.trans hlow, hclock, hpending, hardReset_store s, fun p hp => hardReset_flashRead hp,
        nofun, fun _ _ => ⟨rfl, rfl, rfl⟩, fun _ heq => absurd heq hf⟩

/-- Settles O22: each event of the preparation where it is due, and where it is not. -/
theorem preparationAndBlankRelease : Obligations.PreparationAndBlankRelease := by
  intro s
  refine ⟨fun hlow hf => ?_, fun hlow hf => ?_, fun hlow => ?_, exec_recoveryEnd, exec_recoveryEnd_undue,
    fun hp mf ty => exec_capture_undue mf ty hp, fun hp hb he hi hd mf ty => ?_⟩
  · rw [exec_rstNRelease, hlow, if_pos rfl, beginResetWork_plain (by exact hf)]
    rfl
  · rw [exec_rstNRelease, hlow, if_pos rfl, beginResetWork_locked (by exact hf)]
    rfl
  · rw [exec_rstNRelease, if_neg (by simp [hlow])]
    rfl
  · obtain ⟨hds, hdc, -, hss, hsc⟩ := enginesFree_iff.1 he
    obtain ⟨hop, hchunk⟩ := flashIdle_iff.1 hi
    rw [exec_capture mf ty hp hd, beginBoot_blank (by exact hb),
      settle_quiet (by exact hop) (by exact hds) (by exact hdc) (by exact hss) (by exact hsc) (by exact hchunk)]
    rfl

/-- Settles O23: the taking of RESTART, the reset it waits for, and the events that a due restart comes before. -/
theorem restartMadeWhenNothingRuns : Obligations.RestartMadeWhenNothingRuns := by
  intro s
  refine ⟨fun proof hs h => ?_, fun proof body hs h hne hb => length_refused hs h hb (by simpa using hne), fun hv ho hw => ?_,
    fun v hv ho hw => ?_, fun hno => ?_, fun c hd hc => exec_due hd hc, restartDue_iff, fun v hv => ⟨fun w ho hw => ?_,
    fun o ho hp hlast hf hw => ?_⟩⟩
  · refine requestCommand_next hs h (Nat.zero_le _) ?_
    rw [takeRestart, withLength_ok (n := 0) (requestBody_accepted h) rfl]
    rfl
  · rw [exec_restartReset hv ho hw]
    rfl
  · rw [exec_restartReset hv ho hw]
    rfl
  · refine exec_restartReset_undue (Bool.eq_false_iff.2 fun hd => ?_)
    obtain ⟨⟨v, hv⟩, ho, hw⟩ := restartDue_iff.1 hd
    obtain h | h | h := hno
    · exact h v hv
    · exact h ho
    · exact h hw
  · exact storeWriteEnd_due w.requester w.contents hw ho ⟨v, hv⟩
  · rw [exec_completion_fitted ho hp hf, endCommand_complete _ hlast, settle_due]
    · rfl
    · exact restartDue_iff.2 ⟨⟨v, hv⟩, rfl, hw⟩

end Sys2Proof.Boot
end

section
/-! PROOFS. The boot scan's first step (R92, R98, R99), and what follows a step that leaves one item of scan work. -/

namespace Sys2Proof.Machine

/-! ### One item of scan work in a free part (R62, R72, R148) -/

theorem flashHeld_free {s : State} (h : busFree s = true) : flashHeld s = false := by
  obtain ⟨-, hr, -⟩ := busFree_iff.1 h
  unfold flashHeld
  rw [hr]
  rfl

/-- R62: with no other work a WAITING chunk request starts its read. -/
theorem settle_chunkWaits {s : State} {c : ChunkRequest} (ho : s.fp.op = none) (he : enginesFree s = true)
    (hk : s.fp.chunk = some c) (hw : c.reading = false) (hh : flashHeld s = false) (hd : restartDue s = false) :
    settle s = { s with fp.chunk := some { c with reading := true }, fp.sent := s.fp.sent ++ [.read c.address] } := by
  obtain ⟨hs, hc, -, hv, hg⟩ := enginesFree_iff.1 he
  rw [settle_notDue hd, startOperation_none ho, startAbsorption_empty hs hc, startSignature_empty hv hg]
  unfold startChunkRead
  rw [hk]
  simp [hw, ho, hh, send]

/-- R72: the engine, free but for a BUFFER item in the scan place, absorbs that item. -/
theorem settle_scanBuffer {s : State} {i : DigestItem} (ho : s.fp.op = none) (hi : s.de.scan = some i)
    (hb : i.kind = .buffer) (hc : s.de.channel = none) (ha : s.de.absorbing = none) (hv : s.su.scan = none)
    (hg : s.su.channel = none) (hk : s.fp.chunk = none) (hd : restartDue s = false) :
    settle s = { s with de.absorbing := some .scan } := by
  have habs : startAbsorption s = { s with de.absorbing := some .scan } := by
    simp [startAbsorption, chooseWork, hi, hb, hc, ha]
  rw [settle_notDue hd, startOperation_none ho, habs,
    startSignature_empty (s := { s with de.absorbing := some .scan }) hv hg,
    startChunkRead_none (s := { s with de.absorbing := some .scan }) hk]

/-! ### The steps of the boot scan -/

/-- R92, R99: a boot scan begins in a free part. -/
theorem settle_startBootScan {s : State} {m : SlotMap} (x : Slot) (fallback : Bool) (hm : s.store.slotMap = some m)
    (ho : s.fp.op = none) (he : enginesFree s = true) (hh : flashHeld s = false)
    (hr : ∀ f, s.mc.state ≠ .working (.restart f)) (hsent : s.fp.sent = []) :
    settle (startBootScan x fallback s) = bootScanBegun m x fallback s := by
  have hstart : slotStart s x = m.slotStart x := by
    unfold slotStart
    rw [hm]
    rfl
  have hsettle := settle_chunkWaits (s := startBootScan x fallback s)
    (c := ⟨.bootScan, slotStart s x, 544, false⟩) (by exact ho) (by exact he) rfl rfl (by exact hh)
    (restartDue_none (by exact hr))
  rw [hsettle]
  unfold startBootScan startScan placeChunkRequest bootScanBegun
  dsimp only
  rw [hsent, hstart]
  rfl

theorem slotRecordOf_some {s : State} {r : SlotRecord} (h : s.store.slotRecord = some r) : slotRecordOf s = r := by
  rw [slotRecordOf, h]
  rfl

/-- R98, R99: what the boot scan notes before its first step. -/
def bootNoted (s : State) : State :=
  { s with isc.bootX := (slotRecordOf s).active, isc.bootFallback := false, isc.bootXTrial := false }

section FirstStep

variable {s : State} {x : Slot} (hx : (slotRecordOf s).active = x)
include hx

theorem bootFirstStep_attempt {n : Nat} (ht : (slotRecordOf s).stateOf x = .trial (n + 1)) :
    bootFirstStep s =
      askWrite .slotController (.slotRecord ((slotRecordOf s).withState x (.trial n)))
        { bootNoted s with isc.bootXTrial := true, isc.stage := .attemptWrite } := by
  subst hx
  unfold bootFirstStep
  dsimp only
  rw [ht]
  rfl

theorem bootFirstStep_revert (ht : (slotRecordOf s).stateOf x = .trial 0)
    (hf : (slotRecordOf s).stateOf x.other = .fallback) :
    bootFirstStep s =
      askWrite .slotController (.slotRecord (revertRecord (slotRecordOf s) x))
        { bootNoted s with isc.bootXTrial := true, isc.stage := .revertWrite } := by
  subst hx
  unfold bootFirstStep
  dsimp only
  rw [ht]
  dsimp only
  rw [if_pos rfl, if_pos hf]
  rfl

theorem bootFirstStep_exhausted (ht : (slotRecordOf s).stateOf x = .trial 0)
    (hf : (slotRecordOf s).stateOf x.other ≠ .fallback) :
    bootFirstStep s =
      askWrite .slotController (.slotRecord ((slotRecordOf s).withState x .failed))
        { bootNoted s with isc.bootXTrial := true, isc.stage := .exhaustedWrite } := by
  subst hx
  unfold bootFirstStep
  dsimp only
  rw [ht]
  dsimp only
  rw [if_pos rfl, if_neg hf]
  rfl

theorem bootFirstStep_scan (ht : isTrial ((slotRecordOf s).stateOf x) = false) :
    bootFirstStep s = startBootScan x false (bootNoted s) := by
  subst hx
  unfold bootFirstStep
  dsimp only
  split
  · next n hn =>
    rw [hn] at ht
    cases ht
  · rfl

end FirstStep

end Sys2Proof.Machine

namespace Sys2Proof.Boot

open Sys2Proof Sys2Proof.Machine

/-- Settles O24: the branches of the first step, each with the one thing it starts. -/
theorem bootScanFirstStep : Obligations.BootScanFirstStep := by
  intro s r m mf ty hp hl hrec hm he hi hw hb hidle x y named
  obtain ⟨hds, hdc, hda, hss, hsc⟩ := enginesFree_iff.1 he
  obtain ⟨hop, hchunk⟩ := flashIdle_iff.1 hi
  obtain ⟨hcurrent, -⟩ := storeFree_iff.1 hw
  have hrestart : ∀ f, s.mc.state ≠ .working (.restart f) := by
    rw [hidle]
    exact nofun
  have hr : slotRecordOf (identified mf ty s) = r := slotRecordOf_some hrec
  have hx : (slotRecordOf (identified mf ty s)).active = x := congrArg SlotRecord.active hr
  have hexec : exec (.downstreamIdCapture mf ty) s = .next (settle (bootFirstStep (identified mf ty s))) := by
    rw [exec_capture mf ty hp (restartDue_none hrestart), beginBoot_scans (by exact hl)]
  have hnamed : bootNoted (identified mf ty s) = named := by
    unfold bootNoted
    rw [hx]
    rfl
  have hwrites : ∀ (b : Bool) (stage : BootStage) (w : StoreWrite),
      settle (askWrite .slotController w { named with isc.bootXTrial := b, isc.stage := stage }) =
        { named with isc.bootXTrial := b, isc.stage := stage, writes.current := some ⟨.slotController, w⟩ } :=
    fun b stage w => by
      rw [askWrite_free _ _ (by exact hcurrent)]
      exact settle_quiet hop hds hdc hss hsc hchunk
  rw [hexec]
  refine ⟨fun n ht => ?_, fun ht hf => ?_, fun ht hf => ?_, fun ht => ?_⟩
  · rw [bootFirstStep_attempt hx (by rw [hr]; exact ht), hr, hnamed, hwrites]
  · rw [bootFirstStep_revert hx (by rw [hr]; exact ht) (by rw [hr]; exact hf), hr, hnamed, hwrites]
    rfl
  · rw [bootFirstStep_exhausted hx (by rw [hr]; exact ht) (by rw [hr]; exact hf), hr, hnamed, hwrites]
  · rw [bootFirstStep_scan hx (by rw [hr]; exact ht), hnamed, settle_startBootScan x false (m := m) (by exact hm)
      (by exact hop) (by exact he) (flashHeld_free (s := named) (by exact hb)) (by exact hrestart) rfl]
    rfl

end Sys2Proof.Boot
end

section
/-! PROOFS. What follows each end of the boot scan's work (R99 to R104, R130, R131, R133, R150). -/

namespace Sys2Proof.Machine

/-! ### Extends of the boot scan (R130, R131, R133) -/

theorem notifyExtend_none (k : Nat) {s : State} (hc : s.cred = none) (hr : s.mc.response = none) :
    notifyExtend k s = s := by
  unfold notifyExtend
  dsimp only
  rw [hc, hr, Option.map_none, Option.any_none, if_neg Bool.false_ne_true, ← hc]

theorem modify_eq_set {l : List Lane} {k : Nat} (f : Lane → Lane) (hk : k < l.length) :
    l.modify k f = l.set k (f (l.getD k .afterReset)) := by
  rw [List.modify_eq_set_getElem? f k l, List.getD_eq_getElem _ _ hk, List.getElem?_eq_getElem hk]
  rfl

/-- The lane `k` while its extend is in progress. -/
def extendingLane (k : Nat) (record : LogRecord) (s : State) : List Lane :=
  s.lanes.set k { laneAt s k with extending := some ⟨(laneAt s k).value, record⟩ }

theorem beginExtend_free {s : State} {k : Nat} (record : LogRecord) (hk : k < s.lanes.length)
    (hlog : (laneAt s k).log.length < 16) (hc : s.cred = none) (hr : s.mc.response = none) :
    beginExtend k record s = some { s with lanes := extendingLane k record s } := by
  unfold beginExtend
  rw [if_neg (by omega), modify_eq_set _ hk]
  exact congrArg some (notifyExtend_none k (s := { s with lanes := extendingLane k record s }) hc hr)

theorem foldInput_extending {s : State} {k : Nat} (record : LogRecord) (hk : k < s.lanes.length) :
    foldInput { s with lanes := extendingLane k record s } k = (laneAt s k).value ++ record.digest := by
  have hlane : laneAt { s with lanes := extendingLane k record s } k =
      { laneAt s k with extending := some ⟨(laneAt s k).value, record⟩ } := by
    show (extendingLane k record s).getD k .afterReset = _
    unfold extendingLane
    rw [List.getD_eq_getElem _ _ (by simpa using hk), List.getElem_set_self]
  unfold foldInput
  rw [hlane]
  rfl

section Extend

variable {s : State} {k : Nat} (record : LogRecord) (stage : BootStage) (hk : k < s.lanes.length)
  (hlog : (laneAt s k).log.length < 16) (hc : s.cred = none) (hr : s.mc.response = none)
include hk hlog hc hr

theorem bootExtend_free :
    bootExtend k record stage s =
      some { s with
        lanes := extendingLane k record s
        isc.stage := stage
        de.scan := some (bufferItem .bootExtend ((laneAt s k).value ++ record.digest))
        de.scanFirst := s.de.channel.isNone
        de.owed := false } := by
  unfold bootExtend
  rw [beginExtend_free record hk hlog hc hr, Option.map_some, foldInput_extending record hk]
  rfl

/-- R130, R133: an extend of the boot scan begins in a free part. -/
theorem bootExtend_settles (hop : s.fp.op = none) (hdc : s.de.channel = none) (hda : s.de.absorbing = none)
    (hss : s.su.scan = none) (hsc : s.su.channel = none) (hchunk : s.fp.chunk = none)
    (hd : ∀ f, s.mc.state ≠ .working (.restart f)) :
    (bootExtend k record stage s).map settle = some (foldBegun k record stage s) := by
  rw [bootExtend_free record stage hk hlog hc hr, Option.map_some,
    settle_scanBuffer (i := bufferItem .bootExtend ((laneAt s k).value ++ record.digest)) (by exact hop) rfl rfl
      (by exact hdc) (by exact hda) (by exact hss) (by exact hsc) (by exact hchunk) (restartDue_none (by exact hd)), hdc]
  rfl

end Extend

/-- R131: a fold becomes the lane's value, and its record the newest of the log. -/
theorem completeExtend_some {s : State} {k : Nat} {x : PendingExtend} (digest : Bytes) (hk : k < s.lanes.length)
    (hx : (laneAt s k).extending = some x) :
    completeExtend k digest s = { s with lanes := s.lanes.set k ⟨digest, (laneAt s k).log ++ [x.record], none⟩ } := by
  unfold completeExtend
  rw [modify_eq_set _ hk]
  unfold laneAt at hx ⊢
  simp only [hx]

/-! ### The measured segments (R100) -/

theorem range_drop (n k : Nat) : (List.range n).drop k = List.range' k (n - k) := by
  rw [List.range_eq_range', List.drop_range', Nat.mul_one, Nat.zero_add]

theorem extendSegments_unmeasured {s : State} {l : List Nat}
    (h : ∀ j ∈ l, (manifestSegment (scanManifest s) j).measuredLane = none) : extendSegments l s = finishPass s := by
  induction l with
  | nil => rfl
  | cons j rest ih =>
    obtain ⟨hj, hrest⟩ := List.forall_mem_cons.1 h
    rw [extendSegments, hj]
    exact ih hrest

theorem extendSegments_skip {s : State} {l : List Nat} (rest : List Nat)
    (h : ∀ j ∈ l, (manifestSegment (scanManifest s) j).measuredLane = none) :
    extendSegments (l ++ rest) s = extendSegments rest s := by
  induction l with
  | nil => rfl
  | cons j l ih =>
    obtain ⟨hj, hl⟩ := List.forall_mem_cons.1 h
    rw [List.cons_append, extendSegments, hj]
    exact ih hl

/-- R100: the segment `i` is the first measured one from `k` on. -/
theorem extendFrom_first {s u : State} {k i lane : Nat} (hki : k ≤ i) (hi : i < manifestSegmentCount (scanManifest s))
    (hnone : ∀ j, k ≤ j → j < i → (manifestSegment (scanManifest s) j).measuredLane = none)
    (hlane : (manifestSegment (scanManifest s) i).measuredLane = some lane)
    (hu : bootExtend lane ⟨s.isc.scan.segmentDigests.getD i [], .scanSegment, BitVec.ofNat 32 i⟩ (.segmentFold i) s =
      some u) : extendFrom k s = u := by
  obtain ⟨d, rfl⟩ := Nat.exists_eq_add_of_le hki
  obtain ⟨e, he⟩ := Nat.exists_eq_add_of_lt hi
  have hsplit : (List.range (manifestSegmentCount (scanManifest s))).drop k =
      List.range' k d ++ (k + d) :: List.range' (k + d + 1) e := by
    rw [range_drop, show manifestSegmentCount (scanManifest s) - k = d + (e + 1) by omega,
      ← List.range'_append_1, List.range'_succ]
  unfold extendFrom
  rw [hsplit, extendSegments_skip _ fun j hj => hnone j (List.mem_range'_1.1 hj).1 (List.mem_range'_1.1 hj).2,
    extendSegments, hlane]
  dsimp only
  rw [hu]

theorem extendFrom_unmeasured {s : State} {k : Nat}
    (hnone : ∀ j, k ≤ j → j < manifestSegmentCount (scanManifest s) →
      (manifestSegment (scanManifest s) j).measuredLane = none) : extendFrom k s = finishPass s := by
  unfold extendFrom
  rw [range_drop]
  refine extendSegments_unmeasured fun j hj => ?_
  obtain ⟨h1, h2⟩ := List.mem_range'_1.1 hj
  exact hnone j h1 (by omega)

theorem finishPass_eq {s : State} {manifest : Bytes} (h : s.isc.scan.manifest = some manifest) :
    finishPass s = passReleased manifest s := by
  have hm : scanManifest s = manifest := by
    unfold scanManifest
    rw [h]
    rfl
  unfold finishPass passReleased release
  rw [hm]
  cases hf : s.isc.bootFallback with
  | true => simp [installTable, setBootNotice]
  | false => simp [installTable]

/-- R68, R72, R100: the part between two pieces of the boot scan's work: nothing waits in it, no restart is in hand, and no
response or credential stands. -/
structure BootFree (s : State) : Prop where
  op : s.fp.op = none
  engines : enginesFree s = true
  chunk : s.fp.chunk = none
  held : flashHeld s = false
  idle : ∀ f, s.mc.state ≠ .working (.restart f)
  sent : s.fp.sent = []

section Free

variable {s : State} (h : BootFree s)
include h

theorem BootFree.begins {m : SlotMap} (x : Slot) (fallback : Bool) (hm : s.store.slotMap = some m) :
    settle (startBootScan x fallback s) = bootScanBegun m x fallback s :=
  settle_startBootScan x fallback hm h.op h.engines h.held h.idle h.sent

theorem BootFree.writes (stage : BootStage) (w : StoreWrite) (hw : s.writes.current = none) :
    settle (askWrite .slotController w { s with isc.stage := stage }) =
      { s with isc.stage := stage, writes.current := some ⟨.slotController, w⟩ } := by
  obtain ⟨hds, hdc, -, hss, hsc⟩ := enginesFree_iff.1 h.engines
  rw [askWrite_free _ _ (by exact hw)]
  exact settle_quiet h.op hds hdc hss hsc h.chunk

theorem BootFree.recovers {m : SlotMap} {r : SlotRecord} (hr : s.store.slotRecord = some r) (hm : s.store.slotMap = some m) :
    settle (enterRecovery s) = recoveryEntered m r.active s := by
  have heq : enterRecovery s = recoveryEntered m r.active s := by
    unfold enterRecovery
    rw [slotRecordOf_some hr, hm]
    rfl
  obtain ⟨hds, hdc, -, hss, hsc⟩ := enginesFree_iff.1 h.engines
  rw [heq]
  exact settle_quiet h.op hds hdc hss hsc h.chunk

theorem BootFree.extends {k : Nat} (record : LogRecord) (stage : BootStage) (hk : k < s.lanes.length)
    (hlog : (laneAt s k).log.length < 16) (hc : s.cred = none) (hr : s.mc.response = none) :
    ∃ u, bootExtend k record stage s = some u ∧ settle u = foldBegun k record stage s := by
  obtain ⟨hds, hdc, hda, hss, hsc⟩ := enginesFree_iff.1 h.engines
  exact Option.map_eq_some_iff.1
    (bootExtend_settles record stage hk hlog hc hr h.op hdc hda hss hsc h.chunk h.idle)

/-- R100 steps 2 to 4, from segment `k` on. -/
theorem BootFree.measures {manifest : Bytes} (k : Nat) (hm : s.isc.scan.manifest = some manifest)
    (hlanes : s.lanes.length = 8) (hc : s.cred = none) (hr : s.mc.response = none) :
    measuredFrom manifest k s (settle (extendFrom k s)) := by
  have hscan : scanManifest s = manifest := by
    unfold scanManifest
    rw [hm]
    rfl
  refine ⟨fun hnone => ?_, fun i l hki hi hl hnone hlog => ?_⟩
  · obtain ⟨hds, hdc, -, hss, hsc⟩ := enginesFree_iff.1 h.engines
    rw [extendFrom_unmeasured (by rw [hscan]; exact hnone), finishPass_eq hm]
    exact settle_quiet h.op hds hdc hss hsc h.chunk
  · have hlt := measuredLane_lt hl
    obtain ⟨u, hu, hset⟩ := h.extends ⟨s.isc.scan.segmentDigests.getD i [], .scanSegment, BitVec.ofNat 32 i⟩
      (.segmentFold i) (k := l) (by omega) hlog hc hr
    rw [extendFrom_first hki (by rw [hscan]; exact hi) (by rw [hscan]; exact hnone) (by rw [hscan]; exact hl) hu, hset]

end Free

/-! ### The ends of the boot scan's writes and digests -/

theorem exec_slotWriteEnd {s : State} {who : Requester} {w : StoreWrite} (hw : s.writes = ⟨some ⟨who, w⟩, none⟩)
    (hd : ∀ f, s.mc.state ≠ .working (.restart f)) :
    exec .storeWriteEnd s =
      .next (settle (writeEnded who { s with store := s.store.apply w, writes.current := none, fp.sent := [] })) := by
  rw [storeWriteEnd_alone who w (by rw [hw]) (by rw [hw]) hd]
  congr 4
  rw [hw]

/-- R70, R72, R74: the CHUNK_END of a scan item of one chunk. -/
theorem chunkEnd_scan {s : State} (work : DigestWork) (input : Bytes) (h1 : 0 < input.length) (h2 : input.length ≤ 256)
    (hi : s.de.scan = some (bufferItem work input)) (ha : s.de.absorbing = some .scan) (hd : restartDue s = false) :
    exec .chunkEnd s =
      .next (settle (scanDigest work (sha256 input)
        { s with de.scan := none, de.absorbing := none, de.owed := false, fp.sent := [] })) := by
  obtain ⟨hl, hdigest⟩ := bufferItem_digest work input h1 h2
  have hend : chunkEnd (freshPort s) = settle (scanChunkEnd (bufferItem work input) (freshPort s)) := by
    unfold chunkEnd
    rw [show (freshPort s).de.absorbing = some .scan from ha, show (freshPort s).de.scan = some _ from hi]
  show Host.Outcome.next (unlessRestartDue chunkEnd (freshPort s)) = _
  rw [unlessRestartDue_notDue chunkEnd (by exact hd), hend]
  unfold scanChunkEnd
  dsimp only
  rw [hl, if_pos rfl, hdigest]
  rfl

/-! ### The step after each stage (R99 to R104) -/

section Stages

variable {s : State}

theorem bootWriteEnded_attempt (h : s.isc.stage = .attemptWrite) :
    bootWriteEnded s = startBootScan s.isc.bootX false s := by
  unfold bootWriteEnded
  rw [h]

theorem bootWriteEnded_revert (h : s.isc.stage = .revertWrite) :
    bootWriteEnded s =
      placeScanItem (bufferItem .trialRevertEvent [slotCode s.isc.bootX, slotCode s.isc.bootX.other])
        { s with isc.stage := .revertDigest } := by
  unfold bootWriteEnded
  rw [h]

theorem bootWriteEnded_failed (h : s.isc.stage = .exhaustedWrite ∨ s.isc.stage = .failedWrite) :
    bootWriteEnded s = enterRecovery s := by
  unfold bootWriteEnded
  obtain h | h := h <;> rw [h]

theorem bootWriteEnded_failureRevert (h : s.isc.stage = .failureRevertWrite) :
    bootWriteEnded s = startBootScan s.isc.bootX.other true s := by
  unfold bootWriteEnded
  rw [h]

theorem bootWriteEnded_pass (h : s.isc.stage = .passWrite) : bootWriteEnded s = extendFrom 0 s := by
  unfold bootWriteEnded
  rw [h]

theorem bootFolded_revert (digest : Bytes) (h : s.isc.stage = .revertFold) :
    bootFolded digest s = afterRevertRecord (completeExtend 0 digest s) := by
  unfold bootFolded
  rw [h]

theorem bootFolded_failure (digest : Bytes) (h : s.isc.stage = .failureFold) :
    bootFolded digest s = afterFailureRecord (completeExtend 0 digest s) := by
  unfold bootFolded
  rw [h]

theorem bootFolded_segment {j lane : Nat} {manifest : Bytes} (digest : Bytes) (h : s.isc.stage = .segmentFold j)
    (hm : s.isc.scan.manifest = some manifest) (hl : (manifestSegment manifest j).measuredLane = some lane) :
    bootFolded digest s = extendFrom (j + 1) (completeExtend lane digest s) := by
  have hscan : scanManifest s = manifest := by
    unfold scanManifest
    rw [hm]
    rfl
  unfold bootFolded
  rw [h]
  dsimp only
  rw [hscan, hl]

/-- R101: the slot whose boot scan failed is the TRIAL one, beside a FALLBACK. -/
def failureReverts (r : SlotRecord) (s : State) : Prop :=
  s.isc.scan.slot = s.isc.bootX ∧ s.isc.bootXTrial = true ∧ r.stateOf s.isc.scan.slot.other = .fallback

section AfterFailure

variable {r : SlotRecord} (hr : s.store.slotRecord = some r)
include hr

theorem afterFailureRecord_reverts (h : failureReverts r s) :
    afterFailureRecord s =
      askWrite .slotController (.slotRecord (revertRecord r s.isc.scan.slot))
        { s with isc.stage := .failureRevertWrite } := by
  obtain ⟨hx, ht, hf⟩ := h
  rw [hx] at hf
  unfold afterFailureRecord
  dsimp only
  rw [slotRecordOf_some hr, if_pos (by rw [hx, ht, hf]; simp), ← hx]

theorem afterFailureRecord_else (h : ¬ failureReverts r s) :
    afterFailureRecord s =
      if r.stateOf s.isc.scan.slot = .failed then enterRecovery s
      else
        askWrite .slotController (.slotRecord (r.withState s.isc.scan.slot .failed))
          { s with isc.stage := .failedWrite } := by
  unfold afterFailureRecord
  dsimp only
  rw [slotRecordOf_some hr, if_neg]
  intro hc
  simp only [Bool.and_eq_true, decide_eq_true_eq] at hc
  obtain ⟨⟨hx, ht⟩, hf⟩ := hc
  exact h ⟨hx, ht, by rw [hx]; exact hf⟩

end AfterFailure

end Stages

section Free

variable {s : State} (h : BootFree s) (hc : s.cred = none) (hr : s.mc.response = none) (hlanes : s.lanes.length = 8)
include h hc hr hlanes

theorem BootFree.failureDigested (digest : Bytes) {reason : ScanReason} {k : Nat}
    (hres : s.isc.scan.result = some (.failure reason k)) (hlog : (laneAt s 0).log.length < 16) :
    settle (failureDigested digest s) =
      foldBegun 0 ⟨digest, .scanFailure, BitVec.ofNat 32 ((scanReasonCode reason).toNat + 256 * k)⟩ .failureFold s := by
  obtain ⟨u, hu, hset⟩ := h.extends
    ⟨digest, .scanFailure, BitVec.ofNat 32 ((scanReasonCode reason).toNat + 256 * k)⟩ .failureFold (k := 0) (by omega)
    hlog hc hr
  unfold Machine.failureDigested
  rw [hres]
  unfold failureTag
  rw [hu, hset]

theorem BootFree.revertDigested (digest : Bytes) (hlog : (laneAt s 0).log.length < 16) :
    settle (revertDigested digest s) = foldBegun 0 ⟨digest, .trialRevert, 0x0B⟩ .revertFold s := by
  obtain ⟨u, hu, hset⟩ := h.extends ⟨digest, .trialRevert, 0x0B⟩ .revertFold (k := 0) (by omega) hlog hc hr
  have htag : BitVec.ofNat 32 (scanReasonCode .attemptsExhausted).toNat = 0x0B := by decide
  unfold Machine.revertDigested
  rw [htag, hu, hset]

end Free

end Sys2Proof.Machine

namespace Sys2Proof.Boot

open Sys2Proof Sys2Proof.Machine

/-- Settles O25: the ends of the writes, of the event digests and of the folds, each by the boot scan's stage. -/
theorem bootWritesEnd : Obligations.BootWritesEnd := by
  intro s m hb hi hdc hss hsc hwait hm hlanes
  obtain ⟨hop, hchunk⟩ := flashIdle_iff.1 hi
  have hheld := flashHeld_free hb
  refine ⟨fun w hds hda => ⟨fun r hw hidle hcur => ?_, fun hcur hstate => ?_⟩,
    fun r hcur hidle hcred hresp hrec habs => ?_, fun r => rfl, rfl, fun v => rfl⟩
  · subst hw
    intro written
    have hrestart : ∀ f, s.mc.state ≠ .working (.restart f) := by
      rw [hidle]
      exact nofun
    have hwrites : s.writes = ⟨some ⟨.slotController, .slotRecord r⟩, none⟩ := by
      rw [← hcur, ← hwait]
    have hexec : exec .storeWriteEnd s = .next (settle (bootWriteEnded written)) := exec_slotWriteEnd hwrites hrestart
    have hfree : BootFree written :=
      ⟨hop, enginesFree_iff.2 ⟨hds, hdc, hda, hss, hsc⟩, hchunk, hheld, hrestart, rfl⟩
    refine ⟨fun hst => ?_, fun hst => ?_, fun hst => ?_, fun hst => ?_, fun manifest hst hman hcred hresp => ?_⟩
    · rw [hexec, bootWriteEnded_attempt (by exact hst), hfree.begins _ _ (by exact hm)]
    · rw [hexec, bootWriteEnded_revert (by exact hst), settle_scanBuffer (by exact hop) rfl rfl (by exact hdc)
        (by exact hda) (by exact hss) (by exact hsc) (by exact hchunk) (restartDue_none (by exact hrestart))]
      simp only [placeScanItem, written, hdc]
      rfl
    · rw [hexec, bootWriteEnded_failed (by exact hst), hfree.recovers (r := r) rfl (by exact hm)]
    · rw [hexec, bootWriteEnded_failureRevert (by exact hst), hfree.begins _ _ (by exact hm)]
    · refine ⟨_, hexec, ?_⟩
      rw [bootWriteEnded_pass (by exact hst)]
      exact hfree.measures 0 hman hlanes hcred hresp
  · have hrestart : ∀ f, s.mc.state ≠ .working (.restart f) := by
      rw [hstate]
      exact nofun
    rw [exec_slotWriteEnd (by rw [← hcur, ← hwait]) hrestart]
    exact congrArg Host.Outcome.next (settle_quiet hop hds hdc hss hsc hchunk)
  · intro freed lane0
    have hrestart : ∀ f, s.mc.state ≠ .working (.restart f) := by
      rw [hidle]
      exact nofun
    have hexec : ∀ work input, 1 ≤ input.length → input.length ≤ 256 → s.de.scan = some (bufferItem work input) →
        exec .chunkEnd s = .next (settle (scanDigest work (sha256 input) freed)) :=
      fun work input h1 h2 hscan => chunkEnd_scan work input h1 h2 hscan habs (restartDue_none hrestart)
    have hfree : BootFree freed :=
      ⟨hop, enginesFree_iff.2 ⟨rfl, hdc, rfl, hss, hsc⟩, hchunk, hheld, hrestart, rfl⟩
    refine ⟨fun input reason k hst hscan h1 h2 hres hlog => ?_, fun input hst hscan h1 h2 hlog => ?_,
      fun k x hk hx hscan hlen => ?_⟩
    · rw [hexec _ input h1 h2 hscan]
      exact congrArg Host.Outcome.next (hfree.failureDigested hcred hresp hlanes (sha256 input) hres hlog)
    · rw [hexec _ input h1 h2 hscan]
      exact congrArg Host.Outcome.next (hfree.revertDigested hcred hresp hlanes (sha256 input) hlog)
    · intro lane folded y reverts
      have hdone : ∀ u : State, bootFolded (sha256 (x.oldValue ++ x.record.digest)) freed = u →
          exec .chunkEnd s = .next (settle u) := fun u hu => by
        rw [hexec _ _ (by rw [List.length_append]; omega) (by rw [List.length_append]; omega) hscan]
        exact congrArg (fun u => Host.Outcome.next (settle u)) hu
      have hfolded : completeExtend k (sha256 (x.oldValue ++ x.record.digest)) freed = folded :=
        completeExtend_some (s := freed) _ (by show k < s.lanes.length; omega) hx
      have hfoldedFree : BootFree folded := ⟨hfree.op, hfree.engines, hfree.chunk, hfree.held, hfree.idle, rfl⟩
      refine ⟨fun hst h0 => ?_, fun hst h0 hrev => ?_, fun hst h0 hrev hfail => ?_, fun hst h0 hrev hfail => ?_,
        fun j manifest hst hman hlane => ?_⟩
      · subst h0
        have hnext : bootFolded (sha256 (x.oldValue ++ x.record.digest)) freed =
            startBootScan folded.isc.bootX.other true folded := by
          rw [bootFolded_revert _ (by exact hst), hfolded, afterRevertRecord]
        rw [hdone _ hnext, hfoldedFree.begins _ _ (by exact hm)]
      · subst h0
        rw [hdone _ (by rw [bootFolded_failure _ (by exact hst), hfolded,
          afterFailureRecord_reverts (r := r) (by exact hrec) (by exact hrev)]),
          hfoldedFree.writes _ _ (by exact hcur)]
        rfl
      · subst h0
        rw [hdone _ (by rw [bootFolded_failure _ (by exact hst), hfolded,
          afterFailureRecord_else (r := r) (by exact hrec) (by exact hrev), if_pos (by exact hfail)]),
          hfoldedFree.recovers (r := r) (by exact hrec) (by exact hm)]
      · subst h0
        rw [hdone _ (by rw [bootFolded_failure _ (by exact hst), hfolded,
          afterFailureRecord_else (r := r) (by exact hrec) (by exact hrev), if_neg (by exact hfail)]),
          hfoldedFree.writes _ _ (by exact hcur)]
      · refine ⟨_, hdone _ rfl, ?_⟩
        rw [bootFolded_segment _ (by exact hst) (by exact hman) hlane, hfolded]
        exact hfoldedFree.measures (j + 1) hman (by simp [folded, hlanes]) hcred hresp

end Sys2Proof.Boot
end

section
/-! PROOFS. The staging requests (R109, R110, R116), and committing and confirming (R118, R119, R122, R123). -/

namespace Sys2Proof.Machine

/-! ### Work in a part where nothing else is in hand -/

theorem ready_atRest {s : State} (h : ready s = true) : atRest s := by
  obtain ⟨-, he, -, hi⟩ := ready_iff.1 h
  obtain ⟨hds, hdc, -, hss, hsc⟩ := enginesFree_iff.1 he
  obtain ⟨hop, hchunk⟩ := flashIdle_iff.1 hi
  exact ⟨hop, hds, hdc, hss, hsc, hchunk⟩

theorem writesOf_storeFree {s : State} (h : storeFree s = true) : s.writes = ⟨none, none⟩ := by
  obtain ⟨hc, hw⟩ := storeFree_iff.1 h
  calc s.writes = ⟨s.writes.current, s.writes.waiting⟩ := rfl
    _ = ⟨none, none⟩ := by rw [hc, hw]

/-! ### Requests with a state check and a length (R189) -/

section Taking

variable {s : State} {proof : Option Bytes} {body : Bytes} (hs : channelFree s = true)
  (h : requestWellFormed proof body = true) (hb : body.length ≤ 259)
include hs h hb

/-- R189: a request whose state and length checks pass. -/
theorem stateLength_taken {r : Request} {dispatch : State → State} {ok : State → Bool} {n : Nat}
    {act : State → Bytes → State → State} {t : State}
    (hd : ∀ u, dispatch u = withState (ok u) (withLength n (act u)) u)
    (hok : ok (accepted (requestFrame r proof body) .taken s) = true) (hl : body.length = n)
    (ht : act (accepted (requestFrame r proof body) .taken s) body (accepted (requestFrame r proof body) .taken s) = t) :
    (Host.Outcome.next (requestCommand r dispatch proof body s) : Result) = .next t := by
  refine requestCommand_next hs h hb ?_
  rw [hd, withState_ok _ hok, withLength_ok (requestBody_accepted h) hl, ht]

end Taking

/-! ### Staging (R109, R110, R116) -/

/-- R109: what OPEN_STAGING checks. -/
def opensStaging (s : State) : Bool :=
  bootScanDone s && s.isc.staging.state = .closed &&
    ((slotRecordOf s).stateOf (liveInactive s) = .empty || (slotRecordOf s).stateOf (liveInactive s) = .rejected)

/-- R110: what VERIFY_STAGED checks. -/
def verifiesStaged (s : State) : Bool := bootScanDone s && s.isc.staging.state = .opened

/-- R116: what ABANDON_STAGING checks. -/
def abandonsStaging (s : State) : Bool := !lifecycleIs s .blank && s.isc.staging.state ≠ .closed

theorem opensStaging_iff {s : State} :
    opensStaging s = true ↔ s.store.lifecycle ≠ .blank ∧ s.socRun = true ∧ s.isc.staging.state = .closed ∧
      ((slotRecordOf s).stateOf s.tu.selector.other = .empty ∨
        (slotRecordOf s).stateOf s.tu.selector.other = .rejected) := by
  unfold opensStaging bootScanDone lifecycleIs liveInactive
  simp [and_assoc]

theorem verifiesStaged_iff {s : State} :
    verifiesStaged s = true ↔ s.store.lifecycle ≠ .blank ∧ s.socRun = true ∧ s.isc.staging.state = .opened := by
  simp [verifiesStaged, bootScanDone, lifecycleIs, and_assoc]

theorem abandonsStaging_iff {s : State} :
    abandonsStaging s = true ↔ s.store.lifecycle ≠ .blank ∧ s.isc.staging.state ≠ .closed := by
  simp [abandonsStaging, lifecycleIs]

section Staging

variable {s : State} {proof : Option Bytes} {body : Bytes} (hs : channelFree s = true)
  (h : requestWellFormed proof body = true) (hb : body.length ≤ 259)
include hs h hb

theorem exec_openStaging_refused (hno : opensStaging s ≠ true) :
    exec (.openStaging proof body) s = .next (answered .openStaging .badState [] s) :=
  state_refused hs h hb (ok := opensStaging) (fun _ => rfl) (Bool.eq_false_iff.2 hno)

theorem exec_verifyStaged_refused (hno : verifiesStaged s ≠ true) :
    exec (.verifyStaged proof body) s = .next (answered .verifyStaged .badState [] s) :=
  state_refused hs h hb (ok := verifiesStaged) (fun _ => rfl) (Bool.eq_false_iff.2 hno)

theorem exec_abandonStaging_refused (hno : abandonsStaging s ≠ true) :
    exec (.abandonStaging proof body) s = .next (answered .abandonStaging .badState [] s) :=
  state_refused hs h hb (ok := abandonsStaging) (fun _ => rfl) (Bool.eq_false_iff.2 hno)

end Staging

section StagingTaken

variable {s : State} {proof : Option Bytes} (hs : channelFree s = true) (h : requestWellFormed proof [] = true)
include hs h

theorem exec_openStaging (hok : opensStaging s = true) :
    exec (.openStaging proof []) s =
      .next (answered .openStaging .ok [slotCode s.tu.selector.other] { s with isc.staging.state := .opened }) :=
  stateLength_taken hs h (Nat.zero_le _) (ok := opensStaging) (fun _ => rfl) hok rfl
    (respond_accepted .openStaging proof [] .taken .ok [slotCode s.tu.selector.other]
      { s with isc.staging.state := .opened })

theorem exec_verifyStaged {m : SlotMap} (hm : s.store.slotMap = some m) (he : enginesFree s = true)
    (hi : flashIdle s = true) (hok : verifiesStaged s = true) :
    exec (.verifyStaged proof []) s =
      .next
        { answered .verifyStaged .accepted [] s with
          isc.staging := ⟨.verifying, .none, 0, 0, 0⟩
          isc.scan :=
            { ScanRecord.afterReset with
              owner := .stagedScan, slot := s.tu.selector.other, phase := .manifestRead }
          fp.chunk := some ⟨.stagedScan, m.slotStart s.tu.selector.other, 544, true⟩
          fp.chunkBuffer := []
          fp.sent := [.read (m.slotStart s.tu.selector.other)] } := by
  have hstart : slotStart s s.tu.selector.other = m.slotStart s.tu.selector.other := by
    unfold slotStart
    rw [hm]
    rfl
  have hexec := stateLength_taken hs h (Nat.zero_le _) (r := .verifyStaged) (dispatch := takeVerifyStaged)
    (ok := verifiesStaged) (fun _ => rfl) hok rfl
    (congrArg settle (respond_accepted .verifyStaged proof [] .taken .accepted []
      (startScan .stagedScan s.tu.selector.other { s with isc.staging := ⟨.verifying, .none, 0, 0, 0⟩ })))
  refine hexec.trans (congrArg Host.Outcome.next ((settle_chunkWaits
    (c := ⟨.stagedScan, m.slotStart s.tu.selector.other, 544, false⟩) (by exact (flashIdle_iff.1 hi).1) (by exact he)
    (by rw [← hstart]; rfl) rfl (flashHeld_free (by exact (channelFree_iff.1 hs).1))
    (restartDue_none (by exact nofun))).trans rfl))

theorem exec_abandonStaging (hl : s.store.lifecycle ≠ .blank) (hc : s.isc.staging.state ≠ .closed)
    (hv : s.isc.staging.state ≠ .verifying) :
    exec (.abandonStaging proof []) s =
      .next (answered .abandonStaging .ok [] { s with isc.staging.state := .closed }) :=
  stateLength_taken hs h (Nat.zero_le _) (ok := abandonsStaging) (fun _ => rfl) (abandonsStaging_iff.2 ⟨hl, hc⟩) rfl
    ((if_neg hv).trans (respond_accepted .abandonStaging proof [] .taken .ok [] { s with isc.staging.state := .closed }))

/-- R116: what ABANDON_STAGING makes of a part with a staged scan in hand. -/
def scanAbandoned (s : State) : State :=
  setScanDone
    { withdrawScanWork s with
      isc.scan.phase := .ended
      isc.scan.result := some .abandoned
      isc.staging.state := .closed
      isc.staging.outcome := .abandoned }

theorem exec_abandonStaging_verifying (hl : s.store.lifecycle ≠ .blank) (hv : s.isc.staging.state = .verifying) :
    exec (.abandonStaging proof []) s = .next (settle (answered .abandonStaging .ok [] (scanAbandoned s))) :=
  stateLength_taken hs h (Nat.zero_le _) (ok := abandonsStaging) (fun _ => rfl)
    (abandonsStaging_iff.2 ⟨hl, by show s.isc.staging.state ≠ _; rw [hv]; nofun⟩) rfl
    ((if_pos hv).trans (congrArg settle
      (respond_accepted .abandonStaging proof [] .taken .ok [] (scanAbandoned s))))

end StagingTaken

/-! ### Committing (R118, R119) -/

/-- R119: what COMMIT_STAGED checks. -/
def commitsStaged (s : State) : Bool :=
  !lifecycleIs s .blank && s.isc.staging.state = .verified &&
    ((slotRecordOf s).stateOf (slotRecordOf s).active = .valid ||
      (slotRecordOf s).stateOf (slotRecordOf s).active = .failed)

/-- R123: what CONFIRM_ACTIVE checks. -/
def confirmsActive (s : State) : Bool :=
  !lifecycleIs s .blank && s.isc.boot.outcome = .pass && s.isc.boot.slot = (slotRecordOf s).active &&
    isTrial ((slotRecordOf s).stateOf (slotRecordOf s).active)

theorem commitsStaged_iff {s : State} {r : SlotRecord} (hr : slotRecordOf s = r) :
    commitsStaged s = true ↔ s.store.lifecycle ≠ .blank ∧ s.isc.staging.state = .verified ∧
      (r.stateOf r.active = .valid ∨ r.stateOf r.active = .failed) := by
  subst hr
  unfold commitsStaged lifecycleIs
  simp [and_assoc]

theorem confirmsActive_iff {s : State} {r : SlotRecord} (hr : slotRecordOf s = r) :
    confirmsActive s = true ↔ s.store.lifecycle ≠ .blank ∧ s.isc.boot.outcome = .pass ∧ s.isc.boot.slot = r.active ∧
      isTrial (r.stateOf r.active) = true := by
  subst hr
  unfold confirmsActive lifecycleIs
  simp [and_assoc]

section Updates

variable {s : State} {proof : Option Bytes} {body : Bytes} (hs : channelFree s = true)
  (h : requestWellFormed proof body = true) (hb : body.length ≤ 259)
include hs h hb

theorem exec_commitStaged_refused (hno : commitsStaged s ≠ true) :
    exec (.commitStaged proof body) s = .next (answered .commitStaged .badState [] s) :=
  state_refused hs h hb (ok := commitsStaged) (fun _ => rfl) (Bool.eq_false_iff.2 hno)

theorem exec_commitStaged_length (hok : commitsStaged s = true) (hl : body.length ≠ 1) :
    exec (.commitStaged proof body) s = .next (answered .commitStaged .badArgument [] s) :=
  stateLength_refused hs h hb (ok := commitsStaged) (fun _ => rfl) hok hl

theorem exec_confirmActive_refused (hno : confirmsActive s ≠ true) :
    exec (.confirmActive proof body) s = .next (answered .confirmActive .badState [] s) :=
  state_refused hs h hb (ok := confirmsActive) (fun _ => rfl) (Bool.eq_false_iff.2 hno)

theorem exec_confirmActive_length (hok : confirmsActive s = true) (hl : body.length ≠ 0) :
    exec (.confirmActive proof body) s = .next (answered .confirmActive .badArgument [] s) :=
  stateLength_refused hs h hb (ok := confirmsActive) (fun _ => rfl) hok hl

end Updates

theorem exec_commitStaged {s : State} {proof : Option Bytes} {attempts : Byte} {r : SlotRecord} (hs : channelFree s = true)
    (h : requestWellFormed proof [attempts] = true) (hw : s.writes.current = none) (hr : slotRecordOf s = r)
    (hok : commitsStaged s = true) :
    exec (.commitStaged proof [attempts]) s =
      .next (writing .commitStaged (requestFrame .commitStaged proof [attempts])
        (.slotRecord (commitRecord r s.tu.selector.other (clampAttempts attempts.toNat)))
        { s with isc.staging.state := .closed }) := by
  subst hr
  exact stateLength_taken hs h (by simp) (ok := commitsStaged) (fun _ => rfl) hok rfl
    (writeAndWait_accepted .commitStaged (requestFrame .commitStaged proof [attempts]) .taken
      (.slotRecord (commitRecord (slotRecordOf s) s.tu.selector.other (clampAttempts attempts.toNat)))
      (s := { s with isc.staging.state := .closed }) hw)

/-! ### Confirming (R122, R123) -/

section Confirm

variable {s : State} {proof : Option Bytes} {r : SlotRecord} (hs : channelFree s = true)
  (h : requestWellFormed proof [] = true) (hw : s.writes.current = none) (hr : slotRecordOf s = r)
  (hok : confirmsActive s = true)
include hs h hw hr hok

theorem exec_confirmActive_slot (hv : ¬ s.store.floor.getD 0 < s.isc.boot.version.getD 0) :
    exec (.confirmActive proof []) s =
      .next (writing .confirmActive (requestFrame .confirmActive proof []) (.slotRecord (confirmRecord r)) s) := by
  subst hr
  exact stateLength_taken hs h (Nat.zero_le _) (ok := confirmsActive) (fun _ => rfl) hok rfl
    ((if_neg hv).trans (writeAndWait_accepted .confirmActive (requestFrame .confirmActive proof []) .taken
      (.slotRecord (confirmRecord (slotRecordOf s))) hw))

omit hr in
theorem exec_confirmActive_floor (hv : s.store.floor.getD 0 < s.isc.boot.version.getD 0) :
    exec (.confirmActive proof []) s =
      .next { accepted (requestFrame .confirmActive proof []) .floorWrite s with
        writes.current := some ⟨.channel, .floor (s.isc.boot.version.getD 0)⟩ } := by
  refine stateLength_taken hs h (Nat.zero_le _) (ok := confirmsActive) (fun _ => rfl) hok rfl ((if_pos hv).trans ?_)
  rw [askWrite_free _ _ (by exact hw)]
  rfl

end Confirm

/-- R122, R123: the end of the floor write asks for the slot record write. -/
theorem floorWrite_ends {s : State} {frame : Bytes} {v : Word32} {r : SlotRecord} (hw : storeFree s = true)
    (ha : atRest s) (hr : slotRecordOf s = r) :
    exec .storeWriteEnd
        { accepted frame .floorWrite s with writes.current := some ⟨.channel, .floor v⟩ } =
      .next (writing .confirmActive frame (.slotRecord (confirmRecord r)) { s with store.floor := some v }) := by
  subst hr
  have hwrites := writesOf_storeFree hw
  rw [exec_slotWriteEnd (who := .channel) (w := .floor v) (by simp [hwrites]) (by exact nofun)]
  refine congrArg Host.Outcome.next ((settle_atRest (by exact ha)).trans ?_)
  exact writeAndWait_accepted .confirmActive frame .floorWrite (.slotRecord (confirmRecord (slotRecordOf s)))
    (s := { s with store.floor := some v, writes.current := none }) rfl

end Sys2Proof.Machine

namespace Sys2Proof.Updates

open Sys2Proof Sys2Proof.Machine

/-- Settles O46: the three staging requests by what each checks, and the withdrawal of a staged scan. -/
theorem stagingRequests : Obligations.StagingRequests := by
  refine ⟨?_, ?_, ?_⟩
  · intro s proof m hready h hl hsoc hm inactive state
    obtain ⟨hs, he, -, hi⟩ := ready_iff.1 hready
    refine ⟨fun hst hslot => ?_, fun hno => ?_, fun hst => ?_, fun hst => ?_, fun hst => ?_, fun hst => ?_⟩
    · exact exec_openStaging hs h (opensStaging_iff.2 ⟨hl, hsoc, hst, hslot⟩)
    · refine exec_openStaging_refused hs h (Nat.zero_le _) fun hc => ?_
      obtain ⟨-, -, hst, hslot⟩ := opensStaging_iff.1 hc
      obtain hno | hno := hno
      · exact hno hst
      · exact hslot.elim hno.1 hno.2
    · exact exec_verifyStaged hs h hm he hi (verifiesStaged_iff.2 ⟨hl, hsoc, hst⟩)
    · exact exec_verifyStaged_refused hs h (Nat.zero_le _) fun hc => hst (verifiesStaged_iff.1 hc).2.2
    · obtain hst | hst := hst <;> exact exec_abandonStaging hs h hl (by rw [hst]; nofun) (by rw [hst]; nofun)
    · exact exec_abandonStaging_refused hs h (Nat.zero_le _) fun hc => (abandonsStaging_iff.1 hc).2 hst
  · intro s proof body hs h hb inactive opens verifies abandons
    have hopens : opensStaging s ≠ true → opens .badState := exec_openStaging_refused hs h hb
    have hverifies : verifiesStaged s ≠ true → verifies .badState := exec_verifyStaged_refused hs h hb
    have habandons : abandonsStaging s ≠ true → abandons .badState := exec_abandonStaging_refused hs h hb
    simp only [ne_eq, opensStaging_iff] at hopens
    simp only [ne_eq, verifiesStaged_iff] at hverifies
    simp only [ne_eq, abandonsStaging_iff] at habandons
    refine ⟨fun hl => ⟨hopens fun hc => hc.1 hl, hverifies fun hc => hc.1 hl, habandons fun hc => hc.1 hl⟩,
      fun hsoc => ⟨hopens fun hc => ?_, hverifies fun hc => ?_⟩, fun hst => hopens fun hc => hst hc.2.2.1,
      fun hst => hverifies fun hc => hst hc.2.2, fun hst => habandons fun hc => hc.2 hst, fun r hr h1 h2 => ?_,
      fun hl hne => ?_⟩
    · exact Bool.false_ne_true (hsoc.symm.trans hc.2.1)
    · exact Bool.false_ne_true (hsoc.symm.trans hc.2.1)
    · rw [slotRecordOf_some hr] at hopens
      exact hopens fun hc => hc.2.2.2.elim h1 h2
    · have hlen : body.length ≠ 0 := by simpa using hne
      refine ⟨fun r hsoc hst hr hslot => ?_, fun hsoc hst => ?_, fun hst => ?_⟩
      · rw [← slotRecordOf_some hr] at hslot
        exact stateLength_refused hs h hb (ok := opensStaging) (fun _ => rfl)
          (opensStaging_iff.2 ⟨hl, hsoc, hst, hslot⟩) hlen
      · exact stateLength_refused hs h hb (ok := verifiesStaged) (fun _ => rfl)
          (verifiesStaged_iff.2 ⟨hl, hsoc, hst⟩) hlen
      · exact stateLength_refused hs h hb (ok := abandonsStaging) (fun _ => rfl)
          (abandonsStaging_iff.2 ⟨hl, hst⟩) hlen
  · intro s proof hs h hl hst
    obtain ⟨hisc, hchunk, hbuffer, hscan, howed, hverify⟩ :=
      settle_noScan (s := answered .abandonStaging .ok [] (scanAbandoned s)) rfl rfl rfl
    refine ⟨_, exec_abandonStaging_verifying hs h hl hst, by simp [holdsAnswer, answered], hisc, ?_, hchunk, hbuffer,
      hscan, howed, hverify, ?_, ?_, ?_, ?_, ?_⟩ <;>
      simp [answered, scanAbandoned, setScanDone, withdrawScanWork]

/-- Settles O47: the checks of both requests, and their writes one after the other. -/
theorem commitAndConfirm : Obligations.CommitAndConfirm := by
  refine ⟨?_, ?_⟩
  · intro s proof body hs h hb commits confirms
    have hcommits : commitsStaged s ≠ true → commits .badState := exec_commitStaged_refused hs h hb
    have hconfirms : confirmsActive s ≠ true → confirms .badState := exec_confirmActive_refused hs h hb
    refine ⟨fun hl => ⟨hcommits fun hc => ((commitsStaged_iff rfl).1 hc).1 hl,
      hconfirms fun hc => ((confirmsActive_iff rfl).1 hc).1 hl⟩, fun hst => hcommits fun hc => hst ((commitsStaged_iff rfl).1 hc).2.1,
      fun ho => hconfirms fun hc => ho ((confirmsActive_iff rfl).1 hc).2.1, fun r hr => ?_⟩
    have hrec := slotRecordOf_some hr
    simp only [ne_eq, commitsStaged_iff hrec] at hcommits
    simp only [ne_eq, confirmsActive_iff hrec] at hconfirms
    refine ⟨fun h1 h2 => hcommits fun hc => hc.2.2.elim h1 h2, fun hslot => hconfirms fun hc => hslot hc.2.2.1,
      fun ht => hconfirms fun hc => Bool.false_ne_true (ht.symm.trans hc.2.2.2), fun hl hst hact hlen => ?_,
      fun hl ho hslot ht hne => ?_⟩
    · exact exec_commitStaged_length hs h hb ((commitsStaged_iff hrec).2 ⟨hl, hst, hact⟩) hlen
    · exact exec_confirmActive_length hs h hb ((confirmsActive_iff hrec).2 ⟨hl, ho, hslot, ht⟩) (by simpa using hne)
  · intro s proof r hready hl hr inactive
    obtain ⟨hs, -, hw, -⟩ := ready_iff.1 hready
    obtain ⟨hcurrent, -⟩ := storeFree_iff.1 hw
    have hrest := ready_atRest hready
    have hrec := slotRecordOf_some hr
    refine ⟨?_, ?_⟩
    · intro attempts h hst hact a old r'
      refine ⟨_, exec_commitStaged hs h hcurrent hrec ((commitsStaged_iff hrec).2 ⟨hl, hst, hact⟩), rfl, rfl, rfl, ?_⟩
      rw [writing_ends (s := { s with isc.staging.state := .closed }) _ hw (by exact hrest)]
      unfold writtenBody
      rw [requestBody_accepted h]
      rfl
    · intro h ho hslot ht y r'
      have hok := (confirmsActive_iff hrec).2 ⟨hl, ho, hslot, ht⟩
      refine ⟨fun f v hf hv hlt => ?_, fun f hf hv => ?_⟩
      · have hlt' : s.store.floor.getD 0 < s.isc.boot.version.getD 0 := by rw [hf, hv]; exact hlt
        refine ⟨_, _, exec_confirmActive_floor hs h hcurrent hok hlt', rfl, by rw [hv]; rfl,
          floorWrite_ends hw hrest hrec, by rw [hv]; rfl, rfl, ?_⟩
        rw [hv]
        exact writing_ends (s := { s with store.floor := some v }) _ hw (by exact hrest)
      · have hlt' : ¬ s.store.floor.getD 0 < s.isc.boot.version.getD 0 := by
          rw [hf, hv]
          exact BitVec.lt_irrefl f
        refine ⟨_, exec_confirmActive_slot hs h hcurrent hrec hok hlt', rfl, rfl, ?_⟩
        rw [writing_ends _ hw hrest]
        unfold writtenBody numberBytes
        rw [show (accepted _ _ { s with store := s.store.apply (.slotRecord (confirmRecord r)) }).store.floor = _ from hf]
        rfl

end Sys2Proof.Updates
end

section
/-! PROOFS. The provisioning requests that ask for one record write (R5, R139, R140, R151). -/

namespace Sys2Proof.Machine

/-! ### Requests that ask for one write (R148, R190) -/

/-- R148, R190: a request that asks for the write `w` at its taking, and the answer at the write's end. -/
theorem writing_answered {s : State} {r : Request} {proof : Option Bytes} {body : Bytes} {answer : Bytes} (w : StoreWrite)
    (hready : ready s = true)
    (hanswer : writtenBody r (accepted (requestFrame r proof body) (.lastWrite r) { s with store := s.store.apply w }) = answer) :
    exec .storeWriteEnd (writing r (requestFrame r proof body) w s) =
      .next (answered r .ok answer { s with store := s.store.apply w }) := by
  obtain ⟨-, -, hw, -⟩ := ready_iff.1 hready
  rw [writing_ends w hw (ready_atRest hready), hanswer]

/-! ### The slot map (R5) -/

/-- R5: two ranges of units have none in common. -/
theorem unitsApart_iff {x n y m : Nat} (hn : 1 ≤ n) (hm : 1 ≤ m) :
    (∀ u, ¬ (x ≤ u ∧ u < x + n ∧ y ≤ u ∧ u < y + m)) ↔ x + n ≤ y ∨ y + m ≤ x := by
  refine ⟨fun h => ?_, fun h u hu => by omega⟩
  have hx := h x
  have hy := h y
  omega

theorem slotMap_valid_iff {m : SlotMap} :
    m.valid = true ↔ m.aBase ≤ 511 ∧ m.bBase ≤ 511 ∧ 1 ≤ m.slotLength ∧ m.slotLength ≤ 255 ∧ m.recoveryBase ≤ 511 ∧
      1 ≤ m.recoveryLength ∧ m.recoveryLength ≤ 16 ∧ m.aBase + m.slotLength ≤ 512 ∧ m.bBase + m.slotLength ≤ 512 ∧
      m.recoveryBase + m.recoveryLength ≤ 512 ∧
      (m.aBase + m.slotLength ≤ m.bBase ∨ m.bBase + m.slotLength ≤ m.aBase) ∧
      (m.aBase + m.slotLength ≤ m.recoveryBase ∨ m.recoveryBase + m.recoveryLength ≤ m.aBase) ∧
      (m.bBase + m.slotLength ≤ m.recoveryBase ∨ m.recoveryBase + m.recoveryLength ≤ m.bBase) ∧
      m.recoveryLength + m.slotLength ≤ 256 := by
  simp only [SlotMap.valid, Bool.and_eq_true, Bool.or_eq_true, decide_eq_true_eq, and_assoc]

section Provisioning

variable {s : State} {proof : Option Bytes} {body : Bytes} (hs : channelFree s = true)
  (h : requestWellFormed proof body = true) (hb : body.length ≤ 259)
include hs h hb

theorem exec_loadSlotMap (hl : s.store.lifecycle = .blank) (hw : s.writes.current = none) (hlen : body.length = 8)
    (hv : (slotMapOfBody body).valid = true) :
    exec (.loadSlotMap proof body) s =
      .next (writing .loadSlotMap (requestFrame .loadSlotMap proof body) (.slotMap (slotMapOfBody body)) s) :=
  stateLength_taken hs h hb (ok := (lifecycleIs · .blank)) (fun _ => rfl) (decide_eq_true hl) hlen
    ((if_pos hv).trans (writeAndWait_accepted .loadSlotMap _ .taken _ hw))

theorem exec_loadSlotMap_invalid (hl : s.store.lifecycle = .blank)
    (hv : body.length ≠ 8 ∨ (slotMapOfBody body).valid = false) :
    exec (.loadSlotMap proof body) s = .next (answered .loadSlotMap .badArgument [] s) := by
  by_cases hlen : body.length = 8
  · exact stateLength_taken hs h hb (ok := (lifecycleIs · .blank)) (fun _ => rfl) (decide_eq_true hl) hlen
      ((if_neg (by simpa using hv.resolve_left (not_not_intro hlen))).trans (respond_accepted ..))
  · exact stateLength_refused hs h hb (ok := (lifecycleIs · .blank)) (fun _ => rfl) (decide_eq_true hl) hlen

/-! ### The key slots (R151) -/

theorem exec_loadUpdateKey (hl : s.store.lifecycle = .blank) (hw : s.writes.current = none) (hlen : body.length = 65)
    (hi : (byteAt body 0).toNat ≤ 3) :
    exec (.loadUpdateKey proof body) s =
      .next (writing .loadUpdateKey (requestFrame .loadUpdateKey proof body)
        (.keySlot (byteAt body 0).toNat (.active (body.drop 1))) s) :=
  stateLength_taken hs h hb (ok := (lifecycleIs · .blank)) (fun _ => rfl) (decide_eq_true hl) hlen
    ((if_neg (Nat.not_lt.2 hi)).trans (writeAndWait_accepted .loadUpdateKey _ .taken _ hw))

theorem exec_loadUpdateKey_invalid (hl : s.store.lifecycle = .blank)
    (hbad : body.length ≠ 65 ∨ 3 < (byteAt body 0).toNat) :
    exec (.loadUpdateKey proof body) s = .next (answered .loadUpdateKey .badArgument [] s) := by
  by_cases hlen : body.length = 65
  · exact stateLength_taken hs h hb (ok := (lifecycleIs · .blank)) (fun _ => rfl) (decide_eq_true hl) hlen
      ((if_pos (hbad.resolve_left (not_not_intro hlen))).trans (respond_accepted ..))
  · exact stateLength_refused hs h hb (ok := (lifecycleIs · .blank)) (fun _ => rfl) (decide_eq_true hl) hlen

end Provisioning

/-! ### The endorsement (R139, R140) -/

/-- R139: an argument of LOAD_ENDORSEMENT is out of range. -/
def endorsementWrong (body : Bytes) : Prop :=
  body.length < 3 ∨ 1 < (byteAt body 0).toNat ∨ leAt body 1 2 = 0 ∨ 512 < leAt body 1 2 ∨
    ((byteAt body 0).toNat = 0 ∧ body.length - 3 ≠ min 256 (leAt body 1 2)) ∨
    ((byteAt body 0).toNat = 1 ∧ (leAt body 1 2 ≤ 256 ∨ body.length - 3 ≠ leAt body 1 2 - 256))

theorem endorsementWrong_iff {body : Bytes} :
    (body.length < 3 || 1 < (byteAt body 0).toNat || decide (leAt body 1 2 < 1) || decide (512 < leAt body 1 2) ||
      !endorsementLengthOk (byteAt body 0).toNat (leAt body 1 2) (body.drop 3).length) = true ↔ endorsementWrong body := by
  unfold endorsementWrong endorsementLengthOk
  rw [List.length_drop]
  generalize (byteAt body 0).toNat = part
  generalize leAt body 1 2 = declared
  generalize hc : body.length - 3 = count
  obtain hp | hp | hp : part = 0 ∨ part = 1 ∨ 1 < part := by omega
  · subst hp
    simp
    omega
  · subst hp
    simp
    omega
  · simp [hp]

section Endorsement

variable {s : State} {proof : Option Bytes} {body : Bytes} (hs : channelFree s = true)
  (h : requestWellFormed proof body = true) (hb : body.length ≤ 259)
include hs h hb

theorem exec_loadEndorsement_refused (hno : s.store.lifecycle ≠ .blank ∨ s.store.identity = none) :
    exec (.loadEndorsement proof body) s = .next (answered .loadEndorsement .badState [] s) := by
  refine state_refused hs h hb (ok := fun u => lifecycleIs u .blank && u.store.identity.isSome) (fun _ => rfl) ?_
  obtain hno | hno := hno <;> simp [lifecycleIs, hno]

section Held

variable (hl : s.store.lifecycle = .blank) (hid : s.store.identity.isSome = true)
include hl hid

omit hs hb in
theorem takeLoadEndorsement_accepted :
    takeLoadEndorsement (accepted (requestFrame .loadEndorsement proof body) .taken s) =
      if body.length < 3 || 1 < (byteAt body 0).toNat || decide (leAt body 1 2 < 1) || decide (512 < leAt body 1 2) ||
          !endorsementLengthOk (byteAt body 0).toNat (leAt body 1 2) (body.drop 3).length then
        answered .loadEndorsement .badArgument [] s
      else if (byteAt body 0).toNat = 1 && !endorsementContinues s.store.endorsement (leAt body 1 2) then
        answered .loadEndorsement .badState [] s
      else
        writeAndWait .loadEndorsement
          (.endorsement (endorsementAfter s.store.endorsement (byteAt body 0).toNat (leAt body 1 2) (body.drop 3)))
          (accepted (requestFrame .loadEndorsement proof body) .taken s) := by
  unfold takeLoadEndorsement
  rw [withState_ok _ (by simp [lifecycleIs, hl, hid])]
  dsimp only
  rw [requestBody_accepted h, respond_accepted, respond_accepted]
  rfl

theorem exec_loadEndorsement_wrong (hbad : endorsementWrong body) :
    exec (.loadEndorsement proof body) s = .next (answered .loadEndorsement .badArgument [] s) := by
  refine requestCommand_next hs h hb ?_
  rw [takeLoadEndorsement_accepted h hl hid, if_pos (endorsementWrong_iff.2 hbad)]

theorem exec_loadEndorsement_astray (hgood : ¬ endorsementWrong body) (hpart : (byteAt body 0).toNat = 1)
    (hno : endorsementContinues s.store.endorsement (leAt body 1 2) = false) :
    exec (.loadEndorsement proof body) s = .next (answered .loadEndorsement .badState [] s) := by
  refine requestCommand_next hs h hb ?_
  rw [takeLoadEndorsement_accepted h hl hid, if_neg (mt endorsementWrong_iff.1 hgood),
    if_pos (by rw [hpart, hno]; rfl)]

theorem exec_loadEndorsement (hw : s.writes.current = none) (hgood : ¬ endorsementWrong body)
    (hgoes : (byteAt body 0).toNat = 1 → endorsementContinues s.store.endorsement (leAt body 1 2) = true) :
    exec (.loadEndorsement proof body) s =
      .next (writing .loadEndorsement (requestFrame .loadEndorsement proof body)
        (.endorsement (endorsementAfter s.store.endorsement (byteAt body 0).toNat (leAt body 1 2) (body.drop 3))) s) := by
  refine requestCommand_next hs h hb ?_
  rw [takeLoadEndorsement_accepted h hl hid, if_neg (mt endorsementWrong_iff.1 hgood), if_neg]
  · exact writeAndWait_accepted .loadEndorsement _ .taken _ hw
  · simpa using hgoes

end Held

end Endorsement

theorem endorsementContinues_iff {e : Endorsement} {declared : Nat} :
    endorsementContinues e declared = true ↔ ∃ first, e = .part declared first := by
  cases e with
  | absent => simp [endorsementContinues]
  | part n b => simp [endorsementContinues, eq_comm]
  | complete n b => simp [endorsementContinues]

end Sys2Proof.Machine

namespace Sys2Proof.Provisioning

open Sys2Proof Sys2Proof.Machine

/-- Settles O48: each request by its checks in their order, then its one write. -/
theorem provisioningWrites : Obligations.ProvisioningWrites := by
  intro s proof body hready h aBase bBase slotLength recoveryBase recoveryLength apart valid loaded
  obtain ⟨hs, -, hw, -⟩ := ready_iff.1 hready
  obtain ⟨hcurrent, -⟩ := storeFree_iff.1 hw
  have hapart : ∀ {x n y m : Nat}, 1 ≤ n → 1 ≤ m → (apart x n y m ↔ x + n ≤ y ∨ y + m ≤ x) := unitsApart_iff
  have hvalid : valid ↔ body.length = 8 ∧ (slotMapOfBody body).valid = true := by
    rw [slotMap_valid_iff]
    refine and_congr_right fun _ => ⟨?_, ?_⟩
    · rintro ⟨ha, hb, hsl, hsl', hr, hrl, hrl', ha', hb', hr', hab, har, hbr, hsum⟩
      exact ⟨ha, hb, hsl, hsl', hr, hrl, hrl', ha', hb', hr', (hapart hsl hsl).1 hab, (hapart hsl hrl).1 har,
        (hapart hsl hrl).1 hbr, hsum⟩
    · rintro ⟨ha, hb, hsl, hsl', hr, hrl, hrl', ha', hb', hr', hab, har, hbr, hsum⟩
      exact ⟨ha, hb, hsl, hsl', hr, hrl, hrl', ha', hb', hr', (hapart hsl hsl).2 hab, (hapart hsl hrl).2 har,
        (hapart hsl hrl).2 hbr, hsum⟩
  refine ⟨fun hl hv => ?_, fun hl hb hv => ?_, fun hl hlen hi hkeys => ?_, ?_, ?_, fun hl hb hbad =>
    exec_loadUpdateKey_invalid hs h hb hl hbad, fun hl hb => ?_, fun hl hb => ⟨?_, ?_, ?_⟩⟩
  · obtain ⟨hlen, hv⟩ := hvalid.1 hv
    exact ⟨_, exec_loadSlotMap hs h (by omega) hl hcurrent hlen hv, rfl, rfl, writing_answered _ hready rfl⟩
  · refine exec_loadSlotMap_invalid hs h hb hl ?_
    by_contra hc
    simp only [not_or, not_not, Bool.not_eq_false] at hc
    exact hv (hvalid.2 hc)
  · refine ⟨_, exec_loadUpdateKey hs h (by omega) hl hcurrent hlen hi, rfl, writing_answered _ hready ?_⟩
    unfold writtenBody keySlotBody
    rw [requestBody_accepted h]
    show leBytes 1 (byteAt body 0).toNat ++
      [keySlotCode ((s.store.keys.set (byteAt body 0).toNat (.active (body.drop 1))).getD (byteAt body 0).toNat .empty)] = _
    rw [List.getD_eq_getElem _ _ (by rw [List.length_set]; omega), List.getElem_set_self, leBytes_one]
    simp [keySlotCode]
  · intro hl hid hlen hpart hdeclared hcount declared e
    have hpart' : (byteAt body 0).toNat = 0 := by rw [hpart]; rfl
    rw [List.length_drop] at hcount
    refine ⟨_, exec_loadEndorsement hs h (by omega) hl hid hcurrent ?_ (by omega), rfl, ?_⟩
    · unfold endorsementWrong
      omega
    · have hafter : endorsementAfter s.store.endorsement (byteAt body 0).toNat (leAt body 1 2) (body.drop 3) = e := by
        unfold endorsementAfter
        rw [if_pos hpart']
      rw [hafter]
      refine writing_answered _ hready ?_
      show endorsementBody e = _
      simp only [e, declared]
      split <;> rfl
  · intro first hl hid hlen hpart declared hlow hhigh hcount hstored
    have hpart' : (byteAt body 0).toNat = 1 := by rw [hpart]; rfl
    rw [List.length_drop] at hcount
    refine ⟨_, exec_loadEndorsement hs h (by omega) hl hid hcurrent ?_ fun _ =>
      endorsementContinues_iff.2 ⟨first, hstored⟩, rfl, ?_⟩
    · unfold endorsementWrong
      omega
    · have hafter : endorsementAfter s.store.endorsement (byteAt body 0).toNat (leAt body 1 2) (body.drop 3) =
          .complete declared (first ++ body.drop 3) := by
        unfold endorsementAfter
        rw [if_neg (by omega), hstored]
      rw [hafter]
      exact writing_answered _ hready rfl
  · intro loads part declared count wrong
    refine ⟨fun hid => exec_loadEndorsement_refused hs h hb (.inr hid), fun hid hbad =>
      exec_loadEndorsement_wrong hs h hb hl hid hbad, fun hid hgood hpart hno => ?_⟩
    refine exec_loadEndorsement_astray hs h hb hl hid hgood hpart (Bool.eq_false_iff.2 fun hc => ?_)
    obtain ⟨first, hfirst⟩ := endorsementContinues_iff.1 hc
    exact hno first hfirst
  · exact state_refused hs h hb (ok := (lifecycleIs · .blank)) (fun _ => rfl) (decide_eq_false hl)
  · exact state_refused hs h hb (ok := (lifecycleIs · .blank)) (fun _ => rfl) (decide_eq_false hl)
  · exact exec_loadEndorsement_refused hs h hb (.inl hl)

end Sys2Proof.Provisioning
end

section
/-! PROOFS. Requests that wait for a digest or for the Signature Unit (R68, R77, R187), and the requests that make a key
pair, finish provisioning and take ownership (R138, R152, R153, R156). -/

namespace Sys2Proof.Machine

/-! ### Zeroed bytes of the request buffer -/

theorem zeroRange_append (a b c : Bytes) : zeroRange (a ++ b ++ c) a.length b.length = a ++ zeroBytes b.length ++ c := by
  simp [zeroRange, slice]

/-- R158: with its proof zeroed a request frame is the frame with a zero proof. -/
theorem zeroRange_proof (r : Request) {proof : Bytes} (body : Bytes) (hp : proof.length = 32) :
    zeroRange (requestFrame r (some proof) body) 4 32 = requestFrame r (some (zeroBytes 32)) body := by
  rw [requestFrame_header, requestFrame_header]
  have hlen : requestLength (some (zeroBytes 32)) body = requestLength (some proof) body := by
    simp [requestLength, zeroBytes, hp]
  rw [hlen]
  have := zeroRange_append [BitVec.ofNat 8 (requestLength (some proof) body),
    BitVec.ofNat 8 (requestLength (some proof) body / 256), requestCode r, flagByte true] proof body
  rw [hp] at this
  simpa using this

theorem requestLength_body {proof : Option Bytes} {body body' : Bytes} (h : body.length = body'.length) :
    requestLength proof body = requestLength proof body' := by
  simp [requestLength, h]

/-- R156, R171: a request frame with the bytes of its body from `n` on zeroed. -/
theorem zeroRange_body (r : Request) {proof : Option Bytes} {a b : Bytes} (h : requestWellFormed proof (a ++ b) = true) :
    zeroRange (requestFrame r proof (a ++ b)) (frameBodyStart (requestFrame r proof (a ++ b)) + a.length) b.length =
      requestFrame r proof (a ++ zeroBytes b.length) := by
  have hlen : requestLength proof (a ++ zeroBytes b.length) = requestLength proof (a ++ b) :=
    requestLength_body (by simp [zeroBytes])
  have hstart : frameBodyStart (requestFrame r proof (a ++ b)) + a.length =
      ([BitVec.ofNat 8 (requestLength proof (a ++ b)), BitVec.ofNat 8 (requestLength proof (a ++ b) / 256), requestCode r,
        flagByte proof.isSome] ++ proof.getD [] ++ a).length := by
    unfold frameBodyStart
    rw [requestFrame_hasProof]
    cases proof with
    | none =>
      simp
      omega
    | some p =>
      have hp := proof_length h p rfl
      simp [hp]
      omega
  rw [hstart, requestFrame_header, requestFrame_header, hlen]
  have := zeroRange_append ([BitVec.ofNat 8 (requestLength proof (a ++ b)),
    BitVec.ofNat 8 (requestLength proof (a ++ b) / 256), requestCode r, flagByte proof.isSome] ++ proof.getD [] ++ a) b []
  simpa using this

theorem requestWellFormed_zeroed {proof : Option Bytes} {body body' : Bytes} (h : requestWellFormed proof body = true)
    (hl : body'.length = body.length) : requestWellFormed proof body' = true := by
  unfold requestWellFormed at h ⊢
  rwa [requestLength_body hl]

/-! ### Requests that wait for a digest (R68, R74, R187) -/

/-- R68, R71, R187: a request whose digest item the free engine absorbs. -/
def digesting (frame : Bytes) (job : Job) (item : DigestItem) (s : State) : State :=
  { accepted frame job s with de.channel := some item, de.scanFirst := false, de.absorbing := some .channel }

theorem digestAndWait_accepted {s : State} (frame : Bytes) (j job : Job) (item : DigestItem) (ha : atRest s)
    (habs : s.de.absorbing = none) (hj : ∀ f, job ≠ .restart f) :
    digestAndWait job item (accepted frame j s) = digesting frame job item s := by
  obtain ⟨hop, hds, hdc, hss, hsc, hchunk⟩ := ha
  exact digestAndWait_free (s := accepted frame j s) job item hop (enginesFree_iff.2 ⟨hds, hdc, habs, hss, hsc⟩) hchunk hj

/-- R74: the CHUNK_END of a request's digest of one chunk hands it over. -/
theorem chunkEnd_digesting {s : State} (frame : Bytes) (job : Job) (work : DigestWork) {input : Bytes} (h1 : 0 < input.length)
    (h2 : input.length ≤ 256) (ha : atRest s) (habs : s.de.absorbing = none) (hj : ∀ f, job ≠ .restart f) :
    exec .chunkEnd (digesting frame job (bufferItem work input) s) =
      .next (settle (channelDigest (sha256 input) (accepted frame job { s with de.scanFirst := false }))) := by
  obtain ⟨-, hds, hdc, -, -, -⟩ := ha
  rw [chunkEnd_channel work input h1 h2 (s := digesting frame job (bufferItem work input) s) hds rfl rfl
    (restartDue_none (by simpa [digesting] using hj))]
  have hde : { s.de with channel := none, scanFirst := false, absorbing := none } = { s.de with scanFirst := false } := by
    rw [← hdc, ← habs]
  congr 4

theorem ready_absorbing {s : State} (h : ready s = true) : s.de.absorbing = none :=
  (enginesFree_iff.1 (ready_iff.1 h).2.1).2.2.1

/-! ### Requests that wait for the Signature Unit (R77, R81) -/

theorem settle_signatureRuns {s : State} {c : SigItem} (ho : s.fp.op = none) (hs : s.de.scan = none)
    (hc : s.de.channel = none) (hg : s.su.channel = some c) (hr : c.running = true) (hk : s.fp.chunk = none) :
    settle s = s := by
  have hsig : startSignature s = s := by
    unfold startSignature
    rw [hg]
    simp [hr]
  rw [settle, startOperation_none ho, startAbsorption_empty hs hc, hsig, startChunkRead_none hk, ite_self]

/-- R77, R81: an operation placed in the idle unit runs at once. -/
theorem settle_signatureStarts {s : State} {op : SigOp} (ho : s.fp.op = none) (hs : s.de.scan = none)
    (hc : s.de.channel = none) (hv : s.su.scan = none) (hg : s.su.channel = some ⟨op, false⟩) (hk : s.fp.chunk = none)
    (hd : restartDue s = false) : settle s = { s with su.channel := some ⟨op, true⟩ } := by
  have hsig : startSignature s = { s with su.channel := some ⟨op, true⟩ } := by
    unfold startSignature
    rw [hv, hg]
    rfl
  rw [settle_notDue hd, startOperation_none ho, startAbsorption_empty hs hc, hsig,
    startChunkRead_none (s := { s with su.channel := some ⟨op, true⟩ }) hk]

/-- R81: the end of the channel's operation. -/
theorem exec_signatureEnd {s : State} {op : SigOp} (hv : s.su.scan = none) (hg : s.su.channel = some ⟨op, true⟩)
    (hd : restartDue s = false) :
    exec .signatureCompletion s = .next (settle (channelSignature op (freshPort s))) := by
  show Host.Outcome.next (unlessRestartDue signatureCompletion (freshPort s)) = _
  rw [unlessRestartDue_notDue _ (by exact hd)]
  unfold signatureCompletion
  rw [show (freshPort s).su.scan = none from hv, show (freshPort s).su.channel = some ⟨op, true⟩ from hg]
  rfl

/-- R77, R187: a request whose operation the Signature Unit runs. -/
def signing (frame : Bytes) (job : Job) (op : SigOp) (s : State) : State :=
  { accepted frame job s with su.channel := some ⟨op, true⟩, su.scanFirst := false }

theorem settle_signing {s : State} (frame : Bytes) (j job : Job) (op : SigOp) (ha : atRest s)
    (hj : ∀ f, job ≠ .restart f) :
    settle (waitFor job (placeChannelOp op (accepted frame j s))) = signing frame job op s := by
  obtain ⟨hop, hds, hdc, hss, -, hchunk⟩ := ha
  rw [settle_signatureStarts (op := op) (by exact hop) (by exact hds) (by exact hdc) (by exact hss) rfl (by exact hchunk)
    (restartDue_none (by simpa [waitFor] using hj))]
  unfold waitFor placeChannelOp signing accepted
  dsimp only
  rw [show (afterTransaction s).su.scan = none from hss]
  rfl

/-! ### GENERATE_IDENTITY (R80, R138) -/

section Generate

variable {s : State} {proof : Option Bytes} (hready : ready s = true) (h : requestWellFormed proof [] = true)
include hready

theorem exec_generateIdentity (h : requestWellFormed proof [] = true) (hl : s.store.lifecycle = .blank) :
    exec (.generateIdentity proof []) s =
      .next (signing (requestFrame .generateIdentity proof []) .generate .generate s) :=
  stateLength_taken (ready_iff.1 hready).1 h (Nat.zero_le _) (ok := (lifecycleIs · .blank)) (fun _ => rfl)
    (decide_eq_true hl) rfl (settle_signing _ .taken .generate .generate (ready_atRest hready) nofun)

/-- R138: a draw out of range is discarded, and the operation draws again. -/
theorem generate_discards (frame : Bytes) (hdraw : drawnScalar (Config.randomNumber s.draws) = none) :
    exec .signatureCompletion (signing frame .generate .generate s) =
      .next { signing frame .generate .generate s with draws := s.draws + 1 } := by
  obtain ⟨hop, hds, hdc, hss, -, hchunk⟩ := ready_atRest hready
  rw [exec_signatureEnd (by exact hss) rfl (restartDue_none (by exact nofun))]
  have hend : channelSignature .generate (freshPort (signing frame .generate .generate s)) =
      { signing frame .generate .generate s with draws := s.draws + 1 } := by
    show identityGenerated (freshPort (signing frame .generate .generate s)) = _
    unfold identityGenerated
    rw [show (freshPort (signing frame .generate .generate s)).draws = s.draws from rfl, hdraw]
    rfl
  rw [hend]
  exact congrArg Host.Outcome.next (settle_signatureRuns (c := ⟨.generate, true⟩) hop hds hdc rfl rfl hchunk)

/-- R138: the state in which the key pair of a draw in range is written. -/
def drawn (s : State) : State := { s with su.scanFirst := false, draws := s.draws + 1 }

theorem generate_ends (frame : Bytes) {secret : Nat} (hdraw : drawnScalar (Config.randomNumber s.draws) = some secret) :
    exec .signatureCompletion (signing frame .generate .generate s) =
      .next (writing .generateIdentity frame (.identityKey ⟨secret, publicKeyOf secret⟩) (drawn s)) := by
  obtain ⟨hop, hds, hdc, hss, hsc, hchunk⟩ := ready_atRest hready
  obtain ⟨hcurrent, -⟩ := storeFree_iff.1 (ready_iff.1 hready).2.2.1
  rw [exec_signatureEnd (by exact hss) rfl (restartDue_none (by exact nofun))]
  have hsu : { s.su with channel := none, scanFirst := false } = { s.su with scanFirst := false } := by
    rw [← hsc]
  have hstate : { freshPort (signing frame .generate .generate s) with draws := s.draws + 1, su.channel := none } =
      accepted frame .generate (drawn s) := by
    unfold signing drawn accepted freshPort
    dsimp only
    exact congrArg (fun su => { afterTransaction s with
      su := su, draws := s.draws + 1, bp.intakeCount := 0, bp.intake := [], mc.response := none, mc.scrubTimer := none
      mc.request := frame, mc.state := .working .generate }) hsu
  have hend : channelSignature .generate (freshPort (signing frame .generate .generate s)) =
      writeAndWait .generateIdentity (.identityKey ⟨secret, publicKeyOf secret⟩) (accepted frame .generate (drawn s)) := by
    rw [← hstate]
    show identityGenerated (freshPort (signing frame .generate .generate s)) = _
    unfold identityGenerated
    rw [show (freshPort (signing frame .generate .generate s)).draws = s.draws from rfl, hdraw]
    rfl
  rw [hend, writeAndWait_accepted _ _ _ _ (by exact hcurrent)]
  exact congrArg Host.Outcome.next (settle_atRest ⟨hop, hds, hdc, hss, hsc, hchunk⟩)

end Generate

/-! ### FINISH_PROVISIONING (R152, R153, R150) -/

/-- R152: what FINISH_PROVISIONING checks. -/
def finishesProvisioning (s : State) : Bool :=
  lifecycleIs s .blank && s.store.slotMap.isSome && s.store.identity.isSome &&
    !endorsementPartial s.store.endorsement && s.store.keys.any keyActive

theorem endorsementPartial_iff {e : Endorsement} : endorsementPartial e = false ↔ ∀ declared bytes, e ≠ .part declared bytes := by
  cases e <;> simp [endorsementPartial]

theorem anyActive_iff {keys : List KeySlot} : keys.any keyActive = true ↔ ∃ key, KeySlot.active key ∈ keys := by
  rw [List.any_eq_true]
  refine ⟨fun ⟨k, hk, ha⟩ => ?_, fun ⟨key, hk⟩ => ⟨_, hk, rfl⟩⟩
  cases k with
  | active key => exact ⟨key, hk⟩
  | empty | revoked => cases ha

theorem finishesProvisioning_iff {s : State} :
    finishesProvisioning s = true ↔ s.store.lifecycle = .blank ∧ s.store.slotMap.isSome = true ∧
      s.store.identity.isSome = true ∧ (∀ declared bytes, s.store.endorsement ≠ .part declared bytes) ∧
      ∃ key, .active key ∈ s.store.keys := by
  simp only [finishesProvisioning, lifecycleIs, Bool.and_eq_true, decide_eq_true_eq, Bool.not_eq_true',
    endorsementPartial_iff, anyActive_iff, and_assoc]

theorem leNat_four (b0 b1 b2 b3 : Byte) :
    leNat [b0, b1, b2, b3] = b0.toNat + 256 * b1.toNat + 65536 * b2.toNat + 16777216 * b3.toNat := by
  simp only [leNat]
  omega

theorem exec_finishProvisioning {s : State} {proof : Option Bytes} {body : Bytes} (hs : channelFree s = true)
    (h : requestWellFormed proof body = true) (hl : body.length = 4) (hok : finishesProvisioning s = true) :
    exec (.finishProvisioning proof body) s =
      .next (accepted (requestFrame .finishProvisioning proof body) (.restart (some (BitVec.ofNat 32 (leNat body)))) s) :=
  stateLength_taken hs h (by omega) (ok := finishesProvisioning) (fun _ => rfl) hok hl rfl

theorem restartWork_blocks (v : Option Word32) (s : State) : blocksReset (restartWork v (partReset s)) = true := by
  simp [blocksReset, partReset]

/-- R150, R152: the provisioning write ends and the preparation begins. -/
theorem provisioningWrite_ends (v : Word32) (s : State) :
    exec .storeWriteEnd (restartWork (some v) (partReset s)) =
      .next
        { State.reset with
          flash := s.flash
          store := s.store.apply (.provisioning v)
          rstLow := s.rstLow
          clock := s.clock
          draws := s.draws
          pending := s.pending } := by
  rw [exec_slotWriteEnd (who := .partReset) (w := .provisioning v) rfl (by exact nofun)]
  exact congrArg Host.Outcome.next (settle_atRest ⟨rfl, rfl, rfl, rfl, rfl, rfl⟩)

/-! ### TAKE_OWNERSHIP (R156) -/

section Ownership

variable {s : State} {proof : Option Bytes} {token : Bytes} (hready : ready s = true) (hlen : token.length = 32)
  (h : requestWellFormed proof token = true)
include hready hlen

theorem exec_takeOwnership (h : requestWellFormed proof token = true) (hl : s.store.lifecycle = .provisioned) :
    exec (.takeOwnership proof token) s =
      .next (digesting (requestFrame .takeOwnership proof token) (.tokenDigest .takeOwnership) (bufferItem .newToken token)
        s) :=
  stateLength_taken (ready_iff.1 hready).1 h (by omega) (ok := (lifecycleIs · .provisioned)) (fun _ => rfl)
    (decide_eq_true hl) hlen
    (digestAndWait_accepted _ .taken (.tokenDigest .takeOwnership) (bufferItem .newToken token) (ready_atRest hready)
      (ready_absorbing hready) nofun)

theorem takeOwnership_digested (h : requestWellFormed proof token = true) :
    exec .chunkEnd (digesting (requestFrame .takeOwnership proof token) (.tokenDigest .takeOwnership)
        (bufferItem .newToken token) s) =
      .next (writing .takeOwnership (requestFrame .takeOwnership proof (zeroBytes 32)) (.takeOwnership (sha256 token))
        { s with de.scanFirst := false }) := by
  obtain ⟨hcurrent, -⟩ := storeFree_iff.1 (ready_iff.1 hready).2.2.1
  rw [chunkEnd_digesting _ _ _ (by omega) (by omega) (ready_atRest hready) (ready_absorbing hready) (by exact nofun)]
  have hzero : zeroRange (requestFrame .takeOwnership proof token)
      (frameBodyStart (requestFrame .takeOwnership proof token)) 32 = requestFrame .takeOwnership proof (zeroBytes 32) := by
    have := zeroRange_body .takeOwnership (proof := proof) (a := []) (b := token) h
    rw [hlen] at this
    exact this
  have hdigested : channelDigest (sha256 token) (accepted (requestFrame .takeOwnership proof token)
      (.tokenDigest .takeOwnership) { s with de.scanFirst := false }) =
      writing .takeOwnership (requestFrame .takeOwnership proof (zeroBytes 32)) (.takeOwnership (sha256 token))
        { s with de.scanFirst := false } := by
    rw [← hzero]
    exact writeAndWait_accepted .takeOwnership (zeroRange (requestFrame .takeOwnership proof token)
      (frameBodyStart (requestFrame .takeOwnership proof token)) 32) (.tokenDigest .takeOwnership) _
      (s := { s with de.scanFirst := false }) hcurrent
  rw [hdigested]
  exact congrArg Host.Outcome.next (settle_atRest (show atRest s from ready_atRest hready))

end Ownership

end Sys2Proof.Machine

namespace Sys2Proof.Provisioning

open Sys2Proof Sys2Proof.Machine

/-- Settles O49: the draw of the GENERATE by whether it is in range. -/
theorem generateIdentityMakesKey : Obligations.GenerateIdentityMakesKey := by
  refine ⟨fun s proof body hs h hb => ⟨fun hl => ?_, fun hl hne => ?_⟩, fun s proof hready h hl => ?_⟩
  · exact state_refused hs h hb (ok := (lifecycleIs · .blank)) (fun _ => rfl) (decide_eq_false hl)
  · exact stateLength_refused hs h hb (ok := (lifecycleIs · .blank)) (fun _ => rfl) (decide_eq_true hl) (by simpa using hne)
  · by_cases hrange : 1 ≤ Config.randomNumber s.draws ∧ Config.randomNumber s.draws < p256Order
    · have hdraw : drawnScalar (Config.randomNumber s.draws) = some (Config.randomNumber s.draws) := if_pos hrange
      refine ⟨_, _, exec_generateIdentity hready h hl, rfl, rfl, rfl, generate_ends hready _ hdraw, rfl, rfl, ?_⟩
      intro secret
      rw [if_pos hrange]
      obtain ⟨hs, he, hw, hi⟩ := ready_iff.1 hready
      refine ⟨?_, rfl, _, writing_answered _ (s := drawn s) (ready_iff.2 ⟨hs, he, hw, hi⟩) rfl, rfl, ?_, rfl, rfl, rfl, rfl,
        rfl⟩
      · exact (enginesFree_iff.1 he).2.2.2.2
      · simp [holdsAnswer, answered]
        rfl
    · have hdraw : drawnScalar (Config.randomNumber s.draws) = none := if_neg hrange
      refine ⟨_, _, exec_generateIdentity hready h hl, rfl, rfl, rfl, generate_discards hready _ hdraw, rfl, rfl, ?_⟩
      intro secret
      rw [if_neg hrange]
      exact ⟨rfl, rfl, rfl⟩

/-- Settles O50: the checks, then the restart, its reset and the provisioning write. -/
theorem finishProvisioningChain : Obligations.FinishProvisioningChain := by
  refine ⟨?_, ?_⟩
  · intro s proof body hs h hb finishes complete
    refine ⟨fun hno => ?_, fun hc hlen => ?_⟩
    · exact state_refused hs h hb (ok := finishesProvisioning) (fun _ => rfl)
        (Bool.eq_false_iff.2 (mt finishesProvisioning_iff.1 hno))
    · exact stateLength_refused hs h hb (ok := finishesProvisioning) (fun _ => rfl) (finishesProvisioning_iff.2 hc) hlen
  · intro s proof b0 b1 b2 b3 hready h hl floor complete hc
    have hok : finishesProvisioning s = true := by
      simp only [complete, Bool.and_eq_true] at hc
      simp [finishesProvisioning, lifecycleIs, hl, hc]
    obtain ⟨hop, -⟩ := ready_atRest hready
    obtain ⟨hcurrent, -⟩ := storeFree_iff.1 (ready_iff.1 hready).2.2.1
    have hexec := exec_finishProvisioning (ready_iff.1 hready).1 h rfl hok
    rw [leNat_four] at hexec
    exact ⟨_, _, hexec, rfl, rfl, exec_restartReset (by rfl) (by exact hop) (by exact hcurrent), rfl,
      restartWork_blocks _ _, rfl, provisioningWrite_ends floor _⟩

/-- Settles O51: the digest of the token, then the ownership write. -/
theorem takeOwnershipChain : Obligations.TakeOwnershipChain := by
  refine ⟨fun s proof body hs h hb => ⟨fun hl => ?_, fun hl hlen => ?_⟩, fun s proof token hready hlen h hl => ?_⟩
  · exact state_refused hs h hb (ok := (lifecycleIs · .provisioned)) (fun _ => rfl) (decide_eq_false hl)
  · exact stateLength_refused hs h hb (ok := (lifecycleIs · .provisioned)) (fun _ => rfl) (decide_eq_true hl) hlen
  · have hzero : requestWellFormed proof (zeroBytes 32) = true := requestWellFormed_zeroed h (by simp [zeroBytes, hlen])
    refine ⟨_, _, exec_takeOwnership hready hlen h hl, rfl, rfl, rfl, takeOwnership_digested hready hlen h, rfl,
      (ready_atRest hready).2.2.1, requestFrame_body _ _ _ hzero, rfl, ?_⟩
    exact writing_answered _ (s := { s with de.scanFirst := false }) hready rfl

end Sys2Proof.Provisioning
end

section
/-! PROOFS. The owner gate (R157 to R159). -/

namespace Sys2Proof.Machine

/-! ### The gate and its digest (R157, R158) -/

/-- A request whose proof the engine digests at the gate. -/
def gating (r : Request) (proof body : Bytes) (s : State) : State :=
  digesting (requestFrame r (some proof) body) (.gateDigest r) (bufferItem .ownerProof proof) s

/-- R158: the frame of a gated request with its proof zeroed. -/
def provenFrame (r : Request) (body : Bytes) : Bytes := requestFrame r (some (zeroBytes 32)) body

/-- The state after a channel item has been digested: the order of placement is kept (R68). -/
def unscanned (s : State) : State := { s with de.scanFirst := false }

theorem ready_unscanned {s : State} (h : ready s = true) : ready (unscanned s) = true := h

/-- R158: a gated request that waits for the write of a failure count. -/
def gateWriting (r : Request) (passed : Bool) (n : Nat) (body : Bytes) (s : State) : State :=
  { accepted (provenFrame r body) (.gateWrite r passed) s with writes.current := some ⟨.channel, .failures n⟩ }

theorem wellFormed_body {body : Bytes} (proof : Option Bytes) (hp : ∀ p, proof = some p → p.length = 32) (hb : body.length ≤ 256) :
    requestWellFormed proof body = true := by
  cases proof with
  | none =>
    simp [requestWellFormed, requestLength]
    omega
  | some p =>
    have := hp p rfl
    simp [requestWellFormed, requestLength, this]
    omega

theorem wellFormed_proven {body : Bytes} (hb : body.length ≤ 256) : requestWellFormed (some (zeroBytes 32)) body = true :=
  wellFormed_body _ (fun p hp => by cases hp; simp [zeroBytes]) hb

section Gate

variable {s : State} {r : Request} {body : Bytes} (hb : body.length ≤ 256)

section Proof

include hb

theorem ownerGate_denies (j : Job) :
    ownerGate r (accepted (requestFrame r none body) j s) = answered r .denied [] s := by
  unfold ownerGate
  rw [show (accepted (requestFrame r none body) j s).mc.request = requestFrame r none body from rfl,
    requestFrame_proof _ _ _ (wellFormed_body none nofun hb)]
  dsimp only
  rw [respond_accepted]

variable {proof : Bytes} (hp : proof.length = 32)
include hp

theorem ownerGate_proof (j : Job) :
    ownerGate r (accepted (requestFrame r (some proof) body) j s) =
      if s.store.failures = 8 then answered r .lockedOut [] s
      else digestAndWait (.gateDigest r) (bufferItem .ownerProof proof) (accepted (requestFrame r (some proof) body) j s) := by
  unfold ownerGate
  rw [show (accepted (requestFrame r (some proof) body) j s).mc.request = requestFrame r (some proof) body from rfl,
    requestFrame_proof _ _ _ (wellFormed_body (some proof) (fun p h => by cases h; exact hp) hb)]
  dsimp only
  rw [respond_accepted]
  rfl

theorem ownerGate_locked (j : Job) (hf : s.store.failures = 8) :
    ownerGate r (accepted (requestFrame r (some proof) body) j s) = answered r .lockedOut [] s := by
  rw [ownerGate_proof hb hp, if_pos hf]

theorem ownerGate_digests (j : Job) (hready : ready s = true) (hf : s.store.failures ≠ 8) :
    ownerGate r (accepted (requestFrame r (some proof) body) j s) = gating r proof body s := by
  rw [ownerGate_proof hb hp, if_neg hf]
  exact digestAndWait_accepted _ j (.gateDigest r) _ (ready_atRest hready) (ready_absorbing hready) nofun

end Proof

section Digest

variable {proof : Bytes} (hp : proof.length = 32) (hready : ready s = true)
include hp hready

theorem gating_ends :
    exec .chunkEnd (gating r proof body s) =
      .next (settle (proofDigested r (sha256 proof)
        (accepted (requestFrame r (some proof) body) (.gateDigest r) (unscanned s)))) :=
  chunkEnd_digesting _ _ .ownerProof (by omega) (by omega) (ready_atRest hready) (ready_absorbing hready) nofun

theorem proofDigested_accepted (digest : Bytes) (j : Job) :
    proofDigested r digest (accepted (requestFrame r (some proof) body) j s) =
      if s.store.verifier = some digest then
        if s.store.failures = 0 then afterGate r (accepted (provenFrame r body) j s)
        else gateWriting r true 0 body s
      else gateWriting r false (s.store.failures + 1) body s := by
  obtain ⟨hcurrent, -⟩ := storeFree_iff.1 (ready_iff.1 hready).2.2.1
  have hzero : { accepted (requestFrame r (some proof) body) j s with
      mc.request := zeroRange (requestFrame r (some proof) body) 4 32 } = accepted (provenFrame r body) j s := by
    rw [zeroRange_proof r body hp]
    rfl
  unfold proofDigested
  rw [show (accepted (requestFrame r (some proof) body) j s).mc.request = requestFrame r (some proof) body from rfl, hzero]
  dsimp only
  rw [askWrite_free _ _ (by exact hcurrent), askWrite_free _ _ (by exact hcurrent)]
  rfl

/-- R158: a wrong proof is counted. -/
theorem gating_wrong (hv : s.store.verifier ≠ some (sha256 proof)) :
    exec .chunkEnd (gating r proof body s) = .next (gateWriting r false (s.store.failures + 1) body (unscanned s)) := by
  rw [gating_ends hp hready, proofDigested_accepted hp (ready_unscanned hready), if_neg (by exact hv)]
  exact congrArg Host.Outcome.next (settle_atRest (show atRest s from ready_atRest hready))

/-- R157, R158: a right proof with a count of 1 to 7 first writes the count as 0. -/
theorem gating_counted (hv : s.store.verifier = some (sha256 proof)) (h0 : s.store.failures ≠ 0) :
    exec .chunkEnd (gating r proof body s) = .next (gateWriting r true 0 body (unscanned s)) := by
  rw [gating_ends hp hready, proofDigested_accepted hp (ready_unscanned hready), if_pos (by exact hv), if_neg (by exact h0)]
  exact congrArg Host.Outcome.next (settle_atRest (show atRest s from ready_atRest hready))

/-- R157: a right proof with a count of 0 passes. -/
theorem gating_passes (hv : s.store.verifier = some (sha256 proof)) (h0 : s.store.failures = 0) :
    exec .chunkEnd (gating r proof body s) =
      .next (settle (afterGate r (accepted (provenFrame r body) (.gateDigest r) (unscanned s)))) := by
  rw [gating_ends hp hready, proofDigested_accepted hp (ready_unscanned hready), if_pos (by exact hv), if_pos (by exact h0)]

end Digest

section Count

variable (n : Nat) (hready : ready s = true)
include hready

theorem gateWriting_ends (passed : Bool) :
    exec .storeWriteEnd (gateWriting r passed n body s) =
      .next (settle (channelWriteEnded
        (accepted (provenFrame r body) (.gateWrite r passed) { s with store.failures := n }))) := by
  have hwrites := writesOf_storeFree (ready_iff.1 hready).2.2.1
  have hnone : { s.writes with current := none } = s.writes := by rw [hwrites]
  rw [exec_slotWriteEnd (who := .channel) (w := .failures n) (s := gateWriting r passed n body s)
    (by simp [gateWriting, hwrites]) (by simp [gateWriting])]
  have hstate : { gateWriting r passed n body s with
      store := (gateWriting r passed n body s).store.apply (.failures n), writes.current := none, fp.sent := [] } =
      accepted (provenFrame r body) (.gateWrite r passed) { s with store.failures := n } := by
    unfold gateWriting accepted
    dsimp only
    rw [show (afterTransaction s).writes = s.writes from rfl, hnone]
    rfl
  rw [hstate]
  rfl

/-- R157, R158: the wrong proof is answered DENIED. -/
theorem gateWriting_denied :
    exec .storeWriteEnd (gateWriting r false n body s) = .next (answered r .denied [] { s with store.failures := n }) := by
  rw [gateWriting_ends n hready]
  have hend : channelWriteEnded (accepted (provenFrame r body) (.gateWrite r false) { s with store.failures := n }) =
      answered r .denied [] { s with store.failures := n } := respond_accepted ..
  rw [hend]
  exact congrArg Host.Outcome.next (settle_atRest (show atRest s from ready_atRest hready))

end Count

end Gate

/-! ### The requests that are gated whatever they name (R157) -/

/-- R157: the six requests that go through the gate whatever they name. -/
def gatedRequests : List Request :=
  [.changeOwnerToken, .releaseOwnership, .addUpdateKey, .revokeUpdateKey, .storeCredential, .eraseCredential]

theorem takeRequest_gated {r : Request} (hr : r ∈ gatedRequests) : takeRequest r = takeGated r := by
  simp only [gatedRequests, List.mem_cons, List.not_mem_nil, or_false] at hr
  obtain rfl | rfl | rfl | rfl | rfl | rfl := hr <;> rfl

/-- A step that does not depend on what the channel waited for. -/
def IgnoresWaiting (f : State → State) : Prop := ∀ (j : ChannelState) (s : State), f { s with mc.state := j } = f s

theorem ignores_respond (status : Status) (answer : Bytes) : IgnoresWaiting (respond status answer) := fun _ _ => rfl

theorem ignores_digest (job : Job) (item : DigestItem) : IgnoresWaiting (digestAndWait job item) := fun _ _ => rfl

theorem ignores_write (r : Request) (w : StoreWrite) : IgnoresWaiting (writeAndWait r w) := fun j s => by
  unfold writeAndWait askWrite
  dsimp only
  cases s.writes.current <;> rfl

theorem ignores_withLength {n : Nat} {act : Bytes → State → State} (h : ∀ body, IgnoresWaiting (act body)) :
    IgnoresWaiting (withLength n act) := fun j s => by
  unfold withLength
  dsimp only
  rw [show requestBody { s with mc.state := j } = requestBody s from rfl, h _ j s, ignores_respond _ _ j s]

theorem ignores_ite {c : Prop} [Decidable c] {f g : State → State} (hf : IgnoresWaiting f) (hg : IgnoresWaiting g) :
    IgnoresWaiting fun s => if c then f s else g s := fun j s => by
  dsimp only
  rw [hf j s, hg j s]

theorem ignores_addUpdateKey : IgnoresWaiting passAddUpdateKey :=
  ignores_withLength fun body => ignores_ite (ignores_respond _ _) fun j s => by
    dsimp only
    cases s.store.keys.getD (byteAt body 0).toNat .empty with
    | empty => exact ignores_write _ _ j s
    | active | revoked => rfl

theorem ignores_revokeUpdateKey : IgnoresWaiting passRevokeUpdateKey :=
  ignores_withLength fun body => ignores_ite (ignores_respond _ _) fun j s => by
    dsimp only
    cases s.store.keys.getD (byteAt body 0).toNat .empty with
    | empty | revoked => rfl
    | active key =>
      dsimp only
      rw [ignores_respond _ _ j s, ignores_write _ _ j s]

theorem ignores_storeCredential : IgnoresWaiting passStoreCredential := fun j s => by
  unfold passStoreCredential
  rw [show requestBody { s with mc.state := j } = requestBody s from rfl]
  cases credentialOfBody (requestBody s) with
  | none => rfl
  | some c =>
    dsimp only
    rw [ignores_respond _ _ j s]
    congr 1
    exact ignores_write .storeCredential (.putCredential c) j { holdCredential c s with
      mc.request := zeroRange s.mc.request (frameBodyStart s.mc.request + 44)
        (s.mc.request.length - (frameBodyStart s.mc.request + 44)) }

theorem ignores_eraseCredential : IgnoresWaiting passEraseCredential :=
  ignores_withLength fun body => ignores_ite (ignores_respond _ _) fun j s => by
    dsimp only
    cases credentialAt s.store.credentials (byteAt body 0).toNat with
    | none => rfl
    | some c => exact ignores_write .eraseCredential (.removeCredential (byteAt body 0).toNat) j (holdCredential c s)

/-- What follows the gate does not depend on the channel's waiting before it. -/
theorem afterGate_waiting {r : Request} (hr : r ∈ gatedRequests) : IgnoresWaiting (afterGate r) := by
  simp only [gatedRequests, List.mem_cons, List.not_mem_nil, or_false] at hr
  obtain rfl | rfl | rfl | rfl | rfl | rfl := hr
  · exact ignores_withLength fun _ => ignores_digest _ _
  · exact ignores_withLength fun _ => ignores_write _ _
  · exact ignores_addUpdateKey
  · exact ignores_revokeUpdateKey
  · exact ignores_storeCredential
  · exact ignores_eraseCredential

section Gated

variable {s : State} {r : Request} {body : Bytes} (hr : r ∈ gatedRequests) (hb : body.length ≤ 256)
include hr

theorem exec_gated_refused {proof : Option Bytes} {body : Bytes} (hs : channelFree s = true)
    (h : requestWellFormed proof body = true) (hb : body.length ≤ 259) (hl : s.store.lifecycle ≠ .owned) :
    exec (requestInstr r proof body) s = .next (answered r .badState [] s) := by
  rw [exec_requestInstr, takeRequest_gated hr]
  exact state_refused hs h hb (ok := (lifecycleIs · .owned)) (fun _ => rfl) (decide_eq_false hl)

theorem exec_gated {proof : Option Bytes} {body : Bytes} (hs : channelFree s = true)
    (h : requestWellFormed proof body = true) (hb : body.length ≤ 259) (hl : s.store.lifecycle = .owned) :
    exec (requestInstr r proof body) s = .next (ownerGate r (accepted (requestFrame r proof body) .taken s)) := by
  rw [exec_requestInstr, takeRequest_gated hr]
  refine requestCommand_next hs h hb ?_
  rw [takeGated, withState_ok _ (by simpa [lifecycleIs] using hl)]

include hb

theorem exec_gated_denied (hs : channelFree s = true) (hl : s.store.lifecycle = .owned) :
    exec (requestInstr r none body) s = .next (answered r .denied [] s) := by
  rw [exec_gated hr hs (wellFormed_body none nofun hb) (by omega) hl, ownerGate_denies hb]

variable {proof : Bytes} (hp : proof.length = 32)
include hp

theorem exec_gated_locked (hs : channelFree s = true) (hl : s.store.lifecycle = .owned) (hf : s.store.failures = 8) :
    exec (requestInstr r (some proof) body) s = .next (answered r .lockedOut [] s) := by
  rw [exec_gated hr hs (wellFormed_body _ (fun p h => by cases h; exact hp) hb) (by omega) hl,
    ownerGate_locked hb hp _ hf]

theorem exec_gated_digests (hready : ready s = true) (hl : s.store.lifecycle = .owned) (hf : s.store.failures ≠ 8) :
    exec (requestInstr r (some proof) body) s = .next (gating r proof body s) := by
  rw [exec_gated hr (ready_iff.1 hready).1 (wellFormed_body _ (fun p h => by cases h; exact hp) hb) (by omega) hl,
    ownerGate_digests hb hp _ hready hf]

end Gated

/-! ### The lowering of the failure count (R159) -/

theorem hardReset_idleStore {s : State} (h : s.writes.current = none) : (hardReset s).store = s.store := by
  obtain hstore | ⟨w, hw, -⟩ := hardReset_store s
  · exact hstore
  · cases h.symm.trans hw

/-- R150, R159: the end of the lowering that a reset began. -/
theorem lowering_ends {s : State} (hw : s.writes = ⟨some ⟨.partReset, .lockoutLowering⟩, none⟩)
    (hj : s.mc.state = .working .resetWrite) :
    ∃ t, exec .storeWriteEnd s = .next t ∧ t.store = { s.store with failures := 7 } := by
  refine ⟨_, exec_slotWriteEnd hw (by rw [hj]; nofun), ?_⟩
  simp [writeEnded, resetWriteEnded, beginPreparation, send]
  rfl

end Sys2Proof.Machine

namespace Sys2Proof.Ownership

open Sys2Proof Sys2Proof.Machine

/-- Settles O53: the gate by the proof and the count, and the lowering of a count of 8 by each of the two resets. -/
theorem ownerGateCountsWrongProofs : Obligations.OwnerGateCountsWrongProofs := by
  intro r hr
  refine ⟨fun s proof body hs h hb hl => exec_gated_refused hr hs h hb hl, fun s body hready hl hb => ?_⟩
  obtain ⟨hs, -, hw, -⟩ := ready_iff.1 hready
  obtain ⟨hcurrent, -⟩ := storeFree_iff.1 hw
  refine ⟨exec_gated_denied hr hb hs hl, fun proof hp => ⟨fun hf => ⟨exec_gated_locked hr hb hp hs hl hf, ?_, ?_⟩,
    fun hf hv => ?_, fun hf h0 hv => ?_⟩⟩
  · have hstore := hardReset_idleStore hcurrent
    have hlocked : (hardReset s).store.failures = 8 := by rw [hstore]; exact hf
    obtain ⟨t, ht, hlow⟩ := lowering_ends (s := beginResetWork
      { freshPort { hardReset s with rstLow := true } with rstLow := false }) (by rw [beginResetWork_locked (by exact hlocked)])
      (by rw [beginResetWork_locked (by exact hlocked)])
    refine ⟨t, ?_, ?_⟩
    · simp only [runCommands, exec_pinReset, exec_rstNRelease, if_true, ht]
    · rw [hlow, beginResetWork_locked (by exact hlocked)]
      show { (hardReset s).store with failures := 7 } = _
      rw [hstore]
  · have hstore := hardReset_idleStore hcurrent
    have hlocked : (hardReset s).store.failures = 8 := by rw [hstore]; exact hf
    obtain ⟨t, ht, hlow⟩ := lowering_ends (s := beginResetWork (hardReset s)) (by rw [beginResetWork_locked hlocked])
      (by rw [beginResetWork_locked hlocked])
    have hhigh := (busFree_iff.1 (channelFree_iff.1 hs).1).1
    refine ⟨t, ?_, ?_⟩
    · simp only [runCommands, exec_powerOn, hhigh, Bool.false_eq_true, if_false, ht]
    · rw [hlow, beginResetWork_locked hlocked]
      show { (hardReset s).store with failures := 7 } = _
      rw [hstore]
  · refine ⟨_, _, exec_gated_digests hr hb hp hready hl (by omega), rfl, rfl, gating_wrong hp hready hv, rfl, ?_,
      gateWriting_denied _ (ready_unscanned hready)⟩
    have hproof := requestFrame_proof r _ body (wellFormed_proven hb)
    rw [frameProof, requestFrame_hasProof, Option.isSome_some, if_pos rfl] at hproof
    exact Option.some.inj hproof
  · have hpass := gating_passes (s := { s with store := { s.store with failures := 0 } }) (r := r) (body := body) hp hready hv rfl
    have hgoes : exec .storeWriteEnd (gateWriting r true 0 body (unscanned s)) =
        .next (settle (afterGate r (accepted (provenFrame r body) (.gateDigest r)
          (unscanned { s with store := { s.store with failures := 0 } })))) := by
      rw [gateWriting_ends 0 (ready_unscanned hready)]
      exact congrArg (fun u => Host.Outcome.next (settle u)) (afterGate_waiting hr (.working (.gateWrite r true))
        (accepted (provenFrame r body) (.gateDigest r) (unscanned { s with store := { s.store with failures := 0 } })))
    refine ⟨_, _, _, exec_gated_digests hr hb hp hready hl (by omega), gating_counted hp hready hv h0, rfl, rfl, rfl, hgoes,
      by simp [unscanned], ?_⟩
    have hdigests := exec_gated_digests (s := { s with store := { s.store with failures := 0 } }) hr hb hp hready hl
      (by simp)
    simp only [runCommands, hdigests, hpass]

end Sys2Proof.Ownership
end

section
/-! PROOFS. The requests behind the owner gate, with the right proof (R160 to R164, R171, R172, R176). -/

namespace Sys2Proof.Machine

/-! ### The body of STORE_CREDENTIAL (R165, R171) -/

theorem credClassOfCode_iff {b : Byte} {c : CredClass} : credClassOfCode b = some c ↔ b = credClassCode c := by
  refine ⟨fun h => ?_, fun h => ?_⟩
  · unfold credClassOfCode at h
    (repeat' split at h) <;> cases h <;> assumption
  · subst h
    cases c <;> rfl

theorem boolOfCode_iff {b : Byte} {x : Bool} : credentialOfBody.boolOfCode b = some x ↔ b = if x then 0x01 else 0x00 := by
  unfold credentialOfBody.boolOfCode
  refine ⟨fun h => ?_, fun h => ?_⟩
  · (repeat' split at h) <;> cases h <;> assumption
  · subst h
    cases x <;> rfl

/-- R165, R171: the fields that a binding kind uses, with every other one zero. -/
def bindingFields (kind mask : Byte) (signer minVersion : Nat) (reference : Bytes) : Binding → Prop
  | .none => kind = 0x00 ∧ mask = 0 ∧ signer = 0 ∧ minVersion = 0 ∧ reference = List.replicate 32 0
  | .lanes m r => kind = 0x01 ∧ m = mask ∧ mask ≠ 0 ∧ signer = 0 ∧ minVersion = 0 ∧ r = reference
  | .signer k v =>
    kind = 0x02 ∧ k = signer ∧ signer ≤ 3 ∧ v.toNat = minVersion ∧ mask = 0 ∧ reference = List.replicate 32 0

theorem bindingOf_fields {kind mask : Byte} {signer minVersion : Nat} {reference : Bytes} {b : Binding}
    (hv : minVersion < 2 ^ 32) (h : credentialOfBody.bindingOf kind mask signer minVersion reference = some b) :
    bindingFields kind mask signer minVersion reference b := by
  unfold credentialOfBody.bindingOf at h
  split at h
  · next hkind =>
    split at h
    · next hz =>
      cases h
      simp only [Bool.and_eq_true, decide_eq_true_eq] at hz
      obtain ⟨⟨⟨hm, hs⟩, hn⟩, hr⟩ := hz
      exact ⟨hkind, hm, hs, hn, hr⟩
    · cases h
  · split at h
    · next hkind =>
      split at h
      · cases h
      · next hz =>
        cases h
        simp only [Bool.or_eq_true, decide_eq_true_eq, not_or, not_not] at hz
        obtain ⟨⟨hm, hs⟩, hn⟩ := hz
        exact ⟨hkind, rfl, hm, hs, hn, rfl⟩
    · split at h
      · next hkind =>
        split at h
        · cases h
        · next hz =>
          cases h
          simp only [Bool.or_eq_true, decide_eq_true_eq, not_or, not_not, not_lt] at hz
          obtain ⟨⟨hs, hm⟩, hr⟩ := hz
          exact ⟨hkind, rfl, hs, by rw [BitVec.toNat_ofNat, Nat.mod_eq_of_lt hv], hm, hr⟩
      · cases h

theorem bindingOf_some {kind mask : Byte} {signer minVersion : Nat} {reference : Bytes} {b : Binding}
    (h : bindingFields kind mask signer minVersion reference b) :
    credentialOfBody.bindingOf kind mask signer minVersion reference = some b := by
  cases b with
  | none =>
    obtain ⟨rfl, rfl, rfl, rfl, rfl⟩ := h
    rfl
  | lanes m r =>
    obtain ⟨rfl, rfl, hm, rfl, rfl, rfl⟩ := h
    unfold credentialOfBody.bindingOf
    rw [if_neg (by decide), if_pos rfl, if_neg]
    simp only [Bool.or_eq_true, decide_eq_true_eq, not_or, ne_eq, not_true_eq_false, not_false_eq_true, and_true]
    exact hm
  | signer k v =>
    obtain ⟨rfl, rfl, hs, rfl, rfl, rfl⟩ := h
    simp [credentialOfBody.bindingOf, hs, zeroBytes]

theorem leNat_lt (l : Bytes) : leNat l < 256 ^ l.length := by
  induction l with
  | nil => decide
  | cons b rest ih =>
    have hb := b.isLt
    rw [leNat, List.length_cons, Nat.pow_succ]
    omega

theorem leAt_lt (body : Bytes) (off : Nat) : leAt body off 4 < 2 ^ 32 := by
  refine (leNat_lt _).trans_le ?_
  calc 256 ^ (slice body off 4).length ≤ 256 ^ 4 := Nat.pow_le_pow_right (by decide) (by simp [slice])
    _ = 2 ^ 32 := by decide

/-- R165, R171, R205: the record that a STORE_CREDENTIAL body describes. -/
theorem credentialOfBody_iff {body : Bytes} {c : Credential} : credentialOfBody body = some c ↔ storeBodyOf body c := by
  unfold credentialOfBody storeBodyOf
  dsimp only
  refine ⟨fun h => ?_, ?_⟩
  · split at h
    · cases h
    · next hcheck =>
      simp only [Bool.or_eq_true, decide_eq_true_eq, not_or, not_lt, not_not] at hcheck
      obtain ⟨⟨⟨⟨hshort, hlen⟩, hone⟩, hmax⟩, hhandle⟩ := hcheck
      simp only [Option.bind_eq_bind, Option.bind_eq_some_iff] at h
      obtain ⟨cls, hcls, internal, hinternal, gated, hgated, binding, hbinding, hc⟩ := h
      cases hc
      have hsecret : (body.drop 44).length = (byteAt body 7).toNat := by
        rw [List.length_drop]
        omega
      refine ⟨rfl, hhandle, credClassOfCode_iff.1 hcls, ?_, boolOfCode_iff.1 hgated, by rw [hsecret]; exact hlen,
        hsecret.symm, by rw [hsecret]; exact hone, by rw [hsecret]; exact hmax, rfl,
        bindingOf_fields (leAt_lt body 8) hbinding⟩
      rw [boolOfCode_iff.1 hinternal]
      cases internal <;> rfl
  · obtain ⟨handle, cls, exportable, gated, binding, secret⟩ := c
    rintro ⟨rfl, hhandle, hcls, hmode, hgated, hlen, hbyte, hone, hmax, rfl, hbinding⟩
    dsimp only at hhandle hlen hbyte hone hmax
    rw [if_neg (by simp only [Bool.or_eq_true, decide_eq_true_eq]; omega),
      show credClassOfCode (byteAt body 1) = some cls from credClassOfCode_iff.2 hcls,
      show credentialOfBody.boolOfCode (byteAt body 2) = some (!exportable) from
        boolOfCode_iff.2 (hmode.trans (by cases exportable <;> rfl)),
      show credentialOfBody.boolOfCode (byteAt body 3) = some gated from boolOfCode_iff.2 hgated,
      show credentialOfBody.bindingOf (byteAt body 4) (byteAt body 5) (byteAt body 6).toNat (leAt body 8 4)
        (slice body 12 32) = some binding from bindingOf_some hbinding]
    simp

/-! ### The directory after a store (R165) -/

theorem putCredential_sorted {c : Credential} {l : List Credential} (h : l.Pairwise fun c d => c.handle < d.handle) :
    putCredential c l =
      l.filter (fun d => decide (d.handle < c.handle)) ++ c :: l.filter (fun d => decide (c.handle < d.handle)) := by
  induction l with
  | nil => rfl
  | cons e rest ih =>
    obtain ⟨he, hrest⟩ := List.pairwise_cons.1 h
    have habove : c.handle ≤ e.handle → rest.filter (fun d => decide (d.handle < c.handle)) = [] ∧
        rest.filter (fun d => decide (c.handle < d.handle)) = rest := fun hle =>
      ⟨List.filter_eq_nil_iff.2 fun d hd => by have := he d hd; simp; omega,
        List.filter_eq_self.2 fun d hd => by have := he d hd; simp; omega⟩
    obtain hlt | heq | hgt := Nat.lt_trichotomy c.handle e.handle
    · obtain ⟨hnone, hall⟩ := habove hlt.le
      simp [putCredential, hlt, hnone, hall, hlt.not_gt]
    · obtain ⟨hnone, hall⟩ := habove heq.le
      unfold putCredential
      rw [if_neg (by omega), if_pos heq, List.filter_cons_of_neg (by simp; omega), List.filter_cons_of_neg (by simp; omega),
        hnone, hall]
      rfl
    · have hne : c.handle ≠ e.handle := by omega
      simp [putCredential, hgt.not_gt, hne, hgt, ih hrest]

/-! ### Behind the gate (R160 to R164, R171, R172, R176) -/

/-- A gated request behind the gate, with nothing else in hand. -/
def gated (r : Request) (body : Bytes) (s : State) : State :=
  accepted (provenFrame r body) (.gateDigest r) (unscanned s)

theorem requestBody_gated {r : Request} {body : Bytes} {s : State} (hb : body.length ≤ 256) :
    requestBody (gated r body s) = body := requestBody_accepted (wellFormed_proven hb)

theorem respond_gated (r : Request) (body : Bytes) (status : Status) (answer : Bytes) (s : State) :
    respond status answer (gated r body s) = answered r status answer (unscanned s) := respond_accepted ..

theorem settle_digesting {s : State} (frame : Bytes) (job : Job) (item : DigestItem) (ha : atRest s) :
    settle (digesting frame job item s) = digesting frame job item s := by
  obtain ⟨hop, -, -, hss, hsc, hchunk⟩ := ha
  rw [settle, startOperation_none (by exact hop), startAbsorption_busy rfl, startSignature_empty (by exact hss) (by exact hsc),
    startChunkRead_none (by exact hchunk), ite_self]

section Behind

variable {s : State} {body : Bytes} (hb : body.length ≤ 256) (hw : s.writes.current = none)
include hb

section Refused

theorem pass_length {r : Request} {n : Nat} {act : Bytes → State → State} (hl : body.length ≠ n) :
    withLength n act (gated r body s) = answered r .badArgument [] (unscanned s) := by
  rw [withLength_bad (requestBody_gated hb) hl, respond_gated]

theorem passAddUpdateKey_index (hi : body.length ≠ 65 ∨ 3 < (byteAt body 0).toNat) :
    passAddUpdateKey (gated .addUpdateKey body s) = answered .addUpdateKey .badArgument [] (unscanned s) := by
  by_cases hl : body.length = 65
  · rw [passAddUpdateKey, withLength_ok (requestBody_gated hb) hl]
    exact (if_pos (hi.resolve_left (not_not_intro hl))).trans (respond_gated ..)
  · exact pass_length hb hl

theorem passRevokeUpdateKey_index (hi : body.length ≠ 1 ∨ 3 < (byteAt body 0).toNat) :
    passRevokeUpdateKey (gated .revokeUpdateKey body s) = answered .revokeUpdateKey .badArgument [] (unscanned s) := by
  by_cases hl : body.length = 1
  · rw [passRevokeUpdateKey, withLength_ok (requestBody_gated hb) hl]
    exact (if_pos (hi.resolve_left (not_not_intro hl))).trans (respond_gated ..)
  · exact pass_length hb hl

theorem passEraseCredential_handle (hi : body.length ≠ 1 ∨ 31 < (byteAt body 0).toNat) :
    passEraseCredential (gated .eraseCredential body s) = answered .eraseCredential .badArgument [] (unscanned s) := by
  by_cases hl : body.length = 1
  · rw [passEraseCredential, withLength_ok (requestBody_gated hb) hl]
    exact (if_pos (hi.resolve_left (not_not_intro hl))).trans (respond_gated ..)
  · exact pass_length hb hl

end Refused

section AddKey

variable (hl : body.length = 65) (hi : (byteAt body 0).toNat ≤ 3)
include hl hi

theorem passAddUpdateKey_held (hk : s.store.keys.getD (byteAt body 0).toNat .empty ≠ .empty) :
    passAddUpdateKey (gated .addUpdateKey body s) = answered .addUpdateKey .badState [] (unscanned s) := by
  rw [passAddUpdateKey, withLength_ok (requestBody_gated hb) hl]
  refine (if_neg (Nat.not_lt.2 hi)).trans ?_
  rw [show (gated .addUpdateKey body s).store = s.store from rfl]
  split
  · next h => exact absurd h hk
  · exact respond_gated ..

include hw in
theorem passAddUpdateKey_writes (hk : s.store.keys.getD (byteAt body 0).toNat .empty = .empty) :
    passAddUpdateKey (gated .addUpdateKey body s) =
      writing .addUpdateKey (provenFrame .addUpdateKey body) (.keySlot (byteAt body 0).toNat (.active (body.drop 1)))
        (unscanned s) := by
  rw [passAddUpdateKey, withLength_ok (requestBody_gated hb) hl]
  refine (if_neg (Nat.not_lt.2 hi)).trans ?_
  rw [show (gated .addUpdateKey body s).store = s.store from rfl, hk]
  exact writeAndWait_accepted .addUpdateKey _ _ _ hw

end AddKey

section RevokeKey

variable (hl : body.length = 1) (hi : (byteAt body 0).toNat ≤ 3)
include hl hi

theorem passRevokeUpdateKey_inactive (hk : ∀ key, s.store.keys.getD (byteAt body 0).toNat .empty ≠ .active key) :
    passRevokeUpdateKey (gated .revokeUpdateKey body s) = answered .revokeUpdateKey .badState [] (unscanned s) := by
  rw [passRevokeUpdateKey, withLength_ok (requestBody_gated hb) hl]
  refine (if_neg (Nat.not_lt.2 hi)).trans ?_
  rw [show (gated .revokeUpdateKey body s).store = s.store from rfl]
  split
  · next h => exact absurd h (hk _)
  · exact respond_gated ..

theorem passRevokeUpdateKey_active {key : Bytes} (hk : s.store.keys.getD (byteAt body 0).toNat .empty = .active key) :
    passRevokeUpdateKey (gated .revokeUpdateKey body s) =
      if s.isc.boot.signer = some (byteAt body 0).toNat then answered .revokeUpdateKey .keyInUse [] (unscanned s)
      else if (s.store.keys.filter keyActive).length = 1 then answered .revokeUpdateKey .keyInUse [] (unscanned s)
      else
        writeAndWait .revokeUpdateKey (.keySlot (byteAt body 0).toNat (.revoked key)) (gated .revokeUpdateKey body s) := by
  rw [passRevokeUpdateKey, withLength_ok (requestBody_gated hb) hl]
  refine (if_neg (Nat.not_lt.2 hi)).trans ?_
  rw [show (gated .revokeUpdateKey body s).store = s.store from rfl, hk, respond_gated]
  rfl

theorem passRevokeUpdateKey_inUse {key : Bytes} (hk : s.store.keys.getD (byteAt body 0).toNat .empty = .active key)
    (hu : s.isc.boot.signer = some (byteAt body 0).toNat ∨ (s.store.keys.filter keyActive).length = 1) :
    passRevokeUpdateKey (gated .revokeUpdateKey body s) = answered .revokeUpdateKey .keyInUse [] (unscanned s) := by
  rw [passRevokeUpdateKey_active hb hl hi hk]
  split
  · rfl
  · next hs => rw [if_pos (hu.resolve_left hs)]

include hw in
theorem passRevokeUpdateKey_writes {key : Bytes} (hk : s.store.keys.getD (byteAt body 0).toNat .empty = .active key)
    (hs : s.isc.boot.signer ≠ some (byteAt body 0).toNat) (hone : (s.store.keys.filter keyActive).length ≠ 1) :
    passRevokeUpdateKey (gated .revokeUpdateKey body s) =
      writing .revokeUpdateKey (provenFrame .revokeUpdateKey body) (.keySlot (byteAt body 0).toNat (.revoked key))
        (unscanned s) := by
  rw [passRevokeUpdateKey_active hb hl hi hk, if_neg hs, if_neg hone]
  exact writeAndWait_accepted .revokeUpdateKey _ _ _ hw

end RevokeKey

section Erase

variable (hl : body.length = 1) (hi : (byteAt body 0).toNat ≤ 31)
include hl hi

theorem passEraseCredential_none (hc : credentialAt s.store.credentials (byteAt body 0).toNat = none) :
    passEraseCredential (gated .eraseCredential body s) = answered .eraseCredential .notFound [] (unscanned s) := by
  rw [passEraseCredential, withLength_ok (requestBody_gated hb) hl]
  refine (if_neg (Nat.not_lt.2 hi)).trans ?_
  rw [show (gated .eraseCredential body s).store = s.store from rfl, hc]
  exact respond_gated ..

include hw in
theorem passEraseCredential_writes {c : Credential}
    (hc : credentialAt s.store.credentials (byteAt body 0).toNat = some c) :
    passEraseCredential (gated .eraseCredential body s) =
      writing .eraseCredential (provenFrame .eraseCredential body) (.removeCredential (byteAt body 0).toNat)
        (holdCredential c (unscanned s)) := by
  rw [passEraseCredential, withLength_ok (requestBody_gated hb) hl]
  refine (if_neg (Nat.not_lt.2 hi)).trans ?_
  rw [show (gated .eraseCredential body s).store = s.store from rfl, hc]
  exact writeAndWait_accepted .eraseCredential (provenFrame .eraseCredential body) (.gateDigest .eraseCredential) _
    (s := holdCredential c (unscanned s)) hw

end Erase

/-! ### STORE_CREDENTIAL (R171, R172) -/

theorem passStoreCredential_bad (hc : ∀ c, ¬ storeBodyOf body c) :
    passStoreCredential (gated .storeCredential body s) = answered .storeCredential .badArgument [] (unscanned s) := by
  have hnone : credentialOfBody body = none := Option.eq_none_iff_forall_ne_some.2 fun c h => hc c (credentialOfBody_iff.1 h)
  unfold passStoreCredential
  rw [requestBody_gated hb, hnone]
  exact respond_gated ..

theorem passStoreCredential_full {c : Credential} (hc : storeBodyOf body c)
    (hfull : 2048 < bytesAfterStore s.store.credentials c) :
    passStoreCredential (gated .storeCredential body s) = answered .storeCredential .noSpace [] (unscanned s) := by
  unfold passStoreCredential
  rw [requestBody_gated hb, credentialOfBody_iff.2 hc]
  exact (if_pos hfull).trans (respond_gated ..)

/-- R171: a STORE_CREDENTIAL body with its secret zeroed. -/
def secretZeroed (body : Bytes) : Bytes := body.take 44 ++ zeroBytes (body.length - 44)

include hw in
theorem passStoreCredential_writes {c : Credential} (hc : storeBodyOf body c)
    (hfit : bytesAfterStore s.store.credentials c ≤ 2048) :
    passStoreCredential (gated .storeCredential body s) =
      writing .storeCredential (provenFrame .storeCredential (secretZeroed body)) (.putCredential c)
        (holdCredential c (unscanned s)) := by
  have h44 : 44 ≤ body.length := by
    obtain ⟨-, -, -, -, -, hlen, -⟩ := hc
    omega
  have hzero : zeroRange (provenFrame .storeCredential body) (frameBodyStart (provenFrame .storeCredential body) + 44)
      ((provenFrame .storeCredential body).length - (frameBodyStart (provenFrame .storeCredential body) + 44)) =
      provenFrame .storeCredential (secretZeroed body) := by
    have hframe := zeroRange_body .storeCredential (proof := some (zeroBytes 32)) (a := body.take 44) (b := body.drop 44)
      (by rw [List.take_append_drop]; exact wellFormed_proven hb)
    rw [List.take_append_drop, List.length_take, List.length_drop, Nat.min_eq_left h44] at hframe
    have hlen : (provenFrame .storeCredential body).length -
        (frameBodyStart (provenFrame .storeCredential body) + 44) = body.length - 44 := by
      unfold provenFrame frameBodyStart
      rw [requestFrame_length, requestFrame_hasProof, Option.isSome_some, if_pos rfl]
      simp [requestLength, zeroBytes]
      omega
    rw [hlen]
    exact hframe
  unfold passStoreCredential
  rw [requestBody_gated hb, credentialOfBody_iff.2 hc]
  refine (if_neg (Nat.not_lt.2 hfit)).trans ?_
  rw [← hzero]
  exact writeAndWait_accepted .storeCredential _ (.gateDigest .storeCredential) (.putCredential c)
    (s := holdCredential c (unscanned s)) hw

end Behind

/-! ### A right proof (R157) -/

section Right

variable {s : State} {proof : Bytes} (hready : ready s = true) (hright : proofRight s proof = true) (h0 : s.store.failures = 0)
  {r : Request} (hr : r ∈ gatedRequests) {body : Bytes} (hb : body.length ≤ 256)

theorem proofRight_iff :
    proofRight s proof = true ↔
      s.store.lifecycle = .owned ∧ s.store.failures < 8 ∧ proof.length = 32 ∧ s.store.verifier = some (sha256 proof) := by
  simp [proofRight, and_assoc]

include hready hright

include hr hb in
theorem exec_right : exec (requestInstr r (some proof) body) s = .next (gating r proof body s) := by
  obtain ⟨hl, hf, hp, -⟩ := proofRight_iff.1 hright
  exact exec_gated_digests hr hb hp hready hl (by omega)

include h0

theorem gating_right : exec .chunkEnd (gating r proof body s) = .next (settle (afterGate r (gated r body s))) := by
  obtain ⟨-, -, hp, hv⟩ := proofRight_iff.1 hright
  exact gating_passes hp hready hv h0

/-- R157, R189: a request refused behind the gate. -/
theorem gate_refuses {status : Status} (h : afterGate r (gated r body s) = answered r status [] (unscanned s)) :
    exec .chunkEnd (gating r proof body s) = .next { answered r status [] s with de.scanFirst := false } := by
  rw [gating_right hready hright h0, h]
  exact congrArg Host.Outcome.next (settle_atRest (show atRest s from ready_atRest hready))

/-- R148, R157: a request that asks for its write behind the gate. -/
theorem gate_writes {frame : Bytes} {w : StoreWrite} {u : State} (hu : atRest u)
    (h : afterGate r (gated r body s) = writing r frame w u) :
    exec .chunkEnd (gating r proof body s) = .next (writing r frame w u) := by
  rw [gating_right hready hright h0, h]
  exact congrArg Host.Outcome.next (settle_atRest (show atRest u from hu))

end Right

section Chains

variable {s : State} {proof : Bytes} (hready : ready s = true) (hright : proofRight s proof = true) (h0 : s.store.failures = 0)
include hready hright h0

/-- R160: the new token is digested, and its digest written. -/
theorem changeOwnerToken_chain {token : Bytes} (hlen : token.length = 32) :
    exec .chunkEnd (gating .changeOwnerToken proof token s) =
        .next (digesting (provenFrame .changeOwnerToken token) (.tokenDigest .changeOwnerToken) (bufferItem .newToken token)
          (unscanned s)) ∧
      exec .chunkEnd (digesting (provenFrame .changeOwnerToken token) (.tokenDigest .changeOwnerToken)
          (bufferItem .newToken token) (unscanned s)) =
        .next (writing .changeOwnerToken (provenFrame .changeOwnerToken token) (.verifier (sha256 token)) (unscanned s)) := by
  have hready' : ready (unscanned s) = true := hready
  have hrest := ready_atRest hready'
  have hb : token.length ≤ 256 := by omega
  obtain ⟨hcurrent, -⟩ := storeFree_iff.1 (ready_iff.1 hready).2.2.1
  constructor
  · have hpass : afterGate .changeOwnerToken (gated .changeOwnerToken token s) =
        digesting (provenFrame .changeOwnerToken token) (.tokenDigest .changeOwnerToken) (bufferItem .newToken token)
          (unscanned s) := by
      show passChangeOwnerToken _ = _
      rw [passChangeOwnerToken, withLength_ok (requestBody_gated hb) hlen]
      exact digestAndWait_accepted _ _ _ _ hrest (ready_absorbing hready') nofun
    rw [gating_right hready hright h0, hpass, settle_digesting _ _ _ hrest]
  · have hend : channelDigest (sha256 token) (accepted (provenFrame .changeOwnerToken token)
        (.tokenDigest .changeOwnerToken) (unscanned s)) =
        writing .changeOwnerToken (provenFrame .changeOwnerToken token) (.verifier (sha256 token)) (unscanned s) :=
      writeAndWait_accepted .changeOwnerToken _ _ _ hcurrent
    rw [chunkEnd_digesting _ _ _ (by omega) hb hrest (ready_absorbing hready') (by exact nofun)]
    exact congrArg Host.Outcome.next ((congrArg settle hend).trans (settle_atRest (show atRest (unscanned s) from hrest)))

omit hright h0 in
/-- R206: the answer to a key slot request whose slot has been written. -/
theorem keySlot_answered {r : Request} (hr : r = .addUpdateKey ∨ r = .revokeUpdateKey) {body : Bytes} {i : Byte} {k : KeySlot}
    (hb : body.length ≤ 256) (hi : byteAt body 0 = i) (hlt : i.toNat < s.store.keys.length) :
    exec .storeWriteEnd (writing r (provenFrame r body) (.keySlot i.toNat k) (unscanned s)) =
      .next (answered r .ok [i, keySlotCode k]
        { unscanned s with store := { s.store with keys := s.store.keys.set i.toNat k } }) := by
  refine writing_answered (.keySlot i.toNat k) (s := unscanned s) hready ?_
  have hbody : keySlotBody { s.store with keys := s.store.keys.set i.toNat k } i.toNat = [i, keySlotCode k] := by
    unfold keySlotBody
    dsimp only
    rw [List.getD_eq_getElem _ _ (by rw [List.length_set]; omega), List.getElem_set_self, leBytes_one]
    simp
  rw [← hbody, ← hi]
  obtain rfl | rfl := hr <;>
    exact congrArg (fun b => keySlotBody _ (byteAt b 0).toNat) (requestBody_accepted (wellFormed_proven hb))

end Chains

end Sys2Proof.Machine
end

section
/-! PROOFS. The six owner-gated requests, from taking to answer (R160 to R164, R171, R172, R176). -/

namespace Sys2Proof.Machine

theorem credentialTotals_eq (l : List Credential) :
    credentialTotals l = [BitVec.ofNat 8 l.length] ++ leBytes 2 (l.map fun d => d.secret.length).sum := by
  rw [credentialTotals, leBytes_one]
  rfl

section Chains

variable {s : State} {proof : Bytes} (hready : ready s = true) (hright : proofRight s proof = true) (h0 : s.store.failures = 0)
include hready

/-- R176, R206: the answer to ERASE_CREDENTIAL. -/
theorem eraseCredential_answered (h : Byte) (c : Credential) :
    exec .storeWriteEnd (writing .eraseCredential (provenFrame .eraseCredential [h]) (.removeCredential h.toNat)
        (holdCredential c (unscanned s))) =
      .next (answered .eraseCredential .ok
        ([h] ++ credentialTotals (s.store.credentials.filter fun d => d.handle != h.toNat))
        { unscanned s with store := { s.store with
          credentials := s.store.credentials.filter fun d => d.handle != h.toNat } }) := by
  refine writing_answered (.removeCredential h.toNat) (s := holdCredential c (unscanned s)) hready ?_
  have hbody : credentialChangeBody h.toNat (s.store.credentials.filter fun d => d.handle != h.toNat) =
      [h] ++ credentialTotals (s.store.credentials.filter fun d => d.handle != h.toNat) := by
    rw [credentialChangeBody, leBytes_one]
    simp
  rw [← hbody]
  exact congrArg (fun b => credentialChangeBody (byteAt b 0).toNat _)
    (requestBody_accepted (wellFormed_proven (body := [h]) (by simp)))

/-- R172, R206: the answer to STORE_CREDENTIAL. -/
theorem storeCredential_answered {body : Bytes} {c : Credential} (hb : body.length ≤ 256) (hc : storeBodyOf body c) :
    exec .storeWriteEnd (writing .storeCredential (provenFrame .storeCredential (secretZeroed body)) (.putCredential c)
        (holdCredential c (unscanned s))) =
      .next (answered .storeCredential .ok
        ([BitVec.ofNat 8 c.handle] ++ credentialTotals (putCredential c s.store.credentials))
        { unscanned s with store := { s.store with credentials := putCredential c s.store.credentials } }) := by
  refine writing_answered (.putCredential c) (s := holdCredential c (unscanned s)) hready ?_
  obtain ⟨hhandle, -, -, -, -, hlen, -⟩ := hc
  have hzlen : (secretZeroed body).length ≤ 256 := by
    simp [secretZeroed, zeroBytes]
    omega
  have hbyte : byteAt (secretZeroed body) 0 = byteAt body 0 := by
    obtain ⟨b, rest, rfl⟩ := List.exists_cons_of_length_pos (l := body) (by omega)
    rfl
  have hbody : credentialChangeBody (byteAt (secretZeroed body) 0).toNat (putCredential c s.store.credentials) =
      [BitVec.ofNat 8 c.handle] ++ credentialTotals (putCredential c s.store.credentials) := by
    rw [credentialChangeBody, leBytes_one, hbyte, ← hhandle]
  rw [← hbody]
  exact congrArg (fun b => credentialChangeBody (byteAt b 0).toNat _)
    (requestBody_accepted (wellFormed_proven hzlen))

end Chains

/-- R171: the bytes of a STORE_CREDENTIAL frame from its secret on are zero. -/
theorem secretZeroed_drop (body : Bytes) (h : 44 ≤ body.length) :
    ∀ b ∈ (provenFrame .storeCredential (secretZeroed body)).drop (36 + 44), b = 0 := by
  have hdrop : (provenFrame .storeCredential (secretZeroed body)).drop (36 + 44) = zeroBytes (body.length - 44) := by
    unfold provenFrame secretZeroed
    rw [requestFrame_header, List.drop_append, List.drop_append, List.drop_append]
    simp [zeroBytes, Nat.min_eq_left h]
  rw [hdrop]
  exact fun b hb => (List.mem_replicate.1 hb).2

theorem directory_pairwise {s : State} (h : directoryOk s = true) :
    s.store.credentials.Pairwise fun c d => c.handle < d.handle := by
  simp only [directoryOk, Bool.and_eq_true] at h
  obtain ⟨⟨⟨hsorted, -⟩, -⟩, -⟩ := h
  exact ((directorySorted_iff _).1 hsorted).2

end Sys2Proof.Machine

namespace Sys2Proof.Ownership

open Sys2Proof Sys2Proof.Machine

/-- Settles O52: each of the six requests behind the gate, by its own checks and its one write. -/
theorem gatedRequestsWithRightProof : Obligations.GatedRequestsWithRightProof := by
  intro s proof hready hright h0 done refused used totals
  obtain ⟨hs, -, hw, -⟩ := ready_iff.1 hready
  obtain ⟨hcurrent, -⟩ := storeFree_iff.1 hw
  have hrest : atRest (unscanned s) := ready_atRest (s := unscanned s) hready
  have hmem : Request.changeOwnerToken ∈ gatedRequests ∧ Request.releaseOwnership ∈ gatedRequests ∧
      Request.addUpdateKey ∈ gatedRequests ∧ Request.revokeUpdateKey ∈ gatedRequests ∧
      Request.storeCredential ∈ gatedRequests ∧ Request.eraseCredential ∈ gatedRequests := by
    simp [gatedRequests]
  obtain ⟨hchange, hrelease, hadd, hrevoke, hstore, herase⟩ := hmem
  refine ⟨fun token hlen => ?_, ?_, fun i key hlen hi hkeys hempty => ?_, fun i key hi hkeys hactive hsigner hone => ?_,
    ?_, fun h c hh hc => ?_, ?_⟩
  · obtain ⟨hdigested, hwritten⟩ := changeOwnerToken_chain hready hright h0 hlen
    exact ⟨_, _, _, exec_right hready hright hchange (by omega), hdigested, rfl, hwritten, rfl, rfl,
      writing_answered (.verifier (sha256 token)) (s := unscanned s) hready rfl⟩
  · have hpass : afterGate .releaseOwnership (gated .releaseOwnership [] s) =
        writing .releaseOwnership (provenFrame .releaseOwnership []) .releaseOwnership (unscanned s) := by
      show passReleaseOwnership _ = _
      rw [passReleaseOwnership, withLength_ok (n := 0) (requestBody_gated (by simp)) rfl]
      exact writeAndWait_accepted .releaseOwnership _ _ _ hcurrent
    exact ⟨_, _, exec_right hready hright hrelease (by simp), gate_writes hready hright h0 hrest hpass,
      rfl, rfl, writing_answered .releaseOwnership (s := unscanned s) hready rfl⟩
  · have hb : (i :: key).length ≤ 256 := by simp [hlen]
    have hpass := passAddUpdateKey_writes (s := s) hb hcurrent (by simp [hlen]) hi hempty
    exact ⟨_, _, exec_right hready hright hadd hb, gate_writes hready hright h0 hrest hpass, rfl, rfl,
      keySlot_answered hready (.inl rfl) hb rfl (by show i.toNat < _; omega)⟩
  · have hb : [i].length ≤ 256 := by simp
    have hpass := passRevokeUpdateKey_writes (s := s) hb hcurrent rfl hi hactive hsigner hone
    exact ⟨_, _, exec_right hready hright hrevoke hb, gate_writes hready hright h0 hrest hpass, rfl, rfl,
      keySlot_answered hready (.inr rfl) hb rfl (by show i.toNat < _; omega)⟩
  · intro body c hc hdir hfit after
    have hlen : 44 ≤ body.length ∧ body.length ≤ 256 := by
      obtain ⟨-, -, -, -, -, hlen, -, -, hmax, -⟩ := hc
      omega
    have hafter : putCredential c s.store.credentials = after := putCredential_sorted (directory_pairwise hdir)
    have hpass := passStoreCredential_writes hlen.2 hcurrent hc hfit
    refine ⟨_, _, exec_right hready hright hstore hlen.2, gate_writes hready hright h0
      (u := holdCredential c (unscanned s)) hrest hpass, rfl, rfl, rfl, secretZeroed_drop body hlen.1, ?_⟩
    rw [storeCredential_answered hready hlen.2 hc, hafter, credentialTotals_eq]
    rfl
  · have hb : [h].length ≤ 256 := by simp
    have hpass := passEraseCredential_writes (s := s) hb hcurrent rfl hh hc
    refine ⟨_, _, exec_right hready hright herase hb, gate_writes hready hright h0 (u := holdCredential c (unscanned s))
      hrest hpass, rfl, rfl, rfl, ?_⟩
    rw [show byteAt [h] 0 = h from rfl, eraseCredential_answered hready h c, credentialTotals_eq]
    rfl
  · intro body hb i slot
    have hrefused : ∀ {r : Request} {status : Status}, r ∈ gatedRequests →
        afterGate r (gated r body s) = answered r status [] (unscanned s) → refused r body status :=
      fun hr h => ⟨_, exec_right hready hright hr hb, gate_refuses hready hright h0 h⟩
    refine ⟨fun hl => hrefused hchange ?_, fun hne => hrefused hrelease ?_,
      fun hi => hrefused hadd (passAddUpdateKey_index hb hi), fun hl hi hk => hrefused hadd (passAddUpdateKey_held hb hl hi hk),
      fun hi => hrefused hrevoke (passRevokeUpdateKey_index hb hi),
      fun hl hi hk => hrefused hrevoke (passRevokeUpdateKey_inactive hb hl hi hk),
      fun key hl hi hk hu => hrefused hrevoke (passRevokeUpdateKey_inUse hb hl hi hk hu),
      fun hc => hrefused hstore (passStoreCredential_bad hb hc),
      fun c hc hfull => hrefused hstore (passStoreCredential_full hb hc hfull),
      fun hi => hrefused herase (passEraseCredential_handle hb hi),
      fun hl hi hc => hrefused herase (passEraseCredential_none hb hl hi hc)⟩
    · show passChangeOwnerToken _ = _
      exact pass_length hb hl
    · show passReleaseOwnership _ = _
      exact pass_length (n := 0) hb (by simpa using hne)

end Sys2Proof.Ownership
end

section
/-! PROOFS. EXTEND_LANE, from its taking to its answer (R130, R131, R134, R135). -/

namespace Sys2Proof.Machine

/-- R201: the 32-bit number of four little-endian bytes. -/
theorem ofNat_leNat_four (b0 b1 b2 b3 : Byte) :
    BitVec.ofNat 32 (leNat [b0, b1, b2, b3]) = (b3 ++ b2 ++ b1 ++ b0 : Word32) := by
  apply BitVec.eq_of_toNat_eq
  rw [leNat_four, BitVec.toNat_ofNat, BitVec.toNat_append, BitVec.toNat_append, BitVec.toNat_append,
    ← Nat.shiftLeft_add_eq_or_of_lt b2.isLt, ← Nat.shiftLeft_add_eq_or_of_lt b1.isLt,
    ← Nat.shiftLeft_add_eq_or_of_lt b0.isLt, Nat.shiftLeft_eq, Nat.shiftLeft_eq, Nat.shiftLeft_eq]
  have := b0.isLt
  have := b1.isLt
  have := b2.isLt
  have := b3.isLt
  omega

theorem holdsAnswer_answered (r : Request) (status : Status) (answer : Bytes) (s : State) :
    holdsAnswer r status answer (answered r status answer s) = true := by
  simp [holdsAnswer, answered]

/-- R130: the part with an extend of lane `k` in progress, which a credential request in hand takes note of (R170). -/
def extending (k : Nat) (record : LogRecord) (s : State) : State :=
  { s with lanes := extendingLane k record s, cred := s.cred.map (noteExtend k) }

/-- R130, R183: with no response in the buffer an extend scrubs nothing. -/
theorem beginExtend_unanswered {s : State} {k : Nat} (record : LogRecord) (hk : k < s.lanes.length)
    (hlog : (laneAt s k).log.length < 16) (hr : s.mc.response = none) :
    beginExtend k record s = some (extending k record s) := by
  unfold beginExtend notifyExtend
  rw [if_neg (by omega), modify_eq_set _ hk]
  dsimp only
  rw [hr, Option.any_none, if_neg Bool.false_ne_true]
  rfl

theorem beginExtend_full {s : State} {k : Nat} (record : LogRecord) (hlog : 16 ≤ (laneAt s k).log.length) :
    beginExtend k record s = none := if_pos hlog

theorem laneAt_extending {s : State} {k : Nat} (record : LogRecord) (hk : k < s.lanes.length) :
    laneAt (extending k record s) k = { laneAt s k with extending := some ⟨(laneAt s k).value, record⟩ } := by
  show (extendingLane k record s).getD k .afterReset = _
  unfold extendingLane
  rw [List.getD_eq_getElem _ _ (by simpa using hk), List.getElem_set_self]

/-- R131: the end of the extend that `extending` began. -/
theorem completeExtend_extending {s : State} {k : Nat} (record : LogRecord) (digest : Bytes) (hk : k < s.lanes.length) :
    completeExtend k digest (extending k record s) =
      { extending k record s with lanes := s.lanes.set k ⟨digest, (laneAt s k).log ++ [record], none⟩ } := by
  have hlane := laneAt_extending record hk
  rw [completeExtend_some digest (x := ⟨(laneAt s k).value, record⟩) (by simpa [extending, extendingLane] using hk)
    (by rw [hlane]), hlane]
  unfold extending extendingLane
  dsimp only
  rw [List.set_set]

section Taking

variable {s : State} {proof : Option Bytes} {body : Bytes} (hs : channelFree s = true)
  (h : requestWellFormed proof body = true) (hl : body.length = 37)
include hs h hl

/-- R134: what EXTEND_LANE does at its taking with a body of its length. -/
theorem exec_extendLane {t : State}
    (ht : (if (byteAt body 0).toNat < 4 || 7 < (byteAt body 0).toNat then answered .extendLane .badArgument [] s
      else
        ((beginExtend (byteAt body 0).toNat ⟨slice body 1 32, .request, BitVec.ofNat 32 (leAt body 33 4)⟩
          (accepted (requestFrame .extendLane proof body) .taken s)).map fun u =>
            digestAndWait (.laneFold (byteAt body 0).toNat) (bufferItem .laneExtend (foldInput u (byteAt body 0).toNat))
              u).getD (answered .extendLane .logFull [] s)) = t) :
    exec (.extendLane proof body) s = .next t := by
  show Host.Outcome.next (requestCommand .extendLane takeExtendLane proof body s) = _
  refine requestCommand_next hs h (by omega) ?_
  rw [takeExtendLane, withLength_ok (requestBody_accepted h) hl, ← ht]
  dsimp only
  rw [respond_accepted]
  congr 1
  cases beginExtend (byteAt body 0).toNat ⟨slice body 1 32, .request, BitVec.ofNat 32 (leAt body 33 4)⟩
      (accepted (requestFrame .extendLane proof body) .taken s) with
  | none => exact respond_accepted ..
  | some u => rfl

end Taking

section Fold

variable {s : State} {frame : Bytes} {k : Nat} {record : LogRecord} (hready : ready s = true) (hk : k < s.lanes.length)
include hready hk

/-- R130, R135: EXTEND_LANE begins the extend and waits for the digest of the fold. -/
theorem beginExtend_digests (hlog : (laneAt s k).log.length < 16) :
    ((beginExtend k record (accepted frame .taken s)).map fun u =>
        digestAndWait (.laneFold k) (bufferItem .laneExtend (foldInput u k)) u) =
      some (digesting frame (.laneFold k) (bufferItem .laneExtend ((laneAt s k).value ++ record.digest))
        (extending k record s)) := by
  rw [beginExtend_unanswered (s := accepted frame .taken s) record hk hlog rfl, Option.map_some]
  have hinput : foldInput (extending k record (accepted frame .taken s)) k = (laneAt s k).value ++ record.digest :=
    foldInput_extending (s := accepted frame .taken s) record hk
  rw [hinput]
  exact congrArg some (digestAndWait_accepted (s := extending k record s) frame .taken (.laneFold k) _
    (ready_atRest hready) (ready_absorbing hready) nofun)

end Fold

/-- R131, R135: the lanes after the fold of an EXTEND_LANE. -/
def folded (k : Nat) (record : LogRecord) (s : State) : State :=
  { s with
    lanes := s.lanes.set k ⟨sha256 ((laneAt s k).value ++ record.digest), (laneAt s k).log ++ [record], none⟩
    de.scanFirst := false }

/-- R131, R135: the fold becomes the lane's value, and EXTEND_LANE is answered with it. -/
theorem extendLane_folds {s : State} {proof : Option Bytes} {body : Bytes} {k : Nat} {record : LogRecord}
    (hready : ready s = true) (hk : k < s.lanes.length) (h1 : 0 < ((laneAt s k).value ++ record.digest).length)
    (h2 : ((laneAt s k).value ++ record.digest).length ≤ 256) :
    exec .chunkEnd (digesting (requestFrame .extendLane proof body) (.laneFold k)
        (bufferItem .laneExtend ((laneAt s k).value ++ record.digest)) (extending k record s)) =
      .next (answered .extendLane .ok
        ([BitVec.ofNat 8 k] ++ sha256 ((laneAt s k).value ++ record.digest) ++
          [BitVec.ofNat 8 ((laneAt s k).log.length + 1)]) (folded k record s)) := by
  rw [chunkEnd_digesting (s := extending k record s) _ _ _ h1 h2 (ready_atRest hready) (ready_absorbing hready)
    (by exact nofun)]
  have hend := completeExtend_extending (s := accepted (requestFrame .extendLane proof body) (.laneFold k)
    { s with de.scanFirst := false }) record (sha256 ((laneAt s k).value ++ record.digest)) hk
  have hlane : laneAt (folded k record s) k =
      ⟨sha256 ((laneAt s k).value ++ record.digest), (laneAt s k).log ++ [record], none⟩ := by
    unfold laneAt folded
    dsimp only
    rw [List.getD_eq_getElem _ _ (by simpa using hk), List.getElem_set_self]
    rfl
  have hbody : extendBody k (laneAt (folded k record s) k) = [BitVec.ofNat 8 k] ++
      sha256 ((laneAt s k).value ++ record.digest) ++ [BitVec.ofNat 8 ((laneAt s k).log.length + 1)] := by
    rw [hlane, extendBody, leBytes_one, leBytes_one, List.length_append]
    rfl
  have hfolded : laneFolded k (sha256 ((laneAt s k).value ++ record.digest))
      (accepted (requestFrame .extendLane proof body) (.laneFold k) { extending k record s with de.scanFirst := false }) =
      answered .extendLane .ok (extendBody k (laneAt (folded k record s) k)) (folded k record s) := by
    unfold laneFolded
    refine (congrArg (fun u => respond .ok (extendBody k (laneAt u k)) u) hend).trans ?_
    exact respond_accepted .extendLane proof body (.laneFold k) .ok _
      { folded k record s with cred := s.cred.map (noteExtend k) }
  rw [← hbody]
  refine congrArg Host.Outcome.next ((congrArg settle hfolded).trans (settle_atRest ?_))
  exact (show atRest s from ready_atRest hready)

end Sys2Proof.Machine

namespace Sys2Proof.Lanes

open Sys2Proof Sys2Proof.Machine

/-- Settles O55: the refusals by index and log, and the fold from its begin to its answer. -/
theorem extendLaneFoldsDigest : Obligations.ExtendLaneFoldsDigest := by
  refine ⟨fun s proof body hs h hb hl => length_refused hs h hb hl,
    fun s proof k digest t0 t1 t2 t3 hready hd hlanes h => ?_⟩
  intro lane record value
  obtain ⟨hs, -⟩ := ready_iff.1 hready
  have hl : ([k] ++ digest ++ [t0, t1, t2, t3]).length = 37 := by simp [hd]
  have hk : byteAt ([k] ++ digest ++ [t0, t1, t2, t3]) 0 = k := rfl
  have hdigest : slice ([k] ++ digest ++ [t0, t1, t2, t3]) 1 32 = digest := by
    simp [slice, hd]
  have htag : leAt ([k] ++ digest ++ [t0, t1, t2, t3]) 33 4 = leNat [t0, t1, t2, t3] := by
    rw [leAt, slice_append_right 4 (by simp [hd])]
    rfl
  refine ⟨fun h4 h7 hlog hval hext => ?_, fun h4 h7 hlog => ?_, fun hbad => ?_⟩
  · have hk8 : k.toNat < s.lanes.length := by omega
    have hrecord : (⟨digest, .request, BitVec.ofNat 32 (leNat [t0, t1, t2, t3])⟩ : LogRecord) = record := by
      rw [ofNat_leNat_four]
    have hbegin := beginExtend_digests (frame := requestFrame .extendLane proof ([k] ++ digest ++ [t0, t1, t2, t3]))
      (record := record) hready hk8 hlog
    refine ⟨_, _, exec_extendLane hs h hl (by
      rw [hk, if_neg (by simp; omega), hdigest, htag, hrecord, hbegin]
      rfl), rfl, rfl, extendLane_folds hready hk8 ?_ ?_, ?_, ?_, rfl, rfl, rfl, rfl, rfl, ?_, rfl⟩
    · simp [record, hd]
    · rw [List.length_append, show (laneAt s k.toNat).value.length = 32 from hval, hd]
      decide
    · rfl
    · rw [BitVec.ofNat_toNat, BitVec.setWidth_eq]
      exact holdsAnswer_answered ..
    · exact (ready_atRest hready).2.2.1
  · refine exec_extendLane hs h hl ?_
    rw [hk, if_neg (by simp; omega), beginExtend_full _ (by exact hlog)]
    rfl
  · refine exec_extendLane hs h hl ?_
    rw [hk, if_pos (by simp; omega)]

end Sys2Proof.Lanes
end

section
/-! PROOFS. The Digest Engine chunk by chunk: SHA-256 over the chunks of an item, and the order of service
(R70 to R74). -/

namespace Sys2Proof.Machine

/-! ### SHA-256 over chunks (R70) -/

/-- FIPS 180-4: a string of whole blocks ahead of another is absorbed first. -/
theorem shaAbsorb_append (st : List Word32) {a : Bytes} (b : Bytes) (h : 64 ∣ a.length) :
    shaAbsorb st (a ++ b) = shaAbsorb (shaAbsorb st a) b := by
  obtain ⟨n, hn⟩ := h
  have hblocks : shaBlocks (a ++ b) = shaBlocks a ++ shaBlocks b := by
    have hcount : (a ++ b).length / 64 = n + b.length / 64 := by
      rw [List.length_append, hn]
      omega
    unfold shaBlocks
    rw [hcount, show a.length / 64 = n by omega, List.range_add, List.map_append, List.map_map]
    congr 1
    · refine List.map_congr_left fun i hi => ?_
      have := List.mem_range.1 hi
      simp only [slice]
      rw [List.drop_append_of_le_length (by omega), List.take_append_of_le_length (by simp; omega)]
    · refine List.map_congr_left fun i _ => ?_
      simp only [slice, Function.comp_apply]
      rw [List.drop_append, List.drop_eq_nil_of_le (by omega), List.nil_append,
        show 64 * (n + i) - a.length = 64 * i by omega]
  unfold shaAbsorb
  rw [hblocks, List.foldl_append]

/-- R70: an item that has absorbed `n` chunks of the string `data`, and not the last. -/
def Absorbing (data : Bytes) (n : Nat) (i : DigestItem) : Prop :=
  i.length = data.length ∧ i.chunksDone = n ∧ i.running = shaAbsorb shaInit (data.take (256 * n))

/-- R70: the chunk `n` of `data` in absorption. -/
def chunkAt (data : Bytes) (n : Nat) : Bytes := slice data (256 * n) 256

theorem Absorbing.zero {data : Bytes} {i : DigestItem} (hl : i.length = data.length) (hd : i.chunksDone = 0)
    (hr : i.running = shaInit) : Absorbing data 0 i :=
  ⟨hl, hd, by simp [hr, shaAbsorb, shaBlocks]⟩

section Absorb

variable {data : Bytes} {n : Nat} {i : DigestItem} (h : Absorbing data n i)
include h

theorem Absorbing.lastChunk : i.lastChunk = decide (chunkCount data.length ≤ n + 1) := by
  obtain ⟨hl, hd, -⟩ := h
  rw [DigestItem.lastChunk, hl, hd]

theorem Absorbing.next (hc : i.chunk = chunkAt data n) (hn : n + 1 < chunkCount data.length) :
    Absorbing data (n + 1) i.absorbed := by
  have hlast := h.lastChunk
  rw [decide_eq_false (by omega)] at hlast
  obtain ⟨hl, hd, hr⟩ := h
  have hlong : 256 * (n + 1) < data.length := by
    unfold chunkCount at hn
    omega
  refine ⟨hl, congrArg (· + 1) hd, ?_⟩
  have hsplit : data.take (256 * (n + 1)) = data.take (256 * n) ++ chunkAt data n := by
    rw [show 256 * (n + 1) = 256 * n + 256 by ring, List.take_add]
    rfl
  rw [DigestItem.absorbed, hlast, hr, hc, hsplit,
    shaAbsorb_append _ _ ⟨4 * n, by rw [List.length_take, Nat.min_eq_left (by omega)]; ring⟩]
  rfl

theorem Absorbing.last (hc : i.chunk = chunkAt data n) (hn : n + 1 = chunkCount data.length) :
    shaOutput i.absorbed.running = sha256 data := by
  have hlast := h.lastChunk
  rw [decide_eq_true (by omega)] at hlast
  obtain ⟨hl, hd, hr⟩ := h
  have hlong : 256 * n < data.length ∧ data.length ≤ 256 * n + 256 := by
    unfold chunkCount at hn
    omega
  have hrest : chunkAt data n = data.drop (256 * n) := List.take_of_length_le (by rw [List.length_drop]; omega)
  have hrun : i.absorbed.running = shaAbsorb shaInit (data ++ shaPadding data.length) := by
    rw [DigestItem.absorbed, hlast, hr, hc, hrest, hl]
    dsimp only
    rw [absorbChunk, if_pos rfl, ← shaAbsorb_append _ _ ⟨4 * n, by rw [List.length_take, Nat.min_eq_left (by omega)]; ring⟩,
      ← List.append_assoc, List.take_append_drop]
  rw [hrun, sha256]

end Absorb

/-- R70: what the absorption of chunks leaves of an item. -/
theorem iterate_absorbed (i : DigestItem) (n : Nat) :
    (DigestItem.absorbed^[n] i).work = i.work ∧ (DigestItem.absorbed^[n] i).kind = i.kind ∧
      (DigestItem.absorbed^[n] i).input = i.input ∧ (DigestItem.absorbed^[n] i).length = i.length ∧
      (DigestItem.absorbed^[n] i).chunksDone = i.chunksDone + n := by
  induction n with
  | zero => exact ⟨rfl, rfl, rfl, rfl, rfl⟩
  | succ n ih =>
    obtain ⟨hw, hk, hi, hl, hd⟩ := ih
    rw [Function.iterate_succ_apply']
    exact ⟨hw, hk, hi, hl, (congrArg (· + 1) hd).trans (Nat.add_assoc ..)⟩

/-- R68, R70: the BUFFER item after `n` chunks. -/
def bufferAfter (work : DigestWork) (input : Bytes) (n : Nat) : DigestItem :=
  DigestItem.absorbed^[n] (bufferItem work input)

section Buffer

variable (work : DigestWork) (input : Bytes) (n : Nat)

theorem bufferAfter_work : (bufferAfter work input n).work = work := (iterate_absorbed (bufferItem work input) n).1

theorem bufferAfter_kind : (bufferAfter work input n).kind = .buffer := (iterate_absorbed (bufferItem work input) n).2.1

theorem bufferAfter_next : (bufferAfter work input n).absorbed = bufferAfter work input (n + 1) :=
  (Function.iterate_succ_apply' DigestItem.absorbed n _).symm

theorem bufferAfter_chunk : (bufferAfter work input n).chunk = chunkAt input n := by
  obtain ⟨-, hk, hi, -, hd⟩ := iterate_absorbed (bufferItem work input) n
  rw [DigestItem.chunk, bufferAfter, hk, hi, hd]
  show slice input (256 * (0 + n)) 256 = _
  rw [Nat.zero_add]
  rfl

theorem bufferAfter_lastChunk : (bufferAfter work input n).lastChunk = decide (chunkCount input.length ≤ n + 1) := by
  obtain ⟨-, -, -, hl, hd⟩ := iterate_absorbed (bufferItem work input) n
  rw [DigestItem.lastChunk, bufferAfter, hl, hd]
  show decide (chunkCount input.length ≤ 0 + n + 1) = _
  rw [Nat.zero_add]

variable {n} in
theorem bufferAfter_absorbing (hn : n < chunkCount input.length) : Absorbing input n (bufferAfter work input n) := by
  induction n with
  | zero => exact .zero rfl rfl rfl
  | succ n ih =>
    have := (ih (by omega)).next (bufferAfter_chunk work input n) hn
    rwa [bufferAfter_next] at this

variable {n} in
theorem bufferAfter_digest (hn : n + 1 = chunkCount input.length) :
    shaOutput (bufferAfter work input (n + 1)).running = sha256 input := by
  rw [← bufferAfter_next]
  exact (bufferAfter_absorbing work input (by omega)).last (bufferAfter_chunk work input n) hn

end Buffer

theorem chunkCount_pos {data : Bytes} (h : data ≠ []) : 0 < chunkCount data.length := by
  have := List.length_pos_of_ne_nil h
  unfold chunkCount
  omega

/-- R71: a SEGMENT item fed the chunks of `data` in order. -/
def feedChunk (data : Bytes) (i : DigestItem) (j : Nat) : DigestItem := DigestItem.absorbed { i with inHand := chunkAt data j }

theorem fed_kind (data : Bytes) (n : Nat) :
    ((List.range n).foldl (feedChunk data) (segmentItem data.length)).kind = .segment := by
  induction n with
  | zero => rfl
  | succ n ih =>
    rw [List.range_succ, List.foldl_append]
    exact ih

theorem fed_absorbing {data : Bytes} {n : Nat} (hn : n < chunkCount data.length) :
    Absorbing data n ((List.range n).foldl (feedChunk data) (segmentItem data.length)) := by
  induction n with
  | zero => exact .zero rfl rfl rfl
  | succ n ih =>
    rw [List.range_succ, List.foldl_append]
    refine Absorbing.next (data := data) (i := { List.foldl (feedChunk data) (segmentItem data.length) (List.range n) with
      inHand := chunkAt data n }) (ih (by omega)) ?_ hn
    rw [DigestItem.chunk, fed_kind]

/-- R70, R71: the digest of a segment fed chunk by chunk. -/
theorem fed_digest {data : Bytes} (h : data ≠ []) :
    shaOutput ((List.range (chunkCount data.length)).foldl (feedChunk data) (segmentItem data.length)).running =
      sha256 data := by
  obtain ⟨n, hn⟩ := Nat.exists_eq_add_of_lt (chunkCount_pos h)
  rw [show chunkCount data.length = n + 1 by omega, List.range_succ, List.foldl_append]
  refine Absorbing.last (data := data) (i := { List.foldl (feedChunk data) (segmentItem data.length) (List.range n) with
    inHand := chunkAt data n }) (fed_absorbing (by omega)) ?_ (by omega)
  rw [DigestItem.chunk, fed_kind]

/-! ### The CHUNK_END (R72 to R74) -/

section ChunkEnd

variable {s : State} {i : DigestItem} (hd : restartDue s = false)
include hd

theorem exec_chunkEnd_channel (ha : s.de.absorbing = some .channel) (hi : s.de.channel = some i) :
    exec .chunkEnd s = .next (settle (channelChunkEnd i (freshPort s))) := by
  have hend : chunkEnd (freshPort s) = settle (channelChunkEnd i (freshPort s)) := by
    unfold chunkEnd
    rw [show (freshPort s).de.absorbing = some .channel from ha, show (freshPort s).de.channel = some i from hi]
  show Host.Outcome.next (unlessRestartDue chunkEnd (freshPort s)) = _
  rw [unlessRestartDue_notDue chunkEnd (by exact hd), hend]

theorem exec_chunkEnd_scan (ha : s.de.absorbing = some .scan) (hi : s.de.scan = some i) :
    exec .chunkEnd s = .next (settle (scanChunkEnd i (freshPort s))) := by
  have hend : chunkEnd (freshPort s) = settle (scanChunkEnd i (freshPort s)) := by
    unfold chunkEnd
    rw [show (freshPort s).de.absorbing = some .scan from ha, show (freshPort s).de.scan = some i from hi]
  show Host.Outcome.next (unlessRestartDue chunkEnd (freshPort s)) = _
  rw [unlessRestartDue_notDue chunkEnd (by exact hd), hend]

end ChunkEnd

/-- R74: the last chunk of a channel item hands its digest over. -/
theorem channelChunkEnd_last {s : State} {i : DigestItem} (hl : i.lastChunk = true) :
    channelChunkEnd i s =
      channelDigest (shaOutput i.absorbed.running)
        { s with de.channel := none, de.absorbing := none, de.owed := s.de.owed || segmentInScanPlace s.de } := by
  unfold channelChunkEnd
  rw [if_pos hl]

theorem channelChunkEnd_more {s : State} {i : DigestItem} (hl : i.lastChunk = false) :
    channelChunkEnd i s = { s with de.channel := some i.absorbed } := by
  unfold channelChunkEnd
  rw [if_neg (by simp [hl])]

theorem reportAbsorbed_buffer {s : State} {i : DigestItem} (hk : i.kind = .buffer) : reportAbsorbed i s = s := by
  simp [reportAbsorbed, hk]

theorem scanChunkEnd_last {s : State} {i : DigestItem} (hl : i.lastChunk = true) :
    scanChunkEnd i s =
      scanDigest i.work (shaOutput i.absorbed.running)
        { reportAbsorbed i s with de.scan := none, de.absorbing := none, de.owed := false } := by
  unfold scanChunkEnd
  rw [if_pos hl]

theorem scanChunkEnd_more {s : State} {i : DigestItem} (hl : i.lastChunk = false) (hk : i.kind = .buffer) :
    scanChunkEnd i s = { s with de.scan := some i.absorbed, de.absorbing := some .scan } := by
  unfold scanChunkEnd
  rw [if_neg (by simp [hl]), reportAbsorbed_buffer hk, if_pos hk]

/-- R72: with a chunk in absorption, what follows a step leaves the engine. -/
theorem settle_absorbing {s : State} (h : s.de.absorbing.isSome = true) : (settle s).de = s.de := by
  cases hr : restartDue s with
  | true => rw [settle_due hr]
  | false =>
    rw [settle_notDue hr, startAbsorption_busy (by simpa using h)]
    simp

/-- R56, R63: no operation starts, and the scan's records stand, where none is QUEUED without a read that holds the flash. -/
theorem settle_isc {s : State} (h : s.de.absorbing.isSome = true) (hq : queueOk s = true) : (settle s).isc = s.isc := by
  have hstart : startOperation s = s := by
    unfold startOperation
    cases ho : s.fp.op with
    | none => rfl
    | some o =>
      simp only [queueOk, ho, Option.all_some, Bool.or_eq_true, decide_eq_true_eq] at hq
      exact if_neg (by simpa [or_iff_not_imp_left] using hq)
  cases hr : restartDue s with
  | true => rw [settle_due hr]
  | false =>
    rw [settle_notDue hr, hstart, startAbsorption_busy h]
    simp

/-! ### The order of service (R72, R73) -/

section Service

variable {s : State}

theorem chunkTaken_de (s : State) : (chunkTaken s).de = s.de := by
  unfold chunkTaken requestSegmentChunk placeChunkRequest
  split <;> rfl

/-- R72, R73: a segment chunk that is owed, or alone, is absorbed, and the next one is asked for. -/
theorem startAbsorption_segment {i : DigestItem} {c : Bytes} (ha : s.de.absorbing = none) (hi : s.de.scan = some i)
    (hk : i.kind = .segment) (hc : i.chunkSlot = some c) (ho : s.de.owed = true ∨ s.de.channel = none) :
    startAbsorption s =
      chunkTaken { s with
        de.absorbing := some .scan
        de.owed := false
        de.scan := some { i with chunkSlot := none, inHand := c } } := by
  have hchoose : chooseWork s.de = some .scan := by
    obtain ho | ho := ho <;> simp [chooseWork, hi, hk, hc, ho]
  unfold startAbsorption
  rw [hchoose, hi, ha]
  simp [hk, hc]

theorem startAbsorption_scanBuffer {i : DigestItem} (ha : s.de.absorbing = none) (hi : s.de.scan = some i)
    (hk : i.kind = .buffer) (ho : s.de.channel = none ∨ s.de.scanFirst = true) :
    startAbsorption s = { s with de.absorbing := some .scan } := by
  have hchoose : chooseWork s.de = some .scan := by
    obtain ho | ho := ho <;> simp [chooseWork, hi, hk, ho]
  unfold startAbsorption
  rw [hchoose, hi, ha]
  simp [hk]

theorem startAbsorption_channelItem {j : DigestItem} (ha : s.de.absorbing = none) (hj : s.de.channel = some j)
    (ho : ∀ i, s.de.scan = some i →
      (i.kind = .buffer ∧ s.de.scanFirst = false) ∨
        (i.kind = .segment ∧ (i.chunkSlot = none ∨ s.de.owed = false))) :
    startAbsorption s = { s with de.absorbing := some .channel } := by
  have hchoose : chooseWork s.de = some .channel := by
    cases hi : s.de.scan with
    | none => simp [chooseWork, hi, hj]
    | some i =>
      obtain ⟨hk, hf⟩ | ⟨hk, hc | hf⟩ := ho i hi
      · simp [chooseWork, hi, hj, hk, hf]
      · simp [chooseWork, hi, hj, hk, hc]
      · simp [chooseWork, hi, hj, hk, hf]
  unfold startAbsorption
  rw [hchoose, ha]
  rfl

theorem startAbsorption_nothing (ha : s.de.absorbing = none) (hj : s.de.channel = none)
    (ho : ∀ i, s.de.scan = some i → i.kind = .segment ∧ i.chunkSlot = none) : startAbsorption s = s := by
  have hchoose : chooseWork s.de = none := by
    cases hi : s.de.scan with
    | none => simp [chooseWork, hi, hj]
    | some i =>
      obtain ⟨hk, hc⟩ := ho i hi
      simp [chooseWork, hi, hj, hk, hc]
  unfold startAbsorption
  rw [hchoose, ha]
  rfl

end Service

end Sys2Proof.Machine

namespace Sys2Proof.Engines

open Sys2Proof Sys2Proof.Machine

/-- Settles O57: SHA-256 over the chunks of an item, in either place, and the engine's choice. -/
theorem chunkedDigestIsSha256 : Obligations.ChunkedDigestIsSha256 := by
  refine ⟨?_, fun data h => fed_digest h, fun s => ⟨fun i => rfl, fun i => rfl, startAbsorption_busy, fun ha =>
    ⟨?_, fun i hi hk ho => startAbsorption_scanBuffer ha hi hk ho,
      fun j hj ho => startAbsorption_channelItem ha hj ho, fun hj ho => startAbsorption_nothing ha hj ho⟩⟩⟩
  · intro work input hne item
    have hitem : item = bufferAfter work input := rfl
    obtain ⟨m, hm⟩ := Nat.exists_eq_add_of_lt (chunkCount_pos hne)
    rw [Nat.zero_add] at hm
    refine ⟨fun n => bufferAfter_lastChunk work input n, ?_, fun s n hd => ⟨fun ha hi => ⟨fun hn => ?_, fun hn => ?_⟩,
      fun ha hi => ⟨fun hn => ?_, fun hn => ?_⟩⟩⟩
    · rw [hitem, hm]
      exact bufferAfter_digest work input hm.symm
    · have hl : (bufferAfter work input n).lastChunk = false := by
        rw [bufferAfter_lastChunk]
        exact decide_eq_false (by omega)
      refine ⟨_, exec_chunkEnd_channel hd ha hi, ?_⟩
      rw [hitem, channelChunkEnd_more hl, bufferAfter_next]
      have hde := settle_absorbing (s := { freshPort s with de.channel := some (bufferAfter work input (n + 1)) })
        (by simp [freshPort, ha])
      refine ⟨congrArg (·.channel) hde, (congrArg (·.absorbing) hde).trans ha, ?_⟩
      simp [freshPort]
    · have hl : (bufferAfter work input n).lastChunk = true := by
        rw [bufferAfter_lastChunk]
        exact decide_eq_true (by omega)
      rw [exec_chunkEnd_channel hd ha hi]
      rw [hitem, channelChunkEnd_last hl, bufferAfter_next, bufferAfter_digest work input hn]
      rfl
    · have hl : (bufferAfter work input n).lastChunk = false := by
        rw [bufferAfter_lastChunk]
        exact decide_eq_false (by omega)
      refine ⟨_, exec_chunkEnd_scan hd ha hi, ?_⟩
      rw [hitem, scanChunkEnd_more hl (bufferAfter_kind ..), bufferAfter_next]
      have hde := settle_absorbing (s := { freshPort s with
        de.scan := some (bufferAfter work input (n + 1)), de.absorbing := some .scan }) rfl
      refine ⟨congrArg (·.scan) hde, congrArg (·.absorbing) hde, ?_⟩
      refine ⟨?_, ?_, ?_, fun hq => settle_isc rfl hq⟩ <;> simp [freshPort]
    · have hl : (bufferAfter work input n).lastChunk = true := by
        rw [bufferAfter_lastChunk]
        exact decide_eq_true (by omega)
      rw [exec_chunkEnd_scan hd ha hi]
      rw [hitem, scanChunkEnd_last hl, bufferAfter_next, bufferAfter_digest work input hn, bufferAfter_work,
        reportAbsorbed_buffer (bufferAfter_kind ..)]
      rfl
  · intro i c hi hk hc ho t
    rw [show t = _ from startAbsorption_segment ha hi hk hc ho, chunkTaken_de]

end Sys2Proof.Engines
end

section
/-! PROOFS. QUOTE: the digest of its body, chunk by chunk, and the SIGN of that digest (R79, R142 to R144). -/

namespace Sys2Proof.Machine

/-! ### A request's digest of any length (R70, R74) -/

section Digest

variable {s : State} (frame : Bytes) (job : Job) (work : DigestWork) {input : Bytes} {k : Nat} (ha : atRest s)
  (habs : s.de.absorbing = none) (hj : ∀ f, job ≠ .restart f)
include ha hj

theorem chunkEnd_digestingMore (hk : k + 1 < chunkCount input.length) :
    exec .chunkEnd (digesting frame job (bufferAfter work input k) s) =
      .next (digesting frame job (bufferAfter work input (k + 1)) s) := by
  have hl : (bufferAfter work input k).lastChunk = false := by
    rw [bufferAfter_lastChunk]
    exact decide_eq_false (by omega)
  rw [exec_chunkEnd_channel (s := digesting frame job (bufferAfter work input k) s)
    (restartDue_none (by simpa [digesting] using hj)) rfl rfl, channelChunkEnd_more hl, bufferAfter_next]
  exact congrArg Host.Outcome.next (settle_digesting frame job (bufferAfter work input (k + 1)) ha)

include habs

theorem chunkEnd_digestingLast (hk : k + 1 = chunkCount input.length) :
    exec .chunkEnd (digesting frame job (bufferAfter work input k) s) =
      .next (settle (channelDigest (sha256 input) (accepted frame job { s with de.scanFirst := false }))) := by
  have hl : (bufferAfter work input k).lastChunk = true := by
    rw [bufferAfter_lastChunk]
    exact decide_eq_true (by omega)
  rw [exec_chunkEnd_channel (s := digesting frame job (bufferAfter work input k) s)
    (restartDue_none (by simpa [digesting] using hj)) rfl rfl, channelChunkEnd_last hl, bufferAfter_next,
    bufferAfter_digest work input hk]
  obtain ⟨-, hds, hdc, -, -, -⟩ := ha
  have howed : (s.de.owed || segmentInScanPlace s.de) = s.de.owed := by
    simp [segmentInScanPlace, hds]
  have hde : (⟨s.de.scan, none, false, none, s.de.owed || segmentInScanPlace s.de⟩ : DigestEngine) =
      { s.de with scanFirst := false } := by
    rw [← hdc, ← habs, howed]
  refine congrArg (fun u => Host.Outcome.next (settle (channelDigest (sha256 input) u))) ?_
  exact congrArg (fun de => { accepted frame job s with de := de }) hde

/-- R70, R74: the CHUNK_ENDs from chunk `k` on hand the digest of the whole input over. -/
theorem chunkEnds_digesting {n : Nat} (hk : k + n + 1 = chunkCount input.length) :
    runCommands (List.replicate (n + 1) .chunkEnd) (digesting frame job (bufferAfter work input k) s) =
      some (settle (channelDigest (sha256 input) (accepted frame job { s with de.scanFirst := false }))) := by
  induction n generalizing k with
  | zero => simp only [List.replicate, runCommands, chunkEnd_digestingLast frame job work ha habs hj hk]
  | succ n ih =>
    rw [List.replicate_succ, runCommands, chunkEnd_digestingMore frame job work ha hj (by omega)]
    exact ih (by omega)

end Digest

/-! ### The SIGN of a quote (R79, R80) -/

/-- R79, R80: the signature that the next draw of the random source makes, if it makes one. -/
def drawnSignature (secret : Nat) (digest : Bytes) (draws : Nat) : Option (Nat × Nat) :=
  if 1 ≤ Config.randomNumber draws ∧ Config.randomNumber draws < p256Order then
    ecdsaSign secret (beNat digest) (Config.randomNumber draws)
  else none

theorem drawnSignature_bytes (secret : Nat) (digest : Bytes) (draws : Nat) :
    (drawnScalar (Config.randomNumber draws)).bind (signDigest secret digest) =
      (drawnSignature secret digest draws).map fun rs => leBytes 32 rs.1 ++ leBytes 32 rs.2 := by
  by_cases h : 1 ≤ Config.randomNumber draws ∧ Config.randomNumber draws < p256Order
  · rw [drawnScalar, if_pos h, drawnSignature, if_pos h, Option.bind_some, signDigest]
  · rw [drawnScalar, if_neg h, drawnSignature, if_neg h, Option.bind_none, Option.map_none]

section Sign

variable {s : State} (frame body digest : Bytes) (secret : Nat) (hready : ready s = true)
include hready

/-- R79: a draw that makes no signature is discarded, and the SIGN draws again. -/
theorem sign_discards (hdraw : drawnSignature secret digest s.draws = none) :
    exec .signatureCompletion (signing frame (.quoteSign body) (.sign digest secret) s) =
      .next { signing frame (.quoteSign body) (.sign digest secret) s with draws := s.draws + 1 } := by
  obtain ⟨hop, hds, hdc, hss, -, hchunk⟩ := ready_atRest hready
  rw [exec_signatureEnd (by exact hss) rfl (restartDue_none (by exact nofun))]
  have hend : channelSignature (.sign digest secret) (freshPort (signing frame (.quoteSign body) (.sign digest secret) s)) =
      { signing frame (.quoteSign body) (.sign digest secret) s with draws := s.draws + 1 } := by
    show quoteSigned digest secret (freshPort (signing frame (.quoteSign body) (.sign digest secret) s)) = _
    unfold quoteSigned
    rw [show (freshPort (signing frame (.quoteSign body) (.sign digest secret) s)).draws = s.draws from rfl]
    dsimp only
    rw [drawnSignature_bytes, hdraw]
    rfl
  rw [hend]
  exact congrArg Host.Outcome.next (settle_signatureRuns (c := ⟨.sign digest secret, true⟩) hop hds hdc rfl rfl hchunk)

/-- R144: a quote is answered with the signature made. -/
theorem sign_ends (proof : Option Bytes) (request : Bytes) {r s' : Nat}
    (hdraw : drawnSignature secret digest s.draws = some (r, s')) :
    exec .signatureCompletion (signing (requestFrame .quote proof request) (.quoteSign body) (.sign digest secret) s) =
      .next (answered .quote .ok (body ++ leBytes 32 r ++ leBytes 32 s') (drawn s)) := by
  obtain ⟨hop, hds, hdc, hss, hsc, hchunk⟩ := ready_atRest hready
  rw [exec_signatureEnd (by exact hss) rfl (restartDue_none (by exact nofun))]
  have hsu : { s.su with channel := none, scanFirst := false } = { s.su with scanFirst := false } := by
    rw [← hsc]
  have hend : channelSignature (.sign digest secret)
      (freshPort (signing (requestFrame .quote proof request) (.quoteSign body) (.sign digest secret) s)) =
      respond .ok (body ++ (leBytes 32 r ++ leBytes 32 s'))
        { accepted (requestFrame .quote proof request) (.quoteSign body) (drawn s) with
          su := { s.su with channel := none, scanFirst := false } } := by
    show quoteSigned digest secret
      (freshPort (signing (requestFrame .quote proof request) (.quoteSign body) (.sign digest secret) s)) = _
    unfold quoteSigned
    rw [show (freshPort (signing (requestFrame .quote proof request) (.quoteSign body) (.sign digest secret) s)).draws =
      s.draws from rfl]
    dsimp only
    rw [drawnSignature_bytes, hdraw]
    rfl
  rw [hend, hsu, ← List.append_assoc]
  refine congrArg Host.Outcome.next ?_
  refine (congrArg settle (respond_accepted .quote proof request (.quoteSign body) .ok _ (drawn s))).trans ?_
  exact settle_atRest ⟨hop, hds, hdc, hss, hsc, hchunk⟩

end Sign

/-! ### QUOTE (R142 to R144) -/

theorem maskedLaneValues_eq (s : State) (mask : Byte) :
    maskedLaneValues s mask =
      (List.range 8).flatMap fun k => if mask.getLsbD k then (s.lanes.getD k .afterReset).value else [] := rfl

section Quote

variable {s : State} {proof : Option Bytes} {nonce : Bytes} {mask : Byte} {key : IdentityKey} (hready : ready s = true)
  (hn : nonce.length = 32) (h : requestWellFormed proof (nonce ++ [mask]) = true) (hkey : s.store.identity = some key)
  (hmask : mask ≠ 0)
include hready hn h hkey hmask

theorem exec_quote :
    exec (.quote proof (nonce ++ [mask])) s =
      .next (digesting (requestFrame .quote proof (nonce ++ [mask])) (.quoteDigest (quoteBody s nonce mask))
        (bufferItem .quoteBody (quoteBody s nonce mask)) s) := by
  have hlen : (nonce ++ [mask]).length = 33 := by simp [hn]
  have hm : byteAt (nonce ++ [mask]) 32 = mask := by
    simp [byteAt, hn]
  have hslice : slice (nonce ++ [mask]) 0 32 = nonce := by
    simp [slice, hn]
  refine stateLength_taken (ready_iff.1 hready).1 h (by omega) (ok := (·.store.identity.isSome)) (fun _ => rfl)
    (by exact Option.isSome_iff_exists.2 ⟨key, hkey⟩) hlen ?_
  dsimp only
  rw [hm, hslice, if_neg hmask]
  exact digestAndWait_accepted _ .taken _ _ (ready_atRest hready) (ready_absorbing hready) nofun

end Quote

/-- R144, R79: the digest of a quote's body goes into its SIGN. -/
theorem quote_digested {s : State} {key : IdentityKey} (frame body : Bytes) (hready : ready s = true)
    (hkey : s.store.identity = some key) (hne : body ≠ []) :
    runCommands (List.replicate (chunkCount body.length) .chunkEnd)
        (digesting frame (.quoteDigest body) (bufferItem .quoteBody body) s) =
      some (signing frame (.quoteSign body) (.sign (sha256 body) key.secret) (unscanned s)) := by
  obtain ⟨n, hn⟩ := Nat.exists_eq_add_of_lt (chunkCount_pos hne)
  rw [Nat.zero_add] at hn
  rw [hn]
  refine (chunkEnds_digesting frame (.quoteDigest body) .quoteBody (k := 0) (ready_atRest hready) (ready_absorbing hready)
    nofun (by omega)).trans (congrArg some ?_)
  have hdigested : channelDigest (sha256 body) (accepted frame (.quoteDigest body) { s with de.scanFirst := false }) =
      waitFor (.quoteSign body) (placeChannelOp (.sign (sha256 body) key.secret)
        (accepted frame (.quoteDigest body) (unscanned s))) := by
    show quoteDigested body (sha256 body) (accepted frame (.quoteDigest body) (unscanned s)) = _
    unfold quoteDigested
    rw [show (accepted frame (.quoteDigest body) (unscanned s)).store.identity = some key from hkey]
    rfl
  rw [hdigested]
  exact settle_signing frame _ _ _ (show atRest (unscanned s) from ready_atRest hready) nofun

end Sys2Proof.Machine

namespace Sys2Proof.Lanes

open Sys2Proof Sys2Proof.Machine

/-- Settles O56: the refusals, the digest of the body, and the SIGN by the draw. -/
theorem quoteSignsItsBody : Obligations.QuoteSignsItsBody := by
  refine ⟨fun s proof body hs h hb => ⟨fun hkey => ?_, fun hkey hbad => ?_⟩,
    fun s proof nonce mask key hready hn h hkey hmask hlanes => ?_⟩
  · exact state_refused hs h hb (ok := (·.store.identity.isSome)) (fun _ => rfl) (Option.isSome_eq_false_iff.2 (Option.isNone_iff_eq_none.2 hkey))
  · by_cases hl : body.length = 33
    · refine stateLength_taken hs h hb (ok := (·.store.identity.isSome)) (fun _ => rfl) (by exact hkey) hl ?_
      exact (if_pos (hbad.resolve_left (not_not_intro hl))).trans (respond_accepted ..)
    · exact stateLength_refused hs h hb (ok := (·.store.identity.isSome)) (fun _ => rfl) (by exact hkey) hl
  · intro values body
    have hbody : quoteBody s nonce mask = body := rfl
    have hdigested := quote_digested (requestFrame .quote proof (nonce ++ [mask])) body hready hkey (by simp [body])
    have htaken := exec_quote hready hn h hkey hmask
    rw [hbody] at htaken
    cases hdraw : drawnSignature key.secret (sha256 body) s.draws with
    | none =>
      refine ⟨_, _, _, htaken, rfl, rfl, hdigested, rfl, rfl,
        sign_discards (s := unscanned s) _ body _ _ hready hdraw, rfl, rfl, rfl, rfl, rfl, ?_⟩
      intro number
      rw [show (if 1 ≤ number ∧ number < p256Order then ecdsaSign key.secret (beNat (sha256 body)) number else none) = none
        from hdraw]
      exact ⟨rfl, rfl⟩
    | some rs =>
      obtain ⟨r, s'⟩ := rs
      refine ⟨_, _, _, htaken, rfl, rfl, hdigested, rfl, rfl,
        sign_ends (s := unscanned s) body _ _ hready proof _ hdraw, rfl, rfl, rfl, rfl, rfl, ?_⟩
      intro number
      rw [show (if 1 ≤ number ∧ number < p256Order then ecdsaSign key.secret (beNat (sha256 body)) number else none) =
        some (r, s') from hdraw]
      exact ⟨(ready_atRest hready).2.2.2.2.1, holdsAnswer_answered ..⟩

end Sys2Proof.Lanes
end

section
/-! PROOFS. RELEASE_CREDENTIAL and DERIVE: the gate, the policy by the binding, and the secret response (R165 to R175,
R179, R183). -/

namespace Sys2Proof.Machine

/-! ### Secret responses (R179, R190) -/

/-- What the placement of a secret response to an accepted request leaves (R179, R182). -/
def answeredSecret (r : Request) (mask : Option Byte) (body : Bytes) (s : State) : State :=
  { accepted [] .taken s with
    cred := none
    mc.state := .idle
    mc.response := some ⟨responseFrame (requestCode r) .ok body, false, true, mask, some s.clock⟩
    mc.scrubTimer := some (s.clock + 50) }

theorem respondSecret_accepted (r : Request) (proof : Option Bytes) (body : Bytes) (j : Job) (mask : Option Byte)
    (answer : Bytes) (s : State) :
    respondSecret mask answer (accepted (requestFrame r proof body) j s) = answeredSecret r mask answer s := by
  simp [respondSecret, answeredSecret, accepted, expiryDelay]

theorem holdsSecret_answeredSecret (r : Request) (mask : Option Byte) (answer : Bytes) (s : State) :
    holdsSecret r mask answer (answeredSecret r mask answer s) = true := by
  simp [holdsSecret, answeredSecret, accepted]

theorem settle_answered {s : State} (r : Request) (status : Status) (answer : Bytes) (h : atRest s) :
    settle (answered r status answer s) = answered r status answer s := settle_atRest h

theorem settle_answeredSecret {s : State} (r : Request) (mask : Option Byte) (answer : Bytes) (h : atRest s) :
    settle (answeredSecret r mask answer s) = answeredSecret r mask answer s := settle_atRest h

/-! ### The policy (R168 to R170) -/

/-- R168: the boot outcome lets a LANES or SIGNER binding be looked at. -/
def bootBooted (s : State) : Prop := s.isc.boot.outcome = .pass ∨ s.isc.boot.outcome = .fallbackPass

theorem outcomeBooted_iff {s : State} : outcomeBooted s.isc.boot.outcome = true ↔ bootBooted s := by
  simp [outcomeBooted, bootBooted]

/-- R168: the boot record satisfies a SIGNER binding. -/
def bootSigned (s : State) (k : Nat) (v : Word32) : Prop :=
  bootBooted s ∧ s.isc.boot.signer = some k ∧ ∃ b, s.isc.boot.version = some b ∧ v ≤ b

theorem bootSigned_iff {s : State} {k : Nat} {v : Word32} :
    (outcomeBooted s.isc.boot.outcome && signerSatisfied s.isc.boot k v) = true ↔ bootSigned s k v := by
  simp [signerSatisfied, bootSigned, outcomeBooted_iff, Option.any_eq_true]

/-- R168: what the binding asks of the boot record and nothing more. -/
def recordBound (c : Credential) (s : State) : Prop := c.binding = .none ∨ ∃ k v, c.binding = .signer k v ∧ bootSigned s k v

/-- R169: the working copy after the policy check, with the lane values read, if any. -/
def usedCredential (c : Credential) (values : Option Bytes) (s : State) : State :=
  { s with cred := some ⟨c, some s.isc.boot, values, false⟩ }

section Policy

variable {s : State} {r : Request} {c : Credential} {proof : Option Bytes} {body : Bytes} {j : Job}

theorem checkPolicy_grants (h : recordBound c s) :
    checkPolicy r c (accepted (requestFrame r proof body) j s) =
      grantUse r c (accepted (requestFrame r proof body) j (usedCredential c none s)) := by
  unfold checkPolicy
  obtain hb | ⟨k, v, hb, hsigned⟩ := h
  · rw [hb]
    rfl
  · rw [hb]
    exact if_pos (bootSigned_iff.2 hsigned)

theorem checkPolicy_unsigned {k : Nat} {v : Word32} (hb : c.binding = .signer k v) (h : ¬ bootSigned s k v) :
    checkPolicy r c (accepted (requestFrame r proof body) j s) = answered r .policy [] s := by
  unfold checkPolicy
  rw [hb]
  exact (if_neg (mt bootSigned_iff.1 h)).trans
    (respond_accepted r proof body j .policy [] (usedCredential c none s))

section Lanes

variable {mask : Byte} {reference : Bytes} (hb : c.binding = .lanes mask reference)
include hb

theorem checkPolicy_unbooted (h : ¬ bootBooted s) :
    checkPolicy r c (accepted (requestFrame r proof body) j s) = answered r .policy [] s := by
  unfold checkPolicy
  rw [hb]
  exact (if_neg (mt outcomeBooted_iff.1 h)).trans
    (respond_accepted r proof body j .policy [] (usedCredential c none s))

/-- R170: the lane values of the mask are digested. -/
theorem checkPolicy_digests (hready : ready s = true) (h : bootBooted s) :
    checkPolicy r c (accepted (requestFrame r proof body) j s) =
      digesting (requestFrame r proof body) (.laneBinding r) (bufferItem .laneBinding (maskedLaneValues s mask))
        (usedCredential c (some (maskedLaneValues s mask)) s) := by
  unfold checkPolicy
  rw [hb]
  exact (if_pos (outcomeBooted_iff.2 h)).trans
    (digestAndWait_accepted (s := usedCredential c (some (maskedLaneValues s mask)) s) _ j (.laneBinding r) _
      (ready_atRest hready) (ready_absorbing hready) nofun)

end Lanes

end Policy

/-- R170: the lane values that a mask names, each of 32 bytes, make one chunk. -/
theorem maskedLaneValues_length {s : State} {mask : Byte} (hm : mask ≠ 0)
    (hl : ∀ k, k < 8 → (s.lanes.getD k .afterReset).value.length = 32) :
    0 < (maskedLaneValues s mask).length ∧ (maskedLaneValues s mask).length ≤ 256 := by
  have hbit : ∃ k, k < 8 ∧ mask.getLsbD k = true := by
    by_contra hno
    push Not at hno
    refine hm (BitVec.eq_of_getLsbD_eq fun k hk => ?_)
    simpa using hno k hk
  obtain ⟨k, hk, hset⟩ := hbit
  have hlen : ∀ k, k < 8 →
      (if mask.getLsbD k then (s.lanes.getD k .afterReset).value else []).length = if mask.getLsbD k then 32 else 0 := by
    intro k hk
    split
    · exact hl k hk
    · rfl
  rw [maskedLaneValues_eq, List.length_flatMap]
  constructor
  · refine lt_of_lt_of_le ?_ (List.single_le_sum (fun _ _ => Nat.zero_le _) _ (List.mem_map_of_mem (List.mem_range.2 hk)))
    rw [hlen k hk, if_pos hset]
    decide
  · refine (List.sum_le_card_nsmul _ 32 fun n hn => ?_).trans (by simp)
    obtain ⟨k, hk, rfl⟩ := List.mem_map.1 hn
    rw [hlen k (List.mem_range.1 hk)]
    split <;> omega

/-! ### The use of a credential (R173 to R175) -/

/-- R173, R175: `r` with `body` uses the credential `c` at the handle `h`. -/
def CredentialUsed (c : Credential) (h : Byte) (context : Bytes) (r : Request) (body : Bytes) : Prop :=
  (r = .releaseCredential ∧ body = [h] ∧ c.exportable = true) ∨ (r = .derive ∧ body = h :: context)

theorem credentialAt_handle {l : List Credential} {n : Nat} {c : Credential} (h : credentialAt l n = some c) : c.handle = n := by
  simpa using List.find?_some h

section Grant

variable {s : State} {c : Credential} {proof : Option Bytes} {body : Bytes} {j : Job}
  (hc : credentialAt s.store.credentials c.handle = some c)
include hc

theorem storedCredential_accepted (frame : Bytes) : storedCredential (accepted frame j s) c = c := by
  show (credentialAt s.store.credentials c.handle).getD c = c
  rw [hc, Option.getD_some]

/-- R174: the secret is released. -/
theorem grantUse_releases :
    grantUse .releaseCredential c (accepted (requestFrame .releaseCredential proof body) j s) =
      answeredSecret .releaseCredential (boundMaskOf c.binding) (releaseBody c) s := by
  unfold grantUse
  dsimp only
  rw [storedCredential_accepted hc, respondSecret_accepted]

/-- R175: the secret and the context are digested. -/
theorem grantUse_derives (hready : ready s = true) (hw : requestWellFormed proof body = true) :
    grantUse .derive c (accepted (requestFrame .derive proof body) j s) =
      digesting (requestFrame .derive proof body) .deriveDigest (bufferItem .derive (c.secret ++ body.drop 1)) s := by
  unfold grantUse
  dsimp only
  rw [storedCredential_accepted hc, requestBody_accepted hw]
  exact digestAndWait_accepted _ j .deriveDigest _ (ready_atRest hready) (ready_absorbing hready) nofun

end Grant

section Digests

variable {s : State} {c : Credential} {proof : Option Bytes} {body input : Bytes} {boot : Option BootRecord}
  {values : Option Bytes} (hready : ready s = true) (hcred : s.cred = some ⟨c, boot, values, false⟩)
  (h1 : 0 < input.length) (h2 : input.length ≤ 256)
include hready hcred h1 h2

/-- R175: the derive digest is placed as a secret response. -/
theorem derive_digested :
    exec .chunkEnd (digesting (requestFrame .derive proof body) .deriveDigest (bufferItem .derive input) s) =
      .next (answeredSecret .derive (boundMaskOf c.binding) (leBytes 1 c.handle ++ sha256 input) (unscanned s)) := by
  rw [chunkEnd_digesting _ _ _ h1 h2 (ready_atRest hready) (ready_absorbing hready) (by exact nofun)]
  have hend : channelDigest (sha256 input)
      (accepted (requestFrame .derive proof body) .deriveDigest { s with de.scanFirst := false }) =
      answeredSecret .derive (boundMaskOf c.binding) (leBytes 1 c.handle ++ sha256 input) (unscanned s) := by
    show deriveDigested (sha256 input) (accepted (requestFrame .derive proof body) .deriveDigest (unscanned s)) = _
    unfold deriveDigested
    rw [show (accepted (requestFrame .derive proof body) .deriveDigest (unscanned s)).cred = some ⟨c, boot, values, false⟩
      from hcred]
    dsimp only
    rw [if_neg Bool.false_ne_true, respondSecret_accepted]
  rw [hend]
  exact congrArg Host.Outcome.next (settle_answeredSecret _ _ _ (show atRest (unscanned s) from ready_atRest hready))

variable {r : Request} {mask : Byte} {reference : Bytes} (hb : c.binding = .lanes mask reference)
include hb

/-- R170: the lane-binding digest is compared with the reference. -/
theorem laneBinding_digested :
    exec .chunkEnd (digesting (requestFrame r proof body) (.laneBinding r) (bufferItem .laneBinding input) s) =
      .next (settle (if sha256 input = reference then
        grantUse r c (accepted (requestFrame r proof body) (.laneBinding r) (unscanned s))
        else answered r .policy [] (unscanned s))) := by
  rw [chunkEnd_digesting _ _ _ h1 h2 (ready_atRest hready) (ready_absorbing hready) (by exact nofun)]
  have hend : channelDigest (sha256 input)
      (accepted (requestFrame r proof body) (.laneBinding r) { s with de.scanFirst := false }) =
      if sha256 input = reference then
        grantUse r c (accepted (requestFrame r proof body) (.laneBinding r) (unscanned s))
      else answered r .policy [] (unscanned s) := by
    show laneBindingDigested r (sha256 input) (accepted (requestFrame r proof body) (.laneBinding r) (unscanned s)) = _
    unfold laneBindingDigested
    rw [show (accepted (requestFrame r proof body) (.laneBinding r) (unscanned s)).cred = some ⟨c, boot, values, false⟩
      from hcred]
    dsimp only
    rw [hb]
    simp
  rw [hend]

end Digests

/-! ### The taking and the gate (R157, R158, R173, R175) -/

section Taking

variable {s : State} {h : Byte} {context : Bytes} {c : Credential} {r : Request} {proof : Option Bytes} {body : Bytes}
  (hready : ready s = true) (hl : s.store.lifecycle = .owned) (hh : h.toNat ≤ 31) (h1 : 1 ≤ context.length)
  (h64 : context.length ≤ 64) (hc : credentialAt s.store.credentials h.toNat = some c)
  (huse : CredentialUsed c h context r body) (hw : requestWellFormed proof body = true)
include hready hl hh h1 h64 hc huse hw

theorem exec_use :
    exec (requestInstr r proof body) s =
      .next (useCredential r c (accepted (requestFrame r proof body) .taken s)) := by
  have hs := (ready_iff.1 hready).1
  obtain ⟨rfl, rfl, hx⟩ | ⟨rfl, rfl⟩ := huse
  · refine stateLength_taken hs hw (by simp) (ok := (lifecycleIs · .owned)) (fun _ => rfl) (decide_eq_true hl) rfl ?_
    dsimp only
    rw [show byteAt [h] 0 = h from rfl, if_neg (by omega), show (accepted _ _ s).store = s.store from rfl, hc]
    exact if_pos hx
  · refine requestCommand_next hs hw (by simp; omega) ?_
    rw [takeDerive, withState_ok _ (by simpa [lifecycleIs] using hl), requestBody_accepted hw]
    dsimp only
    rw [show byteAt (h :: context) 0 = h from rfl, if_neg (by simp only [Bool.or_eq_true, decide_eq_true_eq, List.length_cons]; omega), show (accepted _ _ s).store = s.store from rfl, hc]

/-- R173 step 5, R175 step 4: the gate of an owner-gated record. -/
theorem exec_gatedUse (hg : c.gated = true) :
    exec (requestInstr r proof body) s =
      .next (ownerGate r (accepted (requestFrame r proof body) .taken (holdCredential c s))) := by
  rw [exec_use hready hl hh h1 h64 hc huse hw]
  exact congrArg Host.Outcome.next (if_pos hg)

theorem exec_freeUse (hg : c.gated = false) :
    exec (requestInstr r proof body) s = .next (checkPolicy r c (accepted (requestFrame r proof body) .taken s)) := by
  rw [exec_use hready hl hh h1 h64 hc huse hw]
  exact congrArg Host.Outcome.next (if_neg (by rw [hg]; exact Bool.false_ne_true))

end Taking

theorem CredentialUsed.length_le {c : Credential} {h : Byte} {context : Bytes} {r : Request} {body : Bytes}
    (huse : CredentialUsed c h context r body) (h64 : context.length ≤ 64) : body.length ≤ 256 := by
  obtain ⟨-, rfl, -⟩ | ⟨-, rfl⟩ := huse
  · simp
  · simp
    omega

/-- R173 step 6, R175 step 5: behind the gate the policy of the record in the working copy is checked. -/
theorem afterGate_use {c : Credential} {h : Byte} {context : Bytes} {r : Request} {body : Bytes} (huse : CredentialUsed c h context r body)
    (frame : Bytes) (j : Job) (s : State) :
    afterGate r (accepted frame j (holdCredential c s)) = checkPolicy r c (accepted frame j s) := by
  obtain ⟨rfl, -, -⟩ | ⟨rfl, -⟩ := huse <;> rfl

theorem ignores_checkPolicy (r : Request) (c : Credential) : IgnoresWaiting (checkPolicy r c) := fun j s => by
  have hgrant : ∀ u : State, grantUse r c { u with mc.state := j } = grantUse r c u := fun u => by
    unfold grantUse
    split <;> rfl
  unfold checkPolicy
  cases c.binding with
  | none => exact hgrant { s with cred := some ⟨c, some s.isc.boot, none, false⟩ }
  | signer k v =>
    dsimp only
    rw [hgrant { s with cred := some ⟨c, some s.isc.boot, none, false⟩ },
      ignores_respond _ _ j { s with cred := some ⟨c, some s.isc.boot, none, false⟩ }]
  | lanes mask reference => rfl

/-- R157: the part past the gate of a credential, which has digested a proof where the record is owner-gated. -/
def pastGate (c : Credential) (s : State) : State :=
  { s with de.scanFirst := if c.gated then false else s.de.scanFirst }

theorem pastGate_gated {c : Credential} (s : State) (hg : c.gated = true) : pastGate c s = unscanned s := by
  rw [pastGate, hg, if_pos rfl, unscanned]

theorem pastGate_free {c : Credential} (s : State) (hg : c.gated = false) : pastGate c s = s := by
  rw [pastGate, hg, if_neg Bool.false_ne_true]

/-- R157: what the gate asks for the use of a credential. -/
def gateOpen (c : Credential) (proof : Option Bytes) (s : State) : Prop :=
  c.gated = false ∨ (∃ p, proof = some p ∧ proofRight s p = true) ∧ s.store.failures = 0

section Runs

variable {s : State} {h : Byte} {context : Bytes} {c : Credential} {r : Request} {proof : Option Bytes} {body : Bytes}
  (hready : ready s = true) (hl : s.store.lifecycle = .owned) (hh : h.toNat ≤ 31) (h1 : 1 ≤ context.length)
  (h64 : context.length ≤ 64) (hc : credentialAt s.store.credentials h.toNat = some c)
  (huse : CredentialUsed c h context r body) (hw : requestWellFormed proof body = true)
include hready hl hh h1 h64 hc huse hw

/-- R157, R158: with its gate open a use comes to the check of the policy, the proof zeroed where there is a gate. -/
theorem use_checksPolicy (hopen : gateOpen c proof s) :
    ∃ p j, requestWellFormed p body = true ∧
      ∀ t ends, checkPolicy r c (accepted (requestFrame r p body) j (pastGate c s)) = t → settle t = t →
        runCommands (requestInstr r proof body :: (if c.gated then [.chunkEnd] else []) ++ ends) s = runCommands ends t := by
  cases hg : c.gated with
  | false =>
    refine ⟨proof, .taken, hw, fun t ends ht _ => ?_⟩
    rw [pastGate_free s hg] at ht
    simp only [Bool.false_eq_true, if_false, List.cons_append, List.nil_append, runCommands,
      exec_freeUse hready hl hh h1 h64 hc huse hw hg, ht]
  | true =>
    obtain hno | ⟨⟨p, rfl, hright⟩, h0⟩ := hopen
    · exact absurd (hg.symm.trans hno) Bool.true_eq_false_eq_False.elim
    · obtain ⟨-, -, hp, hv⟩ := proofRight_iff.1 hright
      have hb := huse.length_le h64
      refine ⟨some (zeroBytes 32), .gateDigest r, wellFormed_proven hb, fun t ends ht hsettle => ?_⟩
      rw [pastGate_gated s hg] at ht
      have hdigests := ownerGate_digests (s := holdCredential c s) (r := r) hb hp .taken hready (by rw [show (holdCredential c s).store = s.store from rfl, h0]; decide)
      have hpasses := gating_passes (s := holdCredential c s) (r := r) (body := body) hp hready hv h0
      have hend : settle (afterGate r (accepted (provenFrame r body) (.gateDigest r) (unscanned (holdCredential c s)))) = t := by
        rw [← hsettle, ← ht]
        exact congrArg settle (afterGate_use huse (provenFrame r body) (.gateDigest r) (unscanned s))
      simp only [if_true, List.cons_append, List.nil_append, runCommands, exec_gatedUse hready hl hh h1 h64 hc huse hw hg,
        hdigests, hpasses, hend]

end Runs

end Sys2Proof.Machine
end

section
/-! PROOFS. The obligation on RELEASE_CREDENTIAL and DERIVE, by its parts (R132, R165 to R175, R183). -/

namespace Sys2Proof.Machine

/-! ### Arguments (R173, R175) -/

section Refused

variable {s : State} {proof : Option Bytes} {body : Bytes} (hs : channelFree s = true)
  (h : requestWellFormed proof body = true) (hb : body.length ≤ 259)
include hs h hb

theorem exec_use_unowned (hl : s.store.lifecycle ≠ .owned) :
    exec (.releaseCredential proof body) s = .next (answered .releaseCredential .badState [] s) ∧
      exec (.derive proof body) s = .next (answered .derive .badState [] s) :=
  ⟨state_refused hs h hb (ok := (lifecycleIs · .owned)) (fun _ => rfl) (decide_eq_false hl),
    state_refused (act := fun _ => _) hs h hb (ok := (lifecycleIs · .owned)) (fun _ => rfl) (decide_eq_false hl)⟩

variable (hl : s.store.lifecycle = .owned)
include hl

/-- R173: what RELEASE_CREDENTIAL does at its taking with a body of its length. -/
theorem exec_releaseCredential {t : State} (h1 : body.length = 1)
    (ht : (if 31 < (byteAt body 0).toNat then answered .releaseCredential .badArgument [] s
      else (credentialAt s.store.credentials (byteAt body 0).toNat).elim (answered .releaseCredential .notFound [] s)
        fun c =>
          if c.exportable then
            useCredential .releaseCredential c (accepted (requestFrame .releaseCredential proof body) .taken s)
          else answered .releaseCredential .badArgument [] s) = t) :
    exec (.releaseCredential proof body) s = .next t := by
  refine stateLength_taken hs h hb (ok := (lifecycleIs · .owned)) (fun _ => rfl) (decide_eq_true hl) h1 ?_
  dsimp only
  rw [← ht, respond_accepted]
  congr 1
  rw [show (accepted (requestFrame .releaseCredential proof body) .taken s).store = s.store from rfl]
  cases credentialAt s.store.credentials (byteAt body 0).toNat with
  | none => exact respond_accepted ..
  | some c => rfl

/-- R175: what DERIVE does at its taking. -/
theorem exec_derive {t : State}
    (ht : (if body.length < 2 ∨ 65 < body.length ∨ 31 < (byteAt body 0).toNat then answered .derive .badArgument [] s
      else (credentialAt s.store.credentials (byteAt body 0).toNat).elim (answered .derive .notFound [] s)
        fun c => useCredential .derive c (accepted (requestFrame .derive proof body) .taken s)) = t) :
    exec (.derive proof body) s = .next t := by
  refine requestCommand_next hs h hb ?_
  rw [takeDerive, withState_ok _ (by simpa [lifecycleIs] using hl), requestBody_accepted h]
  dsimp only
  rw [← ht, respond_accepted]
  refine (if_congr (by simp [or_assoc]) rfl ?_)
  rw [show (accepted (requestFrame .derive proof body) .taken s).store = s.store from rfl]
  cases credentialAt s.store.credentials (byteAt body 0).toNat with
  | none => exact respond_accepted ..
  | some c => rfl

end Refused

/-! ### An extend of a bound lane (R132, R170, R183) -/

theorem beginExtend_notifies {s t : State} {k : Nat} {record : LogRecord} (h : beginExtend k record s = some t) :
    t = notifyExtend k { s with lanes := s.lanes.modify k fun l => { l with extending := some ⟨l.value, record⟩ } } := by
  unfold beginExtend at h
  split at h
  · cases h
  · exact (Option.some.inj h).symm

theorem notifyExtend_cred (k : Nat) (s : State) : (notifyExtend k s).cred = s.cred.map (noteExtend k) := by
  unfold notifyExtend
  dsimp only
  split <;> rfl

theorem notifyExtend_scrubs {s : State} {k : Nat} {x : Response} {mask : Byte} (hx : s.mc.response = some x)
    (hsec : x.secret = true) (hm : x.boundMask = some mask) (hk : mask.getLsbD k = true) :
    (notifyExtend k s).mc.response = none ∧ (notifyExtend k s).mc.scrubTimer = none := by
  unfold notifyExtend
  dsimp only
  rw [hx, Option.any_some, hsec, hm, Option.any_some, maskHas, hk]
  exact ⟨rfl, rfl⟩

theorem notifyExtend_keeps {s : State} {k : Nat} {x : Response} (hx : s.mc.response = some x)
    (h : x.secret = false ∨ ∀ mask, x.boundMask = some mask → mask.getLsbD k = false) : (notifyExtend k s).mc = s.mc := by
  unfold notifyExtend
  dsimp only
  rw [hx, Option.any_some, if_neg]
  obtain h | h := h
  · simp [h]
  · simp only [Bool.and_eq_true, Option.any_eq_true, maskHas, not_and, not_exists]
    intro _ m hm
    rw [h m hm]
    exact Bool.false_ne_true

/-! ### The completion of a digest after that extend (R170) -/

section Spoiled

variable {s : State} {w : CredWork} {mask : Byte} {reference : Bytes} (hw : s.cred = some w)
  (hx : w.boundLaneExtended = true) (hb : w.record.binding = .lanes mask reference)
include hw hx

theorem deriveDigested_spoiled (digest : Bytes) : deriveDigested digest s = respond .policy [] s := by
  unfold deriveDigested
  rw [hw]
  exact if_pos hx

include hb

theorem laneBindingDigested_spoiled (r : Request) (digest : Bytes) :
    laneBindingDigested r digest s = respond .policy [] s := by
  unfold laneBindingDigested
  rw [hw]
  dsimp only
  rw [hb]
  exact if_neg (by simp [hx])

/-- R170: a use in hand whose bound lane was extended ends POLICY at the digest. -/
theorem channelDigest_spoiled (digest : Bytes)
    (hj : (∃ r, s.mc.state = .working (.laneBinding r)) ∨ s.mc.state = .working .deriveDigest) :
    channelDigest digest s = respond .policy [] s := by
  unfold channelDigest
  obtain ⟨r, hr⟩ | hr := hj
  · rw [hr]
    exact laneBindingDigested_spoiled hw hx hb r digest
  · rw [hr]
    exact deriveDigested_spoiled hw hx digest

end Spoiled

/-! ### The gate of an owner-gated record (R157, R158) -/

section Gated

variable {s : State} {h : Byte} {context : Bytes} {c : Credential} {r : Request} {body : Bytes} {p : Bytes}
  (hready : ready s = true) (hl : s.store.lifecycle = .owned) (hh : h.toNat ≤ 31) (h1 : 1 ≤ context.length)
  (h64 : context.length ≤ 64) (hc : credentialAt s.store.credentials h.toNat = some c) (hg : c.gated = true)
  (huse : CredentialUsed c h context r body)
include hready hl hh h1 h64 hc hg huse

theorem gatedUse_denied : exec (requestInstr r none body) s = .next (answered r .denied [] s) := by
  have hb := huse.length_le h64
  rw [exec_gatedUse hready hl hh h1 h64 hc huse (wellFormed_body none nofun hb) hg, ownerGate_denies hb]
  rfl

variable (hp : p.length = 32)
include hp

theorem gatedUse_locked (hf : s.store.failures = 8) :
    exec (requestInstr r (some p) body) s = .next (answered r .lockedOut [] s) := by
  have hb := huse.length_le h64
  rw [exec_gatedUse hready hl hh h1 h64 hc huse (wellFormed_body _ (fun q hq => by cases hq; exact hp) hb) hg,
    ownerGate_locked (s := holdCredential c s) hb hp .taken hf]
  rfl

theorem gatedUse_digests (hf : s.store.failures < 8) :
    exec (requestInstr r (some p) body) s = .next (gating r p body (holdCredential c s)) := by
  have hb := huse.length_le h64
  rw [exec_gatedUse hready hl hh h1 h64 hc huse (wellFormed_body _ (fun q hq => by cases hq; exact hp) hb) hg]
  refine congrArg Host.Outcome.next (ownerGate_digests (s := holdCredential c s) hb hp .taken hready ?_)
  exact Nat.ne_of_lt hf

theorem gatedUse_counts (hf : s.store.failures < 8) (hv : s.store.verifier ≠ some (sha256 p)) :
    runCommands [requestInstr r (some p) body, .chunkEnd, .storeWriteEnd] s =
      some { answered r .denied [] s with
        store := { s.store with failures := s.store.failures + 1 }
        de.scanFirst := false } := by
  simp only [runCommands, gatedUse_digests hready hl hh h1 h64 hc hg huse hp hf,
    gating_wrong (s := holdCredential c s) (r := r) (body := body) hp hready hv,
    gateWriting_denied (s := unscanned (holdCredential c s)) (r := r) (body := body) _ hready]
  rfl

/-- R157, R158: a right proof with a count of 1 to 7 first writes the count as 0, then goes on as with a count of 0. -/
theorem gatedUse_clears (hf : s.store.failures < 8) (h0 : s.store.failures ≠ 0) (hv : s.store.verifier = some (sha256 p)) :
    ∃ u v, runCommands [requestInstr r (some p) body, .chunkEnd] s = some u ∧ u.store = s.store ∧
      u.writes.current = some ⟨.channel, .failures 0⟩ ∧ u.cred = some ⟨c, none, none, false⟩ ∧
      exec .storeWriteEnd u = .next v ∧ v.store = { s.store with failures := 0 } ∧
      runCommands [requestInstr r (some p) body, .chunkEnd] { s with store := { s.store with failures := 0 } } = some v := by
  have hdigests := gatedUse_digests (s := { s with store := { s.store with failures := 0 } }) hready hl hh h1 h64 hc hg huse hp
    (by simp)
  have hpasses := gating_passes (s := holdCredential c { s with store := { s.store with failures := 0 } }) (r := r)
    (body := body) hp hready hv rfl
  have hcounted := gating_counted (s := holdCredential c s) (r := r) (body := body) hp hready hv h0
  have hends := gateWriting_ends (s := unscanned (holdCredential c s)) (r := r) (body := body) 0 hready true
  have hgoes : channelWriteEnded (accepted (provenFrame r body) (.gateWrite r true)
      { unscanned (holdCredential c s) with store.failures := 0 }) =
      afterGate r (accepted (provenFrame r body) (.gateDigest r)
        (unscanned (holdCredential c { s with store := { s.store with failures := 0 } }))) := by
    show afterGate r (accepted (provenFrame r body) (.gateWrite r true)
      (holdCredential c (unscanned { s with store := { s.store with failures := 0 } }))) = afterGate r
      (accepted (provenFrame r body) (.gateDigest r)
        (holdCredential c (unscanned { s with store := { s.store with failures := 0 } })))
    rw [afterGate_use huse, afterGate_use huse]
    exact ignores_checkPolicy r c (.working (.gateWrite r true)) (accepted (provenFrame r body) (.gateDigest r)
      (unscanned { s with store := { s.store with failures := 0 } }))
  refine ⟨_, _, ?_, ?_, ?_, ?_, hends, ?_, ?_⟩
  · simp only [runCommands, gatedUse_digests hready hl hh h1 h64 hc hg huse hp hf, hcounted]
  · rfl
  · rfl
  · rfl
  · rw [hgoes]
    simp [unscanned, holdCredential]
  · simp only [runCommands, hdigests, hpasses, hgoes]

end Gated

/-! ### Past the gate (R168 to R175) -/

section Open

variable {s : State} {h : Byte} {context : Bytes} {c : Credential} {r : Request} {proof : Option Bytes} {body : Bytes}
  (hready : ready s = true) (hl : s.store.lifecycle = .owned) (hh : h.toNat ≤ 31) (h1 : 1 ≤ context.length)
  (h64 : context.length ≤ 64) (hc : credentialAt s.store.credentials h.toNat = some c)
  (huse : CredentialUsed c h context r body) (hw : requestWellFormed proof body = true) (hopen : gateOpen c proof s)
include hready hl hh h1 h64 hc

/-- The commands up to the check of the policy, and those after it. -/
def useRun (c : Credential) (s : State) (i : Instr) (ends : List Instr) : Option State :=
  runCommands (i :: (if c.gated then [.chunkEnd] else []) ++ ends) s

include huse hw hopen in
theorem use_answeredPolicy (hno : (∃ k v, c.binding = .signer k v ∧ ¬ bootSigned s k v) ∨
      ∃ mask reference, c.binding = .lanes mask reference ∧ ¬ bootBooted s) :
    useRun c s (requestInstr r proof body) [] =
      some { answered r .policy [] s with de.scanFirst := if c.gated then false else s.de.scanFirst } := by
  obtain ⟨p, j, -, hrun⟩ := use_checksPolicy hready hl hh h1 h64 hc huse hw hopen
  refine hrun (answered r .policy [] (pastGate c s)) [] ?_ (settle_answered _ _ _ (show atRest s from ready_atRest hready))
  obtain ⟨k, v, hb, hsigned⟩ | ⟨mask, reference, hb, hbooted⟩ := hno
  · exact checkPolicy_unsigned hb hsigned
  · exact checkPolicy_unbooted hb hbooted

/-- R174: with NONE or a satisfied SIGNER binding the release is answered at once. -/
theorem use_releases (hx : c.exportable = true) (hw : requestWellFormed proof [h] = true) (hopen : gateOpen c proof s)
    (hbound : recordBound c s) :
    useRun c s (.releaseCredential proof [h]) [] =
      some (answeredSecret .releaseCredential none (releaseBody c) (pastGate c s)) := by
  obtain ⟨p, j, -, hrun⟩ := use_checksPolicy hready hl hh h1 h64 hc (.inl ⟨rfl, rfl, hx⟩) hw hopen
  refine hrun _ [] ?_ (settle_answeredSecret _ _ _ (show atRest s from ready_atRest hready))
  rw [checkPolicy_grants (by exact hbound)]
  have hmask : boundMaskOf c.binding = none := by
    obtain hb | ⟨k, v, hb, -⟩ := hbound <;> rw [hb] <;> rfl
  rw [← hmask]
  exact grantUse_releases (s := usedCredential c none (pastGate c s)) (by rw [credentialAt_handle hc]; exact hc)

/-- R175: with NONE or a satisfied SIGNER binding the secret and the context are digested. -/
theorem use_derives (hw : requestWellFormed proof (h :: context) = true) (hopen : gateOpen c proof s)
    (hbound : recordBound c s) :
    ∃ p, useRun c s (.derive proof (h :: context)) [] =
      some (digesting (requestFrame .derive p (h :: context)) .deriveDigest (bufferItem .derive (c.secret ++ context))
        (usedCredential c none (pastGate c s))) := by
  obtain ⟨p, j, hp, hrun⟩ := use_checksPolicy hready hl hh h1 h64 hc (.inr ⟨rfl, rfl⟩) hw hopen
  refine ⟨p, hrun _ [] ?_ (settle_digesting (s := usedCredential c none (pastGate c s)) _ _ _ (ready_atRest hready))⟩
  rw [checkPolicy_grants (by exact hbound)]
  exact grantUse_derives (s := usedCredential c none (pastGate c s)) (by rw [credentialAt_handle hc]; exact hc) hready hp

include huse hw hopen in
/-- R170: with a LANES binding the values of the lanes of the mask are digested. -/
theorem use_digestsLanes {mask : Byte} {reference : Bytes} (hb : c.binding = .lanes mask reference) (hbooted : bootBooted s) :
    ∃ p, requestWellFormed p body = true ∧ useRun c s (requestInstr r proof body) [] =
      some (digesting (requestFrame r p body) (.laneBinding r) (bufferItem .laneBinding (maskedLaneValues s mask))
        (usedCredential c (some (maskedLaneValues s mask)) (pastGate c s))) := by
  obtain ⟨p, j, hp, hrun⟩ := use_checksPolicy hready hl hh h1 h64 hc huse hw hopen
  exact ⟨p, hp, hrun _ [] (checkPolicy_digests hb hready hbooted)
    (settle_digesting (s := usedCredential c (some (maskedLaneValues s mask)) (pastGate c s)) _ _ _ (ready_atRest hready))⟩

end Open

/-! ### The answers (R170, R174, R175, R206) -/

/-- What the use of a credential leaves. -/
def useStands (s u : State) : Prop :=
  u.store = s.store ∧ u.cred = none ∧ u.clock = s.clock ∧ u.lanes = s.lanes ∧ u.tu = s.tu

theorem releaseBody_eq (c : Credential) :
    releaseBody c =
      [BitVec.ofNat 8 c.handle, credClassCode c.cls, BitVec.ofNat 8 c.secret.length] ++ c.secret := by
  rw [releaseBody, leBytes_one, leBytes_one]
  rfl

section Answer

variable {s : State} {c : Credential} {values : Option Bytes} (hready : ready s = true)
include hready

/-- R175: the end of the derive digest. -/
theorem derive_ends (proof : Option Bytes) (h : Byte) {context : Bytes} (h1 : 1 ≤ c.secret.length) (h128 : c.secret.length ≤ 128)
    (h64 : context.length ≤ 64) :
    ∃ u, exec .chunkEnd (digesting (requestFrame .derive proof (h :: context)) .deriveDigest
        (bufferItem .derive (c.secret ++ context)) (usedCredential c values s)) = .next u ∧
      holdsSecret .derive (boundMaskOf c.binding) ([BitVec.ofNat 8 c.handle] ++ sha256 (c.secret ++ context)) u = true ∧
      u.de.channel = none ∧ useStands s u := by
  have hlen : 0 < (c.secret ++ context).length ∧ (c.secret ++ context).length ≤ 256 := by
    rw [List.length_append]
    omega
  exact ⟨_, derive_digested (s := usedCredential c values s) hready rfl hlen.1 hlen.2, holdsSecret_answeredSecret ..,
    (ready_atRest hready).2.2.1, rfl, rfl, rfl, rfl, rfl⟩

section Bound

variable {r : Request} {proof : Option Bytes} {body input reference : Bytes} {mask : Byte}
  (hb : c.binding = .lanes mask reference) (h1 : 0 < input.length) (h2 : input.length ≤ 256)
include hb h1 h2

theorem laneBinding_refuses (hno : sha256 input ≠ reference) :
    exec .chunkEnd (digesting (requestFrame r proof body) (.laneBinding r) (bufferItem .laneBinding input)
        (usedCredential c (some input) s)) = .next (answered r .policy [] (unscanned s)) := by
  rw [laneBinding_digested (s := usedCredential c (some input) s) hready rfl h1 h2 hb, if_neg hno]
  exact congrArg Host.Outcome.next (settle_answered _ _ _
    (show atRest (unscanned (usedCredential c (some input) s)) from ready_atRest hready))

variable (hyes : sha256 input = reference) (hc : credentialAt s.store.credentials c.handle = some c)
include hyes hc

theorem laneBinding_releases :
    exec .chunkEnd (digesting (requestFrame .releaseCredential proof body) (.laneBinding .releaseCredential)
        (bufferItem .laneBinding input) (usedCredential c (some input) s)) =
      .next (answeredSecret .releaseCredential (some mask) (releaseBody c) (unscanned s)) := by
  rw [laneBinding_digested (s := usedCredential c (some input) s) hready rfl h1 h2 hb, if_pos hyes,
    grantUse_releases (by exact hc), hb]
  exact congrArg Host.Outcome.next (settle_answeredSecret _ _ _
    (show atRest (unscanned (usedCredential c (some input) s)) from ready_atRest hready))

theorem laneBinding_derives (hw : requestWellFormed proof body = true) :
    exec .chunkEnd (digesting (requestFrame .derive proof body) (.laneBinding .derive)
        (bufferItem .laneBinding input) (usedCredential c (some input) s)) =
      .next (digesting (requestFrame .derive proof body) .deriveDigest (bufferItem .derive (c.secret ++ body.drop 1))
        (unscanned (usedCredential c (some input) s))) := by
  rw [laneBinding_digested (s := usedCredential c (some input) s) hready rfl h1 h2 hb, if_pos hyes,
    grantUse_derives (by exact hc) (by exact hready) hw]
  exact congrArg Host.Outcome.next (settle_digesting _ _ _
    (show atRest (unscanned (usedCredential c (some input) s)) from ready_atRest hready))

end Bound

end Answer

end Sys2Proof.Machine

namespace Sys2Proof.Ownership

open Sys2Proof Sys2Proof.Machine

/-- Settles O54: the arguments, the gate, the policy of each binding, and an extend of a bound lane. -/
theorem credentialUse : Obligations.CredentialUse := by
  refine ⟨?_, ?_, fun s t k record ht => ?_, ?_⟩
  · intro s proof body hready h hb handle found
    have hs := (ready_iff.1 hready).1
    refine ⟨exec_use_unowned hs h hb, fun hl => ⟨fun hbad => ?_, fun h1 hh hc => ?_, fun c h1 hh hc hx => ?_, fun hbad => ?_,
      fun h2 h65 hh hc => ?_⟩⟩
    · by_cases h1 : body.length = 1
      · exact exec_releaseCredential hs h hb hl h1 (if_pos (hbad.resolve_left (not_not_intro h1)))
      · exact stateLength_refused hs h hb (ok := (lifecycleIs · .owned)) (fun _ => rfl) (decide_eq_true hl) h1
    · refine exec_releaseCredential hs h hb hl h1 ?_
      rw [if_neg (show ¬ 31 < handle by omega), show credentialAt s.store.credentials handle = none from hc]
      rfl
    · refine exec_releaseCredential hs h hb hl h1 ?_
      rw [if_neg (show ¬ 31 < handle by omega), show credentialAt s.store.credentials handle = some c from hc]
      exact if_neg (by rw [hx]; exact Bool.false_ne_true)
    · exact exec_derive hs h hb hl (if_pos hbad)
    · refine exec_derive hs h hb hl ?_
      rw [if_neg (show ¬ (body.length < 2 ∨ 65 < body.length ∨ 31 < handle) by omega),
        show credentialAt s.store.credentials handle = none from hc]
      rfl
  · intro s proof h context c hready hl hw hh h1 h64 hc hs1 hs128 uses
    have hform : ∀ body, body.length ≤ 256 → requestWellFormed proof body = true := fun body =>
      wellFormed_body proof (proof_length hw)
    refine ⟨fun hg r body huse => ⟨fun hp => ?_, fun p hp => ⟨fun hf => ?_, fun hf hv => ?_, fun hf h0 hv => ?_⟩⟩, fun hopen => ?_⟩
    · rw [hp]
      exact gatedUse_denied hready hl hh h1 h64 hc hg huse
    · rw [hp]
      exact gatedUse_locked hready hl hh h1 h64 hc hg huse (proof_length hw p hp) hf
    · rw [hp]
      exact gatedUse_counts hready hl hh h1 h64 hc hg huse (proof_length hw p hp) hf hv
    · rw [hp]
      exact gatedUse_clears hready hl hh h1 h64 hc hg huse (proof_length hw p hp) hf h0 hv
    · intro run policy booted signed released derived stands
      have hat : credentialAt s.store.credentials c.handle = some c := by rw [credentialAt_handle hc]; exact hc
      have hpolicy : ∀ r body, uses r body → ((∃ k v, c.binding = .signer k v ∧ ¬ signed k v) ∨
          ∃ mask reference, c.binding = .lanes mask reference ∧ ¬ booted) → policy r body := fun r body huse hno =>
        use_answeredPolicy hready hl hh h1 h64 hc huse (hform body (CredentialUsed.length_le huse h64)) hopen hno
      refine ⟨fun hbound => ⟨fun hx => ?_, ?_⟩, fun k v r body hb hno huse => hpolicy r body huse (.inl ⟨k, v, hb, hno⟩),
        fun mask reference hb => ⟨fun hno r body huse => hpolicy r body huse (.inr ⟨mask, reference, hb, hno⟩),
          fun hbooted hm hlanes => ?_⟩⟩
      · refine ⟨_, use_releases hready hl hh h1 h64 hc hx (hform _ (by simp)) hopen hbound, ?_, rfl, rfl, rfl, rfl, rfl⟩
        rw [releaseBody_eq]
        exact holdsSecret_answeredSecret ..
      · obtain ⟨p, hrun⟩ := use_derives hready hl hh h1 h64 hc hw hopen hbound
        obtain ⟨u, hend, hholds, hde, hstands⟩ := derive_ends (s := pastGate c s) (values := none) hready p h hs1 hs128 h64
        have hmask : boundMaskOf c.binding = none := by
          obtain hb | ⟨k, v, hb, -⟩ := hbound <;> rw [hb] <;> rfl
        rw [hmask] at hholds
        exact ⟨_, u, hrun, rfl, rfl, hend, hholds, hde, hstands⟩
      · intro values r body huse
        obtain ⟨hv1, hv2⟩ := maskedLaneValues_length hm hlanes
        obtain ⟨p, hp, hrun⟩ := use_digestsLanes hready hl hh h1 h64 hc huse
          (hform body (CredentialUsed.length_le huse h64)) hopen hb hbooted
        by_cases href : sha256 values = reference
        · obtain ⟨rfl, rfl, -⟩ | ⟨rfl, rfl⟩ := huse
          · refine ⟨_, _, hrun, rfl, rfl, laneBinding_releases (s := pastGate c s) hready hb hv1 hv2 href hat, rfl,
              fun hno => absurd href hno, fun _ _ => ⟨?_, rfl, rfl, rfl, rfl, rfl⟩, fun _ hr => nomatch hr⟩
            rw [releaseBody_eq]
            exact holdsSecret_answeredSecret ..
          · obtain ⟨u, hend, hholds, -, hstands⟩ := derive_ends (s := unscanned (pastGate c s))
              (values := some (maskedLaneValues s mask)) hready p h hs1 hs128 h64
            rw [hb] at hholds
            exact ⟨_, _, hrun, rfl, rfl, laneBinding_derives (s := pastGate c s) hready hb hv1 hv2 href hat hp, rfl,
              fun hno => absurd href hno, fun _ hr => (nomatch hr), fun _ _ => ⟨rfl, rfl, u, hend, hholds, hstands⟩⟩
        · exact ⟨_, _, hrun, rfl, rfl, laneBinding_refuses (s := pastGate c s) hready hb hv1 hv2 href, rfl,
            fun _ => ⟨holdsAnswer_answered .., rfl, rfl, rfl, rfl, rfl⟩, fun hyes => absurd hyes href,
            fun hyes => absurd hyes href⟩
  · have hn := beginExtend_notifies ht
    refine ⟨fun x mask hx hsec hm hk => ?_, fun x hx hnot => ?_, fun w mask reference hw hb hk => ?_⟩
    · rw [hn]
      exact notifyExtend_scrubs (by exact hx) hsec hm hk
    · rw [hn]
      exact notifyExtend_keeps (by exact hx) hnot
    · rw [hn, notifyExtend_cred]
      dsimp only
      rw [hw, Option.map_some, noteExtend, hb]
      exact congrArg some (if_pos hk)
  · intro s w mask reference input work hw hx hb h1 h2 ha hi hj
    obtain ⟨hl, -⟩ := bufferItem_digest work input h1 h2
    have hd : restartDue s = false := by
      refine restartDue_none fun f hf => ?_
      obtain ⟨r, hr⟩ | hr := hj <;> exact nomatch hr.symm.trans hf
    refine ⟨_, exec_chunkEnd_channel hd ha hi, ?_⟩
    rw [channelChunkEnd_last hl, channelDigest_spoiled (by exact hw) hx hb _ (by exact hj)]
    refine ⟨?_, ?_, ?_⟩ <;> simp [respond, frameCode, freshPort]

end Sys2Proof.Ownership
end

section
/-! PROOFS. The delivery of a chunk: checks 1 to 4 on a manifest, and a segment's chunk (R62, R71, R87, R88, R92, R94). -/

namespace Sys2Proof.Machine

/-! ### The bytes of a manifest (R201, R207) -/

theorem byteAt_drop (b : Bytes) (off i : Nat) : byteAt (b.drop off) i = byteAt b (off + i) := by
  simp [byteAt, List.getD_eq_getElem?_getD]

theorem leAt_two (b : Bytes) (off : Nat) : leAt b off 2 = (byteAt b off).toNat + 256 * (byteAt b (off + 1)).toNat := by
  have h0 := byteAt_drop b off 0
  rw [Nat.add_zero] at h0
  rw [leAt, slice, ← byteAt_drop b off 1, ← h0]
  obtain _ | ⟨x, _ | ⟨y, rest⟩⟩ := b.drop off <;> simp [leNat, byteAt]

theorem leAt_two_zero {b : Bytes} {off : Nat} : leAt b off 2 = 0 ↔ byteAt b off = 0 ∧ byteAt b (off + 1) = 0 := by
  rw [leAt_two, ← BitVec.toNat_inj, ← BitVec.toNat_inj]
  simp

theorem slice_zero_iff {b : Bytes} {off n : Nat} (h : off + n ≤ b.length) :
    slice b off n = zeroBytes n ↔ ∀ j, off ≤ j → j < off + n → byteAt b j = 0 := by
  have hlen : (slice b off n).length = n := by
    simp [slice]
    omega
  have hget : ∀ i, i < n → byteAt (slice b off n) i = byteAt b (off + i) := fun i hi => by
    rw [← byteAt_drop]
    simp [slice, byteAt, List.getD_eq_getElem?_getD, hi]
  constructor
  · intro hz j h1 h2
    have := hget (j - off) (by omega)
    rw [hz, Nat.add_sub_cancel' h1] at this
    rw [← this, byteAt, zeroBytes, List.getD_replicate _ (by omega)]
  · intro hall
    refine List.eq_replicate_iff.2 ⟨hlen, fun x hx => ?_⟩
    obtain ⟨i, hi, rfl⟩ := List.getElem_of_mem hx
    rw [← List.getD_eq_getElem _ 0 hi]
    exact (hget i (by omega)).trans (hall (off + i) (by omega) (by omega))

/-- R87 check 2, field by field. -/
def formatRight (m : Bytes) : Prop :=
  byteAt m 4 = 1 ∧ (byteAt m 5).toNat ≤ 3 ∧ 1 ≤ (byteAt m 6).toNat ∧ (byteAt m 6).toNat ≤ 8 ∧ byteAt m 7 = 0 ∧
    (∀ j, 12 ≤ j → j < 16 → byteAt m j = 0) ∧
    (∀ j, j < 16 → (byteAt m (34 + 8 * j)).toNat ≤ 3 ∧ (byteAt m (35 + 8 * j)).toNat ≤ 7 ∧
      byteAt m (38 + 8 * j) = 0 ∧ byteAt m (39 + 8 * j) = 0) ∧
    ∀ j, j < (byteAt m 6).toNat → byteAt m (163 + 40 * j) = 0

theorem regionFormat_iff (m : Bytes) (j : Nat) :
    ((manifestRegion m j).reserved == 0 && decide ((manifestRegion m j).target.toNat ≤ 3) &&
        decide ((manifestRegion m j).rights.toNat < 8)) = true ↔
      (byteAt m (34 + 8 * j)).toNat ≤ 3 ∧ (byteAt m (35 + 8 * j)).toNat ≤ 7 ∧
        byteAt m (38 + 8 * j) = 0 ∧ byteAt m (39 + 8 * j) = 0 := by
  simp only [Bool.and_eq_true, beq_iff_eq, decide_eq_true_eq]
  simp only [manifestRegion, leAt_two_zero]
  rw [show 32 + 8 * j + 2 = 34 + 8 * j by omega, show 32 + 8 * j + 3 = 35 + 8 * j by omega,
    show 32 + 8 * j + 6 = 38 + 8 * j by omega, show 38 + 8 * j + 1 = 39 + 8 * j by omega, Nat.lt_succ_iff]
  tauto

theorem formatOk_iff {m : Bytes} (h : m.length = 544) : formatOk m = true ↔ formatRight m := by
  have hregions : ((manifestRegions m).all fun e =>
      e.reserved == 0 && decide (e.target.toNat ≤ 3) && decide (e.rights.toNat < 8)) = true ↔
      ∀ j, j < 16 → (byteAt m (34 + 8 * j)).toNat ≤ 3 ∧ (byteAt m (35 + 8 * j)).toNat ≤ 7 ∧
        byteAt m (38 + 8 * j) = 0 ∧ byteAt m (39 + 8 * j) = 0 := by
    rw [manifestRegions, List.all_map, List.all_eq_true]
    simp only [List.mem_range, Function.comp_apply, regionFormat_iff]
  have hsegments : ((manifestSegments m).all fun g => g.reserved == 0) = true ↔
      ∀ j, j < (byteAt m 6).toNat → byteAt m (163 + 40 * j) = 0 := by
    rw [manifestSegments, List.all_map, List.all_eq_true]
    simp only [List.mem_range, Function.comp_apply, manifestSegment, beq_iff_eq, manifestSegmentCount]
    refine forall_congr' fun j => ?_
    rw [show 160 + 40 * j + 3 = 163 + 40 * j by omega]
  unfold formatOk formatRight
  rw [Bool.and_eq_true, Bool.and_eq_true, hregions, hsegments]
  simp only [Bool.and_eq_true, beq_iff_eq, decide_eq_true_eq,
    slice_zero_iff (b := m) (off := 12) (n := 4) (by omega), and_assoc]
  rfl

theorem magicOk_iff {m : Bytes} : magicOk m = true ↔ m.take 4 = [0x46, 0x4D, 0x4E, 0x31] := by
  rw [magicOk, slice, List.drop_zero, beq_iff_eq]

/-! ### Scan work in a free part (R96, R101, R113) -/

/-- The part between two pieces of a scan's work. -/
structure ScanFree (s : State) : Prop where
  op : s.fp.op = none
  engines : enginesFree s = true
  chunk : s.fp.chunk = none
  due : restartDue s = false

theorem endScan_stagedFailure {s : State} (reason : ScanReason) (k : Nat) (ho : s.isc.scan.owner = .stagedScan) :
    endScan (.failure reason k) s =
      { s with
        isc.scan.phase := .ended
        isc.scan.result := some (.failure reason k)
        isc.staging.state := .opened
        isc.staging.outcome := .rejected reason k
        mc.flags.scanDone := true } := by
  unfold endScan
  dsimp only
  rw [ho]
  rfl

theorem endScan_bootFailure {s : State} (reason : ScanReason) (k : Nat) (ho : s.isc.scan.owner = .bootScan) :
    endScan (.failure reason k) s =
      placeScanItem (bufferItem .scanFailureEvent
          ([slotCode s.isc.scan.slot, scanReasonCode reason] ++ s.isc.scan.manifestDigest))
        { s with
          isc.scan.phase := .ended
          isc.scan.result := some (.failure reason k)
          isc.stage := .failureDigest } := by
  unfold endScan
  dsimp only
  rw [ho]
  rfl

theorem slotCode_eq (x : Slot) : slotCode x = if x = .a then 0 else 1 := by
  cases x <;> rfl

section Free

variable {s : State} (h : ScanFree s)
include h

theorem ScanFree.settle_eq : settle s = s := by
  obtain ⟨hds, hdc, -, hss, hsc⟩ := enginesFree_iff.1 h.engines
  exact settle_quiet h.op hds hdc hss hsc h.chunk

/-- R68, R71: a BUFFER item placed in the free engine is absorbed at once. -/
theorem ScanFree.placesBuffer (work : DigestWork) (input : Bytes) :
    settle (placeScanItem (bufferItem work input) s) =
      { s with
        de.scan := some (bufferItem work input)
        de.scanFirst := true
        de.owed := false
        de.absorbing := some .scan } := by
  obtain ⟨hds, hdc, hda, hss, hsc⟩ := enginesFree_iff.1 h.engines
  rw [settle_scanBuffer (s := placeScanItem (bufferItem work input) s) (i := bufferItem work input) (by exact h.op) rfl rfl
    (by exact hdc) (by exact hda) (by exact hss) (by exact hsc) (by exact h.chunk) (by exact h.due)]
  unfold placeScanItem
  rw [hdc]
  rfl

/-- R96, R101, R113: a scan that fails a check ends. -/
theorem ScanFree.fails (reason : ScanReason) :
    settle (endScan (.failure reason 0) s) = scanFailed s.isc.scan.owner reason (scanReasonCode reason) s := by
  cases ho : s.isc.scan.owner with
  | stagedScan =>
    rw [endScan_stagedFailure reason 0 ho]
    exact ScanFree.settle_eq ⟨h.op, h.engines, h.chunk, h.due⟩
  | bootScan =>
    rw [endScan_bootFailure reason 0 ho, slotCode_eq]
    exact ScanFree.placesBuffer (s := { s with
      isc.scan.phase := .ended
      isc.scan.result := some (.failure reason 0)
      isc.stage := .failureDigest }) ⟨h.op, h.engines, h.chunk, h.due⟩ _ _

end Free

/-! ### CHUNK_DELIVERY (R62) -/

theorem exec_chunkDelivery {s : State} {c : ChunkRequest} (hd : restartDue s = false) (hc : s.fp.chunk = some c)
    (hr : c.reading = true) :
    exec .chunkDelivery s =
      .next (settle (deliverChunk (s.flash.readRange c.address c.length)
        { s with fp.chunk := none, fp.chunkBuffer := [], fp.sent := [] })) := by
  show Host.Outcome.next (unlessRestartDue chunkDelivery (freshPort s)) = _
  rw [unlessRestartDue_notDue chunkDelivery (by exact hd)]
  unfold chunkDelivery
  rw [show (freshPort s).fp.chunk = some c from hc]
  exact congrArg Host.Outcome.next (if_pos hr)

/-- The model's choice (log 5): with no chunk read in progress nothing is delivered. -/
theorem exec_chunkDelivery_undue {s : State} (h : ∀ c, s.fp.chunk = some c → c.reading = false) :
    exec .chunkDelivery s = .next { s with fp.sent := [] } := by
  show Host.Outcome.next (unlessRestartDue chunkDelivery (freshPort s)) = _
  have hnone : chunkDelivery (freshPort s) = freshPort s := by
    unfold chunkDelivery
    cases hc : s.fp.chunk with
    | none => rw [show (freshPort s).fp.chunk = none from hc]
    | some c =>
      rw [show (freshPort s).fp.chunk = some c from hc]
      exact if_neg (by rw [h c hc]; exact Bool.false_ne_true)
  rw [unlessRestartDue, hnone, ite_self]
  rfl

/-- R71: a segment chunk that finds the engine busy waits in its slot. -/
theorem settle_busy {s : State} (hop : s.fp.op = none) (ha : s.de.absorbing.isSome = true) (hss : s.su.scan = none)
    (hsc : s.su.channel = none) (hchunk : s.fp.chunk = none) : settle s = s := by
  rw [settle, startOperation_none hop, startAbsorption_busy ha, startSignature_empty hss hsc, startChunkRead_none hchunk,
    ite_self]

/-- R92: the part with a manifest delivered. -/
def manifestIn (m : Bytes) (s : State) : State :=
  { s with fp.chunk := none, fp.chunkBuffer := [], fp.sent := [], isc.scan.manifest := some m }

section Manifest

variable {s : State} {address : Nat} {m : Bytes} (he : enginesFree s = true) (hop : s.fp.op = none) (hd : restartDue s = false)
  (hc : s.fp.chunk = some ⟨s.isc.scan.owner, address, 544, true⟩) (hp : s.isc.scan.phase = .manifestRead)
  (hm : s.flash.readRange address 544 = m)
include hd hc hp hm

theorem exec_manifestDelivery :
    exec .chunkDelivery s =
      .next (settle (manifestDelivered m { s with fp.chunk := none, fp.chunkBuffer := [], fp.sent := [] })) := by
  rw [exec_chunkDelivery hd hc rfl]
  unfold deliverChunk
  rw [show ({ s with fp.chunk := none, fp.chunkBuffer := [], fp.sent := [] } : State).isc.scan.phase = .manifestRead from hp]
  dsimp only
  rw [hm]

include he hop

/-- R87, R96: a manifest that fails one of the checks 1 to 4 ends its scan. -/
theorem manifest_fails {reason : ScanReason} (h : deliveryChecks s.store.keys m = .error reason) :
    exec .chunkDelivery s = .next (scanFailed s.isc.scan.owner reason (scanReasonCode reason) (manifestIn m s)) := by
  rw [exec_manifestDelivery hd hc hp hm]
  refine congrArg Host.Outcome.next (Eq.trans (congrArg settle ?_)
    (ScanFree.fails (s := manifestIn m s) ⟨hop, he, rfl, hd⟩ reason))
  unfold manifestDelivered
  dsimp only
  rw [h]
  rfl

/-- R92: a manifest that passes the checks 1 to 4 goes to its digest. -/
theorem manifest_digests {key : Bytes} (h : deliveryChecks s.store.keys m = .ok key) :
    exec .chunkDelivery s =
      .next
        { manifestIn m s with
          isc.scan.signerKey := some key
          isc.scan.phase := .manifestDigest
          de.scan := some (bufferItem .manifest (m.take 480))
          de.scanFirst := true
          de.owed := false
          de.absorbing := some .scan } := by
  have hplace := ScanFree.placesBuffer (s := { manifestIn m s with
    isc.scan.signerKey := some key, isc.scan.phase := .manifestDigest }) ⟨hop, he, rfl, hd⟩ .manifest (m.take 480)
  rw [exec_manifestDelivery hd hc hp hm]
  refine congrArg Host.Outcome.next (Eq.trans (congrArg settle ?_) hplace)
  unfold manifestDelivered
  dsimp only
  rw [h, show manifestSigned m = m.take 480 from rfl]
  rfl

end Manifest

section Checks

variable {keys : List KeySlot} {m : Bytes}

theorem deliveryChecks_magic (h : magicOk m = false) : deliveryChecks keys m = .error .badMagic := by
  rw [deliveryChecks, h]
  rfl

theorem deliveryChecks_format (hm : magicOk m = true) (h : formatOk m = false) :
    deliveryChecks keys m = .error .badFormat := by
  rw [deliveryChecks, hm, h]
  rfl

variable (hm : magicOk m = true) (hf : formatOk m = true)
include hm hf

theorem deliveryChecks_empty (h : keys.getD (manifestSigner m) .empty = .empty) :
    deliveryChecks keys m = .error .signerEmpty := by
  rw [deliveryChecks, hm, hf, h]
  rfl

theorem deliveryChecks_revoked {key : Bytes} (h : keys.getD (manifestSigner m) .empty = .revoked key) :
    deliveryChecks keys m = .error .signerRevoked := by
  rw [deliveryChecks, hm, hf, h]
  rfl

theorem deliveryChecks_active {key : Bytes} (h : keys.getD (manifestSigner m) .empty = .active key) :
    deliveryChecks keys m = .ok key := by
  rw [deliveryChecks, hm, hf, h]
  rfl

end Checks

/-! ### A segment's chunk (R71, R94) -/

theorem startChunkRead_starts {s : State} {c : ChunkRequest} (hop : s.fp.op = none) (hc : s.fp.chunk = some c)
    (hr : c.reading = false) (hh : flashHeld s = false) :
    startChunkRead s =
      { s with fp.chunk := some { c with reading := true }, fp.sent := s.fp.sent ++ [.read c.address] } := by
  unfold startChunkRead
  rw [hc]
  simp [hr, hop, hh, send]

theorem scanManifest_some {s : State} {m : Bytes} (h : s.isc.scan.manifest = some m) : scanManifest s = m := by
  rw [scanManifest, h]
  rfl

theorem slotStart_some {s : State} {m : SlotMap} (x : Slot) (h : s.store.slotMap = some m) :
    slotStart s x = m.slotStart x := by
  rw [slotStart, h]
  rfl

/-- R94: the request for chunk `j` of the segment in hand. -/
def segmentChunk (m : SlotMap) (manifest : Bytes) (j : Nat) (s : State) : ChunkRequest :=
  let g := manifestSegment manifest s.isc.scan.segmentIndex
  ⟨s.isc.scan.owner, m.slotStart s.isc.scan.slot + g.offset * 4096 + 256 * j, min 256 (g.length - 256 * j), false⟩

theorem requestSegmentChunk_eq {s : State} {m : SlotMap} {manifest : Bytes} (j : Nat) (hm : s.isc.scan.manifest = some manifest)
    (hmap : s.store.slotMap = some m) :
    requestSegmentChunk j s =
      { s with
        isc.scan.nextChunk := j + 1
        fp.chunk := some (segmentChunk m manifest j s)
        fp.chunkBuffer := [] } := by
  unfold requestSegmentChunk segmentInHand
  rw [scanManifest_some hm, slotStart_some _ hmap]
  rfl

section Segment

variable {s : State} {i : DigestItem} {bytes manifest : Bytes} {m : SlotMap} (hop : s.fp.op = none)
  (ha : s.de.absorbing = none) (hi : s.de.scan = some i) (hk : i.kind = .segment) (hslot : i.chunkSlot = some bytes)
  (hdc : s.de.channel = none) (hss : s.su.scan = none) (hsc : s.su.channel = none) (hchunk : s.fp.chunk = none)
  (hd : restartDue s = false) (hm : s.isc.scan.manifest = some manifest) (hmap : s.store.slotMap = some m)
include hop ha hi hk hslot hdc hss hsc hd hm

include hchunk in
/-- R71: the free engine takes the chunk, the segment's last. -/
theorem settle_takesLast
    (hj : chunkCount (manifestSegment manifest s.isc.scan.segmentIndex).length ≤ s.isc.scan.nextChunk) :
    settle s =
      { s with
        de.absorbing := some .scan
        de.owed := false
        de.scan := some { i with chunkSlot := none, inHand := bytes } } := by
  rw [settle_notDue hd, startOperation_none hop, startAbsorption_segment ha hi hk hslot (.inr hdc)]
  unfold chunkTaken segmentInHand
  rw [scanManifest_some (by exact hm), if_neg (by exact Nat.not_lt.2 hj),
    startSignature_empty (by exact hss) (by exact hsc), startChunkRead_none (by exact hchunk)]

include hmap

/-- R71, R94: the free engine takes the chunk, and the next one of the segment is asked for. -/
theorem settle_takesChunk (hh : flashHeld s = false)
    (hj : s.isc.scan.nextChunk < chunkCount (manifestSegment manifest s.isc.scan.segmentIndex).length) :
    settle s =
      { s with
        de.absorbing := some .scan
        de.owed := false
        de.scan := some { i with chunkSlot := none, inHand := bytes }
        isc.scan.nextChunk := s.isc.scan.nextChunk + 1
        fp.chunk := some { segmentChunk m manifest s.isc.scan.nextChunk s with reading := true }
        fp.chunkBuffer := []
        fp.sent := s.fp.sent ++ [.read (segmentChunk m manifest s.isc.scan.nextChunk s).address] } := by
  rw [settle_notDue hd, startOperation_none hop, startAbsorption_segment ha hi hk hslot (.inr hdc)]
  unfold chunkTaken segmentInHand
  rw [scanManifest_some (by exact hm), if_pos (by exact hj), requestSegmentChunk_eq _ (by exact hm) (by exact hmap),
    startSignature_empty (by exact hss) (by exact hsc)]
  exact startChunkRead_starts (by exact hop) rfl rfl (by exact hh)

end Segment

end Sys2Proof.Machine

namespace Sys2Proof.Scans

open Sys2Proof Sys2Proof.Machine

/-- Settles O58: the checks of a delivered manifest in order, and a segment's chunk by the engine's state. -/
theorem manifestDelivery : Obligations.ManifestDelivery := by
  refine ⟨fun s h => exec_chunkDelivery_undue h, ?_, ?_⟩
  · intro s address he hb hop hd hc hp manifest signer delivered failed magic format
    have hlen : manifest.length = 544 := by simp [manifest]
    have hmagic : magicOk manifest = true ↔ magic := magicOk_iff
    have hformat : formatOk manifest = true ↔ format := formatOk_iff hlen
    have hfail : ∀ {reason : ScanReason}, deliveryChecks s.store.keys manifest = .error reason →
        exec .chunkDelivery s = .next (failed reason (scanReasonCode reason)) :=
      fun h => manifest_fails he hop hd hc hp rfl h
    refine ⟨fun hm => hfail (deliveryChecks_magic (Bool.eq_false_iff.2 (mt hmagic.1 hm))),
      fun hm hf => hfail (deliveryChecks_format (hmagic.2 hm) (Bool.eq_false_iff.2 (mt hformat.1 hf))),
      fun hm hf hk => hfail (deliveryChecks_empty (hmagic.2 hm) (hformat.2 hf) hk),
      fun key hm hf hk => hfail (deliveryChecks_revoked (hmagic.2 hm) (hformat.2 hf) hk),
      fun key hm hf hk => manifest_digests he hop hd hc hp rfl (deliveryChecks_active (hmagic.2 hm) (hformat.2 hf) hk)⟩
  · intro s owner address length item manifest m hb hop hd hss hsc hc hp hi hk hslot hm hmap bytes g j start delivered taken
    have hexec : exec .chunkDelivery s =
        .next (settle { delivered with de.scan := some { item with chunkSlot := some bytes } }) := by
      rw [exec_chunkDelivery hd hc rfl]
      unfold deliverChunk
      rw [show ({ s with fp.chunk := none, fp.chunkBuffer := [], fp.sent := [] } : State).isc.scan.phase = .segments from hp]
      dsimp only
      rw [hi]
      rfl
    have htaken : ({ item with chunkSlot := none, inHand := bytes } : DigestItem) = { item with inHand := bytes } := by
      rw [← hslot]
    let offered : State := { delivered with de.scan := some { item with chunkSlot := some bytes } }
    refine ⟨fun ha => ?_, fun ha hdc => ⟨fun hj => ?_, fun hj => ?_⟩⟩
    · rw [hexec, settle_busy (by exact hop) (by exact ha) (by exact hss) (by exact hsc) rfl]
    · rw [hexec, settle_takesLast (s := offered) (i := { item with chunkSlot := some bytes }) (bytes := bytes) (by exact hop) (by exact ha) rfl hk rfl (by exact hdc) (by exact hss) (by exact hsc) rfl
        (by exact hd) (by exact hm) hj]
      refine congrArg (fun i => Host.Outcome.next { delivered with
        de.absorbing := some .scan, de.owed := false, de.scan := some i }) htaken
    · have htakes := settle_takesChunk (s := offered) (i := { item with chunkSlot := some bytes }) (bytes := bytes)
        hop ha rfl hk rfl hdc hss hsc hd hm hmap (flashHeld_free hb) hj
      rw [hexec, htakes]
      exact congrArg (fun i => Host.Outcome.next
        { taken with
          de.scan := some i
          isc.scan.nextChunk := j + 1
          fp.chunk := some ⟨s.isc.scan.owner, start + 256 * j, min 256 (g.length - 256 * j), true⟩
          fp.sent := [.read (start + 256 * j)] }) htaken

end Sys2Proof.Scans
end

section
/-! PROOFS. The ends of the manifest digest and of the VERIFY: checks 5 to 9 (R78, R81, R87, R89, R90, R93, R94). -/

namespace Sys2Proof.Machine

/-! ### Checks 6 to 9, read from the bytes of the manifest (R89, R90) -/

theorem overlap_iff {a la b lb : Nat} : overlap a la b lb = true ↔ ∃ p, a ≤ p ∧ p < a + la ∧ b ≤ p ∧ p < b + lb := by
  simp only [overlap, Bool.and_eq_true, decide_eq_true_eq]
  constructor
  · rintro ⟨⟨⟨hla, hlb⟩, h1⟩, h2⟩
    exact ⟨max a b, by omega, by omega, by omega, by omega⟩
  · rintro ⟨p, h1, h2, h3, h4⟩
    omega

/-- R89: the end of region entry `j`. -/
def regionStop (m : Bytes) (j : Nat) : Nat := leAt m (32 + 8 * j) 2

/-- R89: the end of the region entry before entry `j`. -/
def regionBefore (m : Bytes) (j : Nat) : Nat := if j = 0 then 0 else regionStop m (j - 1)

theorem manifestRegion_stop (m : Bytes) (j : Nat) : (manifestRegion m j).stop = regionStop m j := rfl

theorem manifestRegion_target (m : Bytes) (j : Nat) : (manifestRegion m j).target = byteAt m (34 + 8 * j) :=
  congrArg (byteAt m) (by omega)

theorem manifestRegion_base (m : Bytes) (j : Nat) : (manifestRegion m j).base = leAt m (36 + 8 * j) 2 :=
  congrArg (leAt m · 2) (by omega)

theorem regionBefore_succ (m : Bytes) (j : Nat) : regionBefore m (j + 1) = regionStop m j := rfl

theorem manifestRegions_eq (m : Bytes) : manifestRegions m = (List.range' 0 16).map (manifestRegion m) := by
  rw [manifestRegions, List.range_eq_range']

/-- R89 check 7, entry by entry. -/
theorem endsOk_iff (m : Bytes) (k n : Nat) :
    endsOk (regionBefore m k) ((List.range' k n).map (manifestRegion m)) = true ↔
      ∀ j, k ≤ j → j < k + n →
        regionBefore m j ≤ regionStop m j ∧ regionStop m j ≤ 4096 ∧ leAt m (36 + 8 * j) 2 ≤ 8191 := by
  induction n generalizing k with
  | zero => exact iff_of_true rfl fun j h1 h2 => absurd h2 (by omega)
  | succ n ih =>
    rw [List.range'_succ, List.map_cons, endsOk]
    simp only [Bool.and_eq_true, decide_eq_true_eq]
    rw [manifestRegion_stop, manifestRegion_base, ← regionBefore_succ, ih, regionBefore_succ]
    constructor
    · rintro ⟨⟨⟨h1, h2⟩, h3⟩, hrest⟩ j hkj hj
      obtain rfl | hlt := Nat.eq_or_lt_of_le hkj
      · exact ⟨h1, h2, h3⟩
      · exact hrest j hlt (by omega)
    · intro h
      obtain ⟨h1, h2, h3⟩ := h k le_rfl (by omega)
      exact ⟨⟨⟨h1, h2⟩, h3⟩, fun j hkj hj => h j (by omega) (by omega)⟩

/-- R89 check 8, entry by entry. -/
theorem aliasesOk_iff (sm : SlotMap) (m : Bytes) (k n : Nat) :
    aliasesOk sm (regionBefore m k) ((List.range' k n).map (manifestRegion m)) = true ↔
      ∀ j, k ≤ j → j < k + n → regionStop m j ≠ regionBefore m j →
        aliasOk sm (manifestRegion m j) ((regionStop m j - regionBefore m j) * 4096) = true := by
  induction n generalizing k with
  | zero => exact iff_of_true rfl fun j h1 h2 => absurd h2 (by omega)
  | succ n ih =>
    rw [List.range'_succ, List.map_cons, aliasesOk]
    simp only [Bool.and_eq_true, Bool.or_eq_true, decide_eq_true_eq, or_iff_not_imp_left]
    rw [manifestRegion_stop, ← regionBefore_succ, ih, regionBefore_succ]
    constructor
    · rintro ⟨h1, hrest⟩ j hkj hj
      obtain rfl | hlt := Nat.eq_or_lt_of_le hkj
      · exact h1
      · exact hrest j hlt (by omega)
    · intro h
      exact ⟨h k le_rfl (by omega), fun j hkj hj => h j (by omega) (by omega)⟩

/-- R89: the bytes from `b` on of length `n` meet one of the areas that a DIRECT entry must leave alone, or leave the flash. -/
def directAliased (sm : SlotMap) (b n : Nat) : Prop :=
  0x2000000 < b + n ∨
    (∃ p, b ≤ p ∧ p < b + n ∧ sm.aBase * 65536 ≤ p ∧ p < sm.aBase * 65536 + sm.slotLength * 65536) ∨
    (∃ p, b ≤ p ∧ p < b + n ∧ sm.bBase * 65536 ≤ p ∧ p < sm.bBase * 65536 + sm.slotLength * 65536) ∨
    ∃ p, b ≤ p ∧ p < b + n ∧ sm.recoveryBase * 65536 ≤ p ∧ p < sm.recoveryBase * 65536 + sm.recoveryLength * 65536

/-- R89 check 8 for one entry. -/
theorem aliasOk_iff (sm : SlotMap) (m : Bytes) (j n : Nat) :
    aliasOk sm (manifestRegion m j) n = false ↔
      ((byteAt m (34 + 8 * j)).toNat = 1 ∧ directAliased sm (leAt m (36 + 8 * j) 2 * 4096) n) ∨
        (((byteAt m (34 + 8 * j)).toNat = 2 ∨ (byteAt m (34 + 8 * j)).toNat = 3) ∧
          sm.slotLength * 65536 < leAt m (36 + 8 * j) 2 * 4096 + n) := by
  have hcode : ∀ n : Nat, n < 256 → ((byteAt m (34 + 8 * j)).toNat = n ↔ byteAt m (34 + 8 * j) = BitVec.ofNat 8 n) := by
    intro n hn
    rw [← BitVec.toNat_inj, BitVec.toNat_ofNat, Nat.mod_eq_of_lt (by omega)]
  rw [hcode 1 (by omega), hcode 2 (by omega), hcode 3 (by omega)]
  unfold aliasOk
  rw [manifestRegion_target, manifestRegion_base, targetOfCode]
  by_cases h1 : byteAt m (34 + 8 * j) = 0x01
  · rw [if_pos h1, h1]
    simp only [Bool.and_eq_false_iff, decide_eq_false_iff_not, Bool.not_eq_false', overlap_iff, Nat.not_le, or_assoc]
    exact ⟨fun h => .inl ⟨rfl, h⟩, Or.rec And.right fun ⟨h, _⟩ => absurd h (by decide)⟩
  by_cases h2 : byteAt m (34 + 8 * j) = 0x02
  · rw [if_neg h1, if_pos h2, h2]
    simp only [decide_eq_false_iff_not, Nat.not_le]
    exact ⟨fun h => .inr ⟨.inl rfl, h⟩, Or.rec (fun ⟨h, _⟩ => absurd h (by decide)) And.right⟩
  by_cases h3 : byteAt m (34 + 8 * j) = 0x03
  · rw [if_neg h1, if_neg h2, if_pos h3, h3]
    simp only [decide_eq_false_iff_not, Nat.not_le]
    exact ⟨fun h => .inr ⟨.inr rfl, h⟩, Or.rec (fun ⟨h, _⟩ => absurd h (by decide)) And.right⟩
  · rw [if_neg h1, if_neg h2, if_neg h3]
    exact iff_of_false Bool.true_eq_false_eq_False.elim
      (Or.rec (fun ⟨h, _⟩ => h1 h) fun ⟨h, _⟩ => h.elim h2 h3)

/-! ### Check 9 (R90) -/

theorem spansDisjoint_iff (l : List ManifestSegment) :
    spansDisjoint l = true ↔
      l.Pairwise fun g h => overlap (g.offset * 4096) g.length (h.offset * 4096) h.length = false := by
  induction l with
  | nil => exact iff_of_true rfl .nil
  | cons g rest ih =>
    rw [spansDisjoint, Bool.and_eq_true, ih, List.pairwise_cons, List.all_eq_true]
    simp

/-- R90: the span of segment `k`, its first byte. -/
def segmentStart (m : Bytes) (k : Nat) : Nat := leAt m (160 + 40 * k) 2 * 4096

/-- R90: the span of segment `k`, its length. -/
def segmentLength (m : Bytes) (k : Nat) : Nat := leAt m (164 + 40 * k) 4

/-- R90: segment `k` fails check 9. -/
def segmentBad (slotBytes : Nat) (m : Bytes) (k : Nat) : Prop :=
  segmentStart m k = 0 ∨ segmentLength m k = 0 ∨ slotBytes < segmentStart m k + segmentLength m k ∨
    (3 < (byteAt m (162 + 40 * k)).toNat ∧ (byteAt m (162 + 40 * k)).toNat ≠ 0xFF) ∨
    ∃ l, l < manifestSegmentCount m ∧ l ≠ k ∧
      ∃ p, segmentStart m k ≤ p ∧ p < segmentStart m k + segmentLength m k ∧
        segmentStart m l ≤ p ∧ p < segmentStart m l + segmentLength m l

theorem manifestSegment_length (m : Bytes) (k : Nat) : (manifestSegment m k).length = segmentLength m k :=
  congrArg (leAt m · 4) (by omega)

theorem manifestSegment_start (m : Bytes) (k : Nat) : (manifestSegment m k).offset * 4096 = segmentStart m k := rfl

theorem manifestSegment_lane (m : Bytes) (k : Nat) : (manifestSegment m k).lane = byteAt m (162 + 40 * k) :=
  congrArg (byteAt m) (by omega)

theorem segmentOk_iff (slotBytes : Nat) (m : Bytes) (k : Nat) :
    segmentOk slotBytes (manifestSegment m k) = true ↔
      segmentStart m k ≠ 0 ∧ segmentLength m k ≠ 0 ∧ segmentStart m k + segmentLength m k ≤ slotBytes ∧
        ((byteAt m (162 + 40 * k)).toNat ≤ 3 ∨ (byteAt m (162 + 40 * k)).toNat = 0xFF) := by
  have hff : (byteAt m (162 + 40 * k)).toNat = 0xFF ↔ byteAt m (162 + 40 * k) = 0xFF := by
    rw [← BitVec.toNat_inj]
    rfl
  have hoff : segmentStart m k ≠ 0 ↔ (manifestSegment m k).offset ≠ 0 := by
    rw [← manifestSegment_start]
    omega
  rw [hff, hoff]
  simp only [segmentOk, Bool.and_eq_true, Bool.or_eq_true, decide_eq_true_eq, beq_iff_eq, and_assoc]
  rw [manifestSegment_length, manifestSegment_start, manifestSegment_lane]

/-- R90: no segment fails check 9. -/
theorem segmentsOk_iff (slotBytes : Nat) (m : Bytes) :
    ((manifestSegments m).all (segmentOk slotBytes) && spansDisjoint (manifestSegments m)) = true ↔
      ∀ k, k < manifestSegmentCount m → ¬ segmentBad slotBytes m k := by
  have hmeet : ∀ k l, overlap ((manifestSegment m k).offset * 4096) (manifestSegment m k).length
      ((manifestSegment m l).offset * 4096) (manifestSegment m l).length = false ↔
      ¬ ∃ p, segmentStart m k ≤ p ∧ p < segmentStart m k + segmentLength m k ∧
        segmentStart m l ≤ p ∧ p < segmentStart m l + segmentLength m l := fun k l => by
    rw [manifestSegment_length, manifestSegment_length, manifestSegment_start, manifestSegment_start, ← overlap_iff,
      Bool.not_eq_true]
  rw [Bool.and_eq_true, spansDisjoint_iff, manifestSegments, List.all_map, List.all_eq_true, List.pairwise_map]
  simp only [List.mem_range, Function.comp_apply, segmentOk_iff, hmeet]
  constructor
  · rintro ⟨hok, hpair⟩ k hk hbad
    obtain ⟨h1, h2, h3, h4⟩ := hok k hk
    obtain hb | hb | hb | ⟨hb, hb'⟩ | ⟨l, hl, hlk, p, p1, p2, p3, p4⟩ := hbad
    · exact h1 hb
    · exact h2 hb
    · omega
    · exact h4.elim (by omega) hb'
    · rw [List.pairwise_iff_getElem] at hpair
      obtain hlt | hlt := Nat.lt_or_gt_of_ne hlk
      · exact hpair l k (by simpa using hl) (by simpa using hk) hlt ⟨p, by simpa using p3, by simpa using p4, by simpa using p1, by simpa using p2⟩
      · exact hpair k l (by simpa using hk) (by simpa using hl) hlt ⟨p, by simpa using p1, by simpa using p2, by simpa using p3, by simpa using p4⟩
  · intro hgood
    refine ⟨fun k hk => ⟨fun h => hgood k hk (.inl h), fun h => hgood k hk (.inr (.inl h)), ?_, ?_⟩, ?_⟩
    · by_contra h
      exact hgood k hk (.inr (.inr (.inl (by omega))))
    · by_contra h
      exact hgood k hk (.inr (.inr (.inr (.inl (by omega)))))
    · rw [List.pairwise_iff_getElem]
      intro i j hi hj hij
      rw [List.getElem_range, List.getElem_range]
      rw [List.length_range] at hi hj
      exact fun h => hgood i hi (.inr (.inr (.inr (.inr ⟨j, hj, by omega, h⟩))))

/-! ### Checks 6 to 9 in order -/

/-- R89 check 6 fails. -/
def versionLow (floor : Option Word32) (m : Bytes) : Prop := ∃ f, floor = some f ∧ leAt m 8 4 < f.toNat

theorem versionLow_iff {floor : Option Word32} {m : Bytes} :
    (floor.any fun f => decide (manifestVersion m < f)) = true ↔ versionLow floor m := by
  rw [Option.any_eq_true, versionLow]
  refine exists_congr fun f => and_congr_right fun _ => ?_
  rw [decide_eq_true_eq, BitVec.lt_def, manifestVersion, BitVec.toNat_ofNat, Nat.mod_eq_of_lt (leAt_lt m 8)]

/-- R89 check 7 fails. -/
def regionsBad (m : Bytes) : Prop :=
  ∃ j, j < 16 ∧ (regionStop m j < regionBefore m j ∨ 4096 < regionStop m j ∨ 8191 < leAt m (36 + 8 * j) 2)

theorem regionsBad_iff {m : Bytes} : endsOk 0 (manifestRegions m) = false ↔ regionsBad m := by
  rw [← Bool.not_eq_true, manifestRegions_eq]
  refine (not_congr (endsOk_iff m 0 16)).trans ?_
  simp only [regionsBad, not_forall, Nat.zero_le, Nat.zero_add, true_implies, not_and_or, Nat.not_le, exists_prop]

/-- R89 check 8 fails. -/
def regionsAliased (sm : SlotMap) (m : Bytes) : Prop :=
  ∃ j, j < 16 ∧ regionStop m j ≠ regionBefore m j ∧
    (((byteAt m (34 + 8 * j)).toNat = 1 ∧
        directAliased sm (leAt m (36 + 8 * j) 2 * 4096) ((regionStop m j - regionBefore m j) * 4096)) ∨
      (((byteAt m (34 + 8 * j)).toNat = 2 ∨ (byteAt m (34 + 8 * j)).toNat = 3) ∧
        sm.slotLength * 65536 < leAt m (36 + 8 * j) 2 * 4096 + (regionStop m j - regionBefore m j) * 4096))

theorem regionsAliased_iff {sm : SlotMap} {m : Bytes} :
    aliasesOk sm 0 (manifestRegions m) = false ↔ regionsAliased sm m := by
  rw [← Bool.not_eq_true, manifestRegions_eq]
  refine (not_congr (aliasesOk_iff sm m 0 16)).trans ?_
  simp only [regionsAliased, not_forall, Nat.zero_le, Nat.zero_add, true_implies, exists_prop, Bool.not_eq_true, aliasOk_iff]

/-- R90 check 9 fails. -/
def segmentsBad (sm : SlotMap) (m : Bytes) : Prop :=
  ∃ k, k < manifestSegmentCount m ∧ segmentBad (sm.slotLength * 65536) m k

theorem segmentsBad_iff {sm : SlotMap} {m : Bytes} :
    ((manifestSegments m).all (segmentOk sm.slotBytes) && spansDisjoint (manifestSegments m)) = false ↔
      segmentsBad sm m := by
  rw [← Bool.not_eq_true, segmentsOk_iff]
  simp only [segmentsBad, not_forall, not_not, exists_prop]
  rfl

section Checks

variable {floor : Option Word32} {sm : SlotMap} {m : Bytes}

theorem tableChecks_floor (h : versionLow floor m) : tableChecks floor sm m = some .versionBelowFloor := by
  rw [tableChecks, versionLow_iff.2 h, if_pos rfl]

variable (hf : ¬ versionLow floor m)
include hf

theorem tableChecks_regions (h : regionsBad m) : tableChecks floor sm m = some .badRegionTable := by
  rw [tableChecks, Bool.eq_false_iff.2 (mt versionLow_iff.1 hf), regionsBad_iff.2 h]
  rfl

variable (hr : ¬ regionsBad m)
include hr

theorem tableChecks_aliased (h : regionsAliased sm m) : tableChecks floor sm m = some .regionAlias := by
  rw [tableChecks, Bool.eq_false_iff.2 (mt versionLow_iff.1 hf), Bool.of_not_eq_false (mt regionsBad_iff.1 hr),
    regionsAliased_iff.2 h]
  rfl

variable (ha : ¬ regionsAliased sm m)
include ha

theorem tableChecks_segments (h : segmentsBad sm m) : tableChecks floor sm m = some .badSegment := by
  rw [tableChecks, Bool.eq_false_iff.2 (mt versionLow_iff.1 hf), Bool.of_not_eq_false (mt regionsBad_iff.1 hr),
    Bool.of_not_eq_false (mt regionsAliased_iff.1 ha), segmentsBad_iff.2 h]
  rfl

theorem tableChecks_pass (h : ¬ segmentsBad sm m) : tableChecks floor sm m = none := by
  rw [tableChecks, Bool.eq_false_iff.2 (mt versionLow_iff.1 hf), Bool.of_not_eq_false (mt regionsBad_iff.1 hr),
    Bool.of_not_eq_false (mt regionsAliased_iff.1 ha), Bool.of_not_eq_false (mt segmentsBad_iff.1 h)]
  rfl

end Checks

end Sys2Proof.Machine
end

section
/-! PROOFS. The obligation on the ends of the manifest digest and of the VERIFY (R78, R81, R93, R94). -/

namespace Sys2Proof.Machine

/-! ### The manifest digest and its VERIFY (R93) -/

/-- R93: the VERIFY of a manifest whose digest has completed. -/
def manifestVerify (input key manifest : Bytes) (running : Bool) : SigItem :=
  ⟨.verify (sha256 input) key ((manifest.drop 480).take 64), running⟩

/-- R93: the manifest digest is stored and its VERIFY placed, running or waiting. -/
def verifyPlaced (input key manifest : Bytes) (first running : Bool) (s : State) : State :=
  { s with
    fp.sent := []
    de := { s.de with scan := none, absorbing := none, owed := false }
    isc.scan.manifestDigest := sha256 input
    isc.scan.phase := .signature
    su := { s.su with scan := some (manifestVerify input key manifest running), scanFirst := first } }

section Manifest

variable {s : State} {input key manifest : Bytes} {n : Nat} (hn : n + 1 = chunkCount input.length)
  (hop : s.fp.op = none) (hchunk : s.fp.chunk = none) (hdc : s.de.channel = none) (ha : s.de.absorbing = some .scan)
  (hd : restartDue s = false) (hi : s.de.scan = some (bufferAfter .manifest input n))
  (hkey : s.isc.scan.signerKey = some key) (hm : s.isc.scan.manifest = some manifest)
include hn ha hd hi hkey hm

theorem exec_manifestDigested :
    exec .chunkEnd s = .next (settle (verifyPlaced input key manifest s.su.channel.isNone false s)) := by
  have hl : (bufferAfter .manifest input n).lastChunk = true := by
    rw [bufferAfter_lastChunk]
    exact decide_eq_true (by omega)
  rw [exec_chunkEnd_scan hd ha hi, scanChunkEnd_last hl, bufferAfter_work, bufferAfter_next,
    bufferAfter_digest .manifest input hn, reportAbsorbed_buffer (bufferAfter_kind ..)]
  refine congrArg (fun u => Host.Outcome.next (settle u)) ?_
  show manifestDigested (sha256 input)
    { freshPort s with de.scan := none, de.absorbing := none, de.owed := false } = _
  unfold manifestDigested
  rw [show ({ freshPort s with de.scan := none, de.absorbing := none, de.owed := false } : State).isc.scan.signerKey =
    some key from hkey, scanManifest_some (by exact hm)]
  rfl

include hop hchunk hdc

/-- R81, R93: the idle unit runs the VERIFY at once. -/
theorem manifestDigested_runs (hsc : s.su.channel = none) :
    exec .chunkEnd s = .next (verifyPlaced input key manifest true true s) := by
  rw [exec_manifestDigested hn ha hd hi hkey hm, hsc]
  have hstart : startSignature (verifyPlaced input key manifest true false s) =
      verifyPlaced input key manifest true true s := by
    unfold startSignature
    rw [show (verifyPlaced input key manifest true false s).su.channel = none from hsc]
    rfl
  rw [settle_notDue (by exact hd), startOperation_none (by exact hop), startAbsorption_empty rfl (by exact hdc)]
  exact congrArg Host.Outcome.next ((congrArg startChunkRead hstart).trans (startChunkRead_none hchunk))

/-- R81, R93: the VERIFY waits while the channel's operation runs. -/
theorem manifestDigested_waits {op : SigOp} (hsc : s.su.channel = some ⟨op, true⟩) :
    exec .chunkEnd s = .next (verifyPlaced input key manifest false false s) := by
  rw [exec_manifestDigested hn ha hd hi hkey hm, hsc]
  exact congrArg Host.Outcome.next (settle_signatureRuns (c := ⟨op, true⟩) hop rfl hdc hsc rfl hchunk)

end Manifest

/-! ### The completion of the VERIFY (R78, R81, R89, R94) -/

theorem exec_verifyEnd {s : State} {op : SigOp} (hd : restartDue s = false) (hv : s.su.scan = some ⟨op, true⟩) :
    exec .signatureCompletion s = .next (settle (scanSignature op (freshPort s))) := by
  show Host.Outcome.next (unlessRestartDue signatureCompletion (freshPort s)) = _
  rw [unlessRestartDue_notDue _ (by exact hd)]
  unfold signatureCompletion
  rw [show (freshPort s).su.scan = some ⟨op, true⟩ from hv]
  rfl

/-- R94: segment `k` has begun in a free part, with the read of its first chunk. -/
def segmentBegun (m : SlotMap) (manifest : Bytes) (k : Nat) (s : State) : State :=
  let g := manifestSegment manifest k
  let address := m.slotStart s.isc.scan.slot + g.offset * 4096
  { s with
    isc.scan.phase := .segments
    isc.scan.segmentIndex := k
    isc.scan.nextChunk := 1
    de.scan := some (segmentItem g.length)
    de.scanFirst := true
    de.owed := false
    fp.chunk := some ⟨s.isc.scan.owner, address, min 256 g.length, true⟩
    fp.chunkBuffer := []
    fp.sent := s.fp.sent ++ [.read address] }

/-- R94: a segment begins in a free part. -/
theorem ScanFree.beginsSegment {s : State} {m : SlotMap} {manifest : Bytes} (h : ScanFree s) (hb : busFree s = true) (k : Nat)
    (hm : s.isc.scan.manifest = some manifest) (hmap : s.store.slotMap = some m) :
    settle (beginSegment k s) = segmentBegun m manifest k s := by
  obtain ⟨hds, hdc, hda, hss, hsc⟩ := enginesFree_iff.1 h.engines
  have hbegin : beginSegment k s =
      { s with
        isc.scan.phase := .segments
        isc.scan.segmentIndex := k
        isc.scan.nextChunk := 1
        de.scan := some (segmentItem (manifestSegment manifest k).length)
        de.scanFirst := s.de.channel.isNone
        de.owed := false
        fp.chunk := some (segmentChunk m manifest 0 { s with isc.scan.segmentIndex := k })
        fp.chunkBuffer := [] } := by
    unfold beginSegment
    dsimp only
    rw [requestSegmentChunk_eq 0 (by exact hm) (by exact hmap), segmentInHand, scanManifest_some (by exact hm)]
    rfl
  have hfirst : s.de.channel.isNone = true := Option.isNone_iff_eq_none.2 hdc
  rw [hbegin, hfirst, settle_notDue (by exact h.due), startOperation_none (by exact h.op),
    startAbsorption_nothing (by exact hda) (by exact hdc) (fun i hi => by cases hi; exact ⟨rfl, rfl⟩),
    startSignature_empty (by exact hss) (by exact hsc)]
  exact startChunkRead_starts (c := segmentChunk m manifest 0 { s with isc.scan.segmentIndex := k }) (by exact h.op) rfl rfl
    (flashHeld_free (by exact hb))

/-- R93: the part with the VERIFY of a scan ended. -/
def verifyEnded (s : State) : State := { s with su.scan := none, fp.sent := [] }

section Verify

variable {s : State} {digest key signature manifest : Bytes} {m : SlotMap} (hb : busFree s = true) (hop : s.fp.op = none)
  (hchunk : s.fp.chunk = none) (hds : s.de.scan = none) (hdc : s.de.channel = none) (hda : s.de.absorbing = none)
  (hsc : s.su.channel = none) (hv : s.su.scan = some ⟨.verify digest key signature, true⟩)
  (hp : s.isc.scan.phase = .signature) (hm : s.isc.scan.manifest = some manifest) (hmap : s.store.slotMap = some m)
  (hd : restartDue s = false)
include hv hp hd

theorem exec_verifyCompleted :
    exec .signatureCompletion s =
      .next (settle (verifyCompleted (verifySignature digest key signature) (verifyEnded s))) := by
  rw [exec_verifyEnd hd hv]
  exact congrArg (fun u => Host.Outcome.next (settle u)) (if_pos hp)

include hop hchunk hds hdc hda hsc

omit hv hp in
theorem scanFree_verifyEnded : ScanFree (verifyEnded s) := ⟨hop, enginesFree_iff.2 ⟨hds, hdc, hda, rfl, hsc⟩, hchunk, hd⟩

/-- R87 check 5. -/
theorem verify_invalid (hval : verifySignature digest key signature = false) :
    exec .signatureCompletion s = .next (scanFailed s.isc.scan.owner .badSignature 0x05 (verifyEnded s)) := by
  rw [exec_verifyCompleted hv hp hd, hval]
  exact congrArg Host.Outcome.next ((scanFree_verifyEnded hop hchunk hds hdc hda hsc hd).fails .badSignature)

variable (hval : verifySignature digest key signature = true)
include hm hmap hval

/-- R87, R89, R90: a manifest that fails one of the checks 6 to 9. -/
theorem verify_fails {reason : ScanReason} (h : tableChecks s.store.floor m manifest = some reason) :
    exec .signatureCompletion s =
      .next (scanFailed s.isc.scan.owner reason (scanReasonCode reason) (verifyEnded s)) := by
  rw [exec_verifyCompleted hv hp hd, hval]
  refine congrArg Host.Outcome.next (Eq.trans (congrArg settle ?_)
    ((scanFree_verifyEnded hop hchunk hds hdc hda hsc hd).fails reason))
  unfold verifyCompleted slotMapOf
  rw [show (verifyEnded s).store = s.store from rfl, hmap, Option.getD_some, scanManifest_some (s := verifyEnded s) hm, h]
  rfl

include hb

/-- R94, R108: a manifest that passes them begins its segment 0. -/
theorem verify_passes (h : tableChecks s.store.floor m manifest = none) :
    exec .signatureCompletion s =
      .next (segmentBegun m manifest 0
        { verifyEnded s with
          isc.staging.chunksTotal :=
            if s.isc.scan.owner = .stagedScan then manifestChunks manifest else s.isc.staging.chunksTotal }) := by
  rw [exec_verifyCompleted hv hp hd, hval]
  refine congrArg Host.Outcome.next (Eq.trans (congrArg settle ?_)
    (ScanFree.beginsSegment (s := { verifyEnded s with
      isc.staging.chunksTotal :=
        if s.isc.scan.owner = .stagedScan then manifestChunks manifest else s.isc.staging.chunksTotal })
      ⟨hop, enginesFree_iff.2 ⟨hds, hdc, hda, rfl, hsc⟩, hchunk, hd⟩ hb 0 hm hmap))
  unfold verifyCompleted slotMapOf
  rw [show (verifyEnded s).store = s.store from rfl, hmap, Option.getD_some, scanManifest_some (s := verifyEnded s) hm, h]
  show beginSegment 0 (if s.isc.scan.owner = .stagedScan then
    { verifyEnded s with isc.staging.chunksTotal := manifestChunks manifest } else verifyEnded s) = _
  split <;> rfl

end Verify

/-! ### An operation that waited (R81) -/

theorem startSignature_waiting {s : State} {op : SigOp} (hv : s.su.scan = none) (hc : s.su.channel = some ⟨op, false⟩) :
    (startSignature s).su = { s.su with channel := some ⟨op, true⟩ } := by
  unfold startSignature
  rw [hv, hc]
  rfl

/-- R67: whether a restart is due depends on the channel, the operation and the writes. -/
theorem restartDue_congr {s t : State} (hj : t.mc.state = s.mc.state) (ho : t.fp.op = s.fp.op) (hw : t.writes = s.writes) :
    restartDue t = restartDue s := by
  unfold restartDue
  rw [hj, ho, hw]

theorem endScan_failureWrites (reason : ScanReason) (k : Nat) (s : State) : (endScan (.failure reason k) s).writes = s.writes := by
  cases ho : s.isc.scan.owner with
  | stagedScan => rw [endScan_stagedFailure reason k ho]
  | bootScan => rw [endScan_bootFailure reason k ho, placeScanItem]

theorem beginSegment_writes (k : Nat) (s : State) : (beginSegment k s).writes = s.writes := rfl

theorem verifyCompleted_writes (valid : Bool) (s : State) : (verifyCompleted valid s).writes = s.writes := by
  unfold verifyCompleted
  split
  · exact endScan_failureWrites ..
  · split
    · exact endScan_failureWrites ..
    · rw [beginSegment_writes]
      split <;> rfl

theorem scanVerify_su (digest key signature : Bytes) (s : State) :
    (scanSignature (.verify digest key signature) s).su = { s.su with scan := none } ∧
      (scanSignature (.verify digest key signature) s).writes = s.writes := by
  unfold scanSignature
  dsimp only
  split
  · exact ⟨by simp, verifyCompleted_writes ..⟩
  · exact ⟨rfl, rfl⟩

/-- R81: at the end of the VERIFY the operation that waited runs. -/
theorem verify_runsWaiting {s : State} {digest key signature : Bytes} {op : SigOp} (hd : restartDue s = false)
    (hv : s.su.scan = some ⟨.verify digest key signature, true⟩) (hc : s.su.channel = some ⟨op, false⟩) :
    ∃ t, exec .signatureCompletion s = .next t ∧ t.su.scan = none ∧ t.su.channel = some ⟨op, true⟩ := by
  obtain ⟨hsu, hwrites⟩ := scanVerify_su digest key signature (freshPort s)
  have hdue : restartDue (scanSignature (.verify digest key signature) (freshPort s)) = false :=
    (restartDue_congr (by simp [freshPort]) (by simp [freshPort]) hwrites).trans hd
  refine ⟨_, exec_verifyEnd hd hv, ?_⟩
  rw [settle_su, hdue, if_neg Bool.false_ne_true,
    startSignature_waiting (op := op) (by rw [hsu]) (by rw [hsu]; exact hc), hsu]
  exact ⟨rfl, rfl⟩

end Sys2Proof.Machine

namespace Sys2Proof.Scans

open Sys2Proof Sys2Proof.Machine

/-- Settles O59: the placement of the VERIFY, its end by checks 5 to 9, and the operation that waited. -/
theorem verifyCompletionDecidesScan : Obligations.VerifyCompletionDecidesScan := by
  refine ⟨?_, ?_, fun s digest key signature op hd hv hc => verify_runsWaiting hd hv hc⟩
  · intro s input key manifest n _ hn hop hchunk hdc ha hd hi hkey hm placed
    exact ⟨fun hsc => manifestDigested_runs hn hop hchunk hdc ha hd hi hkey hm hsc,
      fun op hsc => manifestDigested_waits hn hop hchunk hdc ha hd hi hkey hm hsc⟩
  · intro s digest key signature manifest m hb hop hchunk hds hdc hda hsc hv hp hm hmap hidle valid ended failed stop target
      base before size inSlot meet count offset lane length below badTable aliased badSegment total first
    have hd : restartDue s = false := restartDue_none fun f hf => nomatch hidle.symm.trans hf
    have hbelow : below ↔ versionLow s.store.floor manifest := Iff.rfl
    have hbad : badTable ↔ regionsBad manifest := Iff.rfl
    have haliased : aliased ↔ regionsAliased m manifest := Iff.rfl
    have hsegment : badSegment ↔ segmentsBad m manifest := Iff.rfl
    have htotal : total = manifestChunks manifest := by
      rw [manifestChunks, manifestSegments, List.map_map]
      refine congrArg List.sum (List.map_congr_left fun k _ => ?_)
      rw [Function.comp_apply, manifestSegment_length]
      rfl
    have hfails : ∀ {reason : ScanReason}, valid = true → tableChecks s.store.floor m manifest = some reason →
        exec .signatureCompletion s = .next (failed reason (scanReasonCode reason)) :=
      fun hval h => verify_fails hop hchunk hds hdc hda hsc hv hp hm hmap hd hval h
    refine ⟨fun hval => verify_invalid hop hchunk hds hdc hda hsc hv hp hd hval,
      fun hval h => hfails hval (tableChecks_floor (hbelow.1 h)),
      fun hval h1 h => hfails hval (tableChecks_regions (mt hbelow.2 h1) (hbad.1 h)),
      fun hval h1 h2 h => hfails hval (tableChecks_aliased (mt hbelow.2 h1) (mt hbad.2 h2) (haliased.1 h)),
      fun hval h1 h2 h3 h =>
        hfails hval (tableChecks_segments (mt hbelow.2 h1) (mt hbad.2 h2) (mt haliased.2 h3) (hsegment.1 h)),
      fun hval h1 h2 h3 h4 => ?_⟩
    rw [verify_passes hb hop hchunk hds hdc hda hsc hv hp hm hmap hd hval
      (tableChecks_pass (mt hbelow.2 h1) (mt hbad.2 h2) (mt haliased.2 h3) (mt hsegment.2 h4)), htotal]
    rfl

end Sys2Proof.Scans
end

section
/-! PROOFS. The end of a segment's digest (R95, R96, R100, R101, R112, R113). -/

namespace Sys2Proof.Machine

/-- R74, R108: the scan place is empty after a segment's last chunk, which a staged scan counts. -/
def segmentEnded (s : State) : State :=
  { s with
    de.scan := none
    de.absorbing := none
    de.owed := false
    fp.sent := []
    isc.staging.chunksDone :=
      if s.isc.scan.owner = .stagedScan then s.isc.staging.chunksDone + 1 else s.isc.staging.chunksDone }

theorem segmentEnded_staged {s : State} (ho : s.isc.scan.owner = .stagedScan) :
    segmentEnded s =
      { s with
        de.scan := none
        de.absorbing := none
        de.owed := false
        fp.sent := []
        isc.staging.chunksDone := s.isc.staging.chunksDone + 1 } := by
  rw [segmentEnded, if_pos ho]

theorem segmentEnded_boot {s : State} (ho : s.isc.scan.owner = .bootScan) :
    segmentEnded s = { s with de.scan := none, de.absorbing := none, de.owed := false, fp.sent := [] } := by
  rw [segmentEnded, if_neg (by rw [ho]; exact nofun)]

/-- R95: a segment's digest has been found right. -/
def segmentRight (digest : Bytes) (s : State) : State :=
  { segmentEnded s with isc.scan.segmentDigests := s.isc.scan.segmentDigests ++ [digest] }

section Segment

variable {s : State} {item : DigestItem} {manifest : Bytes} (ha : s.de.absorbing = some .scan)
  (hi : s.de.scan = some item) (hw : item.work = .segment) (hk : item.kind = .segment) (hl : item.lastChunk = true)
  (hm : s.isc.scan.manifest = some manifest) (hd : restartDue s = false)
include ha hi hw hk hl hd

theorem exec_segmentDigested :
    exec .chunkEnd s = .next (settle (segmentDigested (shaOutput item.absorbed.running) (segmentEnded s))) := by
  rw [exec_chunkEnd_scan hd ha hi, scanChunkEnd_last hl, hw]
  refine congrArg (fun u => Host.Outcome.next (settle (segmentDigested (shaOutput item.absorbed.running) u))) ?_
  unfold reportAbsorbed segmentEnded
  rw [hk]
  by_cases ho : s.isc.scan.owner = .stagedScan
  · rw [if_pos ho, if_pos (by simp [freshPort, ho])]
    rfl
  · rw [if_neg ho, if_neg (by simp [freshPort, ho])]
    rfl

include hm

/-- R95, R96: a mismatch ends the scan. -/
theorem segment_mismatch
    (h : shaOutput item.absorbed.running ≠ (manifestSegment manifest s.isc.scan.segmentIndex).digest) :
    exec .chunkEnd s = .next (settle (endScan (.failure .segmentMismatch s.isc.scan.segmentIndex) (segmentEnded s))) := by
  rw [exec_segmentDigested ha hi hw hk hl hd]
  unfold segmentDigested segmentInHand
  rw [scanManifest_some (s := segmentEnded s) hm]
  exact congrArg (fun u => Host.Outcome.next (settle u)) (if_pos h)

variable (h : shaOutput item.absorbed.running = (manifestSegment manifest s.isc.scan.segmentIndex).digest)
include h

theorem segment_matches :
    exec .chunkEnd s =
      .next (settle (if s.isc.scan.segmentIndex + 1 < manifestSegmentCount manifest then
        beginSegment (s.isc.scan.segmentIndex + 1) (segmentRight (shaOutput item.absorbed.running) s)
        else endScan .pass (segmentRight (shaOutput item.absorbed.running) s))) := by
  rw [exec_segmentDigested ha hi hw hk hl hd]
  unfold segmentDigested segmentInHand
  rw [scanManifest_some (s := segmentEnded s) hm]
  refine congrArg (fun u => Host.Outcome.next (settle u)) ((if_neg (not_not_intro h)).trans ?_)
  dsimp only
  rw [scanManifest_some (by exact hm)]
  rfl

end Segment

theorem endScan_stagedPass {s : State} {manifest : Bytes} (ho : s.isc.scan.owner = .stagedScan)
    (hm : s.isc.scan.manifest = some manifest) :
    endScan .pass s =
      { s with
        isc.scan.phase := .ended
        isc.scan.result := some .pass
        isc.staging.state := .verified
        isc.staging.outcome := .pass (manifestVersion manifest) (manifestSigner manifest) (manifestLabel manifest)
        mc.flags.scanDone := true } := by
  unfold endScan
  dsimp only
  rw [ho]
  unfold stagedEnded
  dsimp only
  rw [scanManifest_some (by exact hm)]
  rfl

/-- R100: a boot scan's PASS. -/
theorem endScan_bootPass {s : State} {r : SlotRecord} (ho : s.isc.scan.owner = .bootScan) (hr : s.store.slotRecord = some r) :
    endScan .pass s =
      if r.stateOf s.isc.scan.slot = .failed then
        askWrite .slotController (.slotRecord (r.withState s.isc.scan.slot .valid))
          { s with isc.scan.phase := .ended, isc.scan.result := some .pass, isc.stage := .passWrite }
      else extendFrom 0 { s with isc.scan.phase := .ended, isc.scan.result := some .pass } := by
  unfold endScan
  dsimp only
  rw [ho]
  unfold bootPassed
  dsimp only
  rw [slotRecordOf_some (by exact hr)]

end Sys2Proof.Machine

namespace Sys2Proof.Scans

open Sys2Proof Sys2Proof.Machine

/-- Settles O60: the digest of a segment by its match, its place among the segments, and the owner of the scan. -/
theorem lastSegmentEndsScan : Obligations.LastSegmentEndsScan := by
  intro s item manifest hb hop hchunk hdc hss hsc ha hi hw hk hl hm hd k isLast digest expected y freed counted passed
  have hengines : enginesFree freed = true := enginesFree_iff.2 ⟨rfl, hdc, rfl, hss, hsc⟩
  have hfree : ScanFree (segmentEnded s) := ⟨hop, hengines, hchunk, hd⟩
  have hright : ScanFree (segmentRight digest s) := ⟨hop, hengines, hchunk, hd⟩
  have hlast : isLast → ¬ k + 1 < manifestSegmentCount manifest := fun h => by
    rw [← show k + 1 = manifestSegmentCount manifest from h]
    omega
  refine ⟨fun ho hne => ?_, fun ho heq hil => ?_, ?_, fun ho hidle => ⟨fun hne => ?_, ?_⟩, ?_⟩
  · rw [segment_mismatch ha hi hw hk hl hm hd hne, endScan_stagedFailure _ _ (by exact ho), segmentEnded_staged ho]
    exact congrArg Host.Outcome.next (ScanFree.settle_eq ⟨hop, hengines, hchunk, hd⟩)
  · rw [segment_matches ha hi hw hk hl hm hd heq, if_neg (hlast hil), endScan_stagedPass (by exact ho) (by exact hm),
      segmentRight, segmentEnded_staged ho]
    exact congrArg Host.Outcome.next (ScanFree.settle_eq ⟨hop, hengines, hchunk, hd⟩)
  · intro m heq hmore hmap g
    rw [segment_matches ha hi hw hk hl hm hd heq, if_pos hmore]
    refine congrArg Host.Outcome.next ((hright.beginsSegment hb (k + 1) hm hmap).trans ?_)
    cases ho : s.isc.scan.owner with
    | stagedScan =>
      rw [if_pos rfl, segmentRight, segmentEnded_staged ho]
      unfold segmentBegun
      dsimp only
      rw [ho]
      rfl
    | bootScan =>
      rw [if_neg nofun, segmentRight, segmentEnded_boot ho]
      unfold segmentBegun
      dsimp only
      rw [ho]
      rfl
  · rw [segment_mismatch ha hi hw hk hl hm hd hne, endScan_bootFailure _ _ (by exact ho), segmentEnded_boot ho]
    exact congrArg Host.Outcome.next (ScanFree.placesBuffer (s := { freed with
      isc.scan.result := some (.failure .segmentMismatch k)
      isc.stage := .failureDigest }) ⟨hop, hengines, hchunk, hd⟩ _ _)
  · intro r heq hil hr
    have hboot : BootFree passed :=
      ⟨hop, hengines, hchunk, flashHeld_free hb, fun f hf => (nomatch hidle.symm.trans hf), rfl⟩
    have hend : exec .chunkEnd s = .next (settle (if r.stateOf y = .failed then
        askWrite .slotController (.slotRecord (r.withState y .valid)) { passed with isc.stage := .passWrite }
        else extendFrom 0 passed)) := by
      rw [segment_matches ha hi hw hk hl hm hd heq, if_neg (hlast hil), endScan_bootPass (by exact ho) (by exact hr),
        segmentRight, segmentEnded_boot ho]
    refine ⟨fun hfailed hwrites => ?_, fun hno hc hresp hlanes => ⟨_, hend, ?_⟩⟩
    · rw [hend, if_pos hfailed]
      exact congrArg Host.Outcome.next (hboot.writes .passWrite _ hwrites)
    · rw [if_neg hno]
      exact hboot.measures 0 hm hlanes hc hresp
  · intro r ho heq hil hr hno hnone
    rw [segment_matches ha hi hw hk hl hm hd heq, if_neg (hlast hil), endScan_bootPass (by exact ho) (by exact hr),
      segmentRight, segmentEnded_boot ho, if_neg (by exact hno)]
    have hextend : extendFrom 0 passed = passReleased manifest passed := by
      rw [extendFrom_unmeasured (by rw [scanManifest_some (s := passed) hm]; exact fun j _ hj => hnone j hj), finishPass_eq (s := passed) hm]
    refine congrArg Host.Outcome.next ((congrArg settle hextend).trans ?_)
    exact ScanFree.settle_eq ⟨hop, hengines, hchunk, hd⟩

end Sys2Proof.Scans
end
